-- ==== Sys2Proof/Word.lean ====
section
/-! DEFINITION. The plain value types of the WG4120 model: bytes, digests and block runs (spec 0.7, 0.9).
Quantities that the manual counts (blocks, KiB, epochs, seconds, account indices) are natural numbers. -/

namespace Sys2Proof

/-- One byte of a record, a frame, a store page or PCI Express memory. -/
abbrev Byte := BitVec 8

/-- A batch or run digest: a 32-bit ones' complement sum (R169). -/
abbrev Digest := BitVec 32

/-- A volume number, 0 to 15 (Table 0-5). -/
abbrev Vol := Fin 16

/-- The number of a restore context (4.1) or of an inbound run context (7.1). -/
abbrev Ctx := Fin 4

/-- A ring number, 0 to 3 (R174). -/
abbrev RingNo := Fin 4

/-- A block run: its first block and its length in blocks (Table 0-3). -/
structure Run where
  first : Nat
  len : Nat
  deriving DecidableEq, Repr

namespace Run

/-- The block just past a run. -/
def stop (r : Run) : Nat := r.first + r.len

/-- Two runs share a block. -/
def overlaps (r x : Run) : Bool := decide (r.first < x.stop) && decide (x.first < r.stop)

/-- The parts of `r` that lie outside `x`. -/
def minus (r x : Run) : List Run :=
  if r.overlaps x then
    (if r.first < x.first then [⟨r.first, x.first - r.first⟩] else []) ++
    (if x.stop < r.stop then [⟨x.stop, r.stop - x.stop⟩] else [])
  else [r]

end Run

/-- The total length of a list of runs. -/
def runsLen (rs : List Run) : Nat := (rs.map Run.len).sum

end Sys2Proof
end

