-- ==== Sys2Proof/Syntax.lean ====
section
/-! DEFINITION. The commands the WG4120 takes: one constructor of `Instr` per row of spec/opcode_table.json, with the fields
the owning rule lists for it. Request fields hold the unsigned values of Table 11-1 as the record carries them (R203); the
owning rule checks their ranges. -/

namespace Sys2Proof

/-- CHARGE (R10). -/
structure ChargeParams where
  volume : Nat
  first : Nat
  len : Nat
  object : Nat
  offset : Nat
  owner : Nat
  group : Option Nat
  deriving DecidableEq, Repr

/-- SPLIT (R11): `k` is the split point. -/
structure SplitParams where
  volume : Nat
  first : Nat
  k : Nat
  deriving DecidableEq, Repr

/-- DROP (R13). -/
structure DropParams where
  volume : Nat
  first : Nat
  deriving DecidableEq, Repr

/-- QUERY_EXTENT (R14): `buffer` is the host buffer's address. -/
structure QueryExtentParams where
  volume : Nat
  block : Nat
  buffer : Nat
  deriving DecidableEq, Repr

/-- LOAD_SNAPSHOT (R16). -/
structure LoadSnapshotParams where
  volume : Nat
  epoch : Nat
  label : Nat
  createdAt : Nat
  base : Bool
  deriving DecidableEq, Repr

/-- LOAD_EXTENT (R17): the fields of CHARGE with the epochs and the source first block. -/
structure LoadExtentParams where
  charge : ChargeParams
  birth : Nat
  death : Option Nat
  source : Option Nat
  deriving DecidableEq, Repr

/-- OPEN_VOLUME (R18). -/
structure OpenVolumeParams where
  volume : Nat
  epoch : Nat
  deriving DecidableEq, Repr

/-- SCAN_OUT (R20): `what` is the collection's code, `max` the maximum count, `key` the resume key. -/
structure ScanOutParams where
  volume : Nat
  what : Nat
  buffer : Nat
  max : Nat
  key : Nat
  deriving DecidableEq, Repr

/-- SET_LIMIT (R37). -/
structure SetLimitParams where
  account : Nat
  hard : Nat
  margin : Nat
  grace : Nat
  privileged : Bool
  deriving DecidableEq, Repr

/-- LOAD_ACCOUNT (R38): `kind` is the account kind's code. -/
structure LoadAccountParams where
  account : Nat
  kind : Nat
  hard : Nat
  margin : Nat
  grace : Nat
  privileged : Bool
  deadline : Option Nat
  deriving DecidableEq, Repr

/-- QUERY_ACCOUNT (R40). -/
structure QueryAccountParams where
  account : Nat
  buffer : Nat
  deriving DecidableEq, Repr

/-- SNAPSHOT_CREATE and SNAPSHOT_RETIRE (R48, R55). -/
structure SnapshotParams where
  volume : Nat
  label : Nat
  deriving DecidableEq, Repr

/-- TAKE_RELEASED (R67). -/
structure TakeReleasedParams where
  volume : Nat
  buffer : Nat
  max : Nat
  deriving DecidableEq, Repr

/-- RESTORE (4.2): `runs` is the number of target runs in the host buffer. -/
structure RestoreParams where
  volume : Nat
  label : Nat
  srcObject : Nat
  srcOffset : Nat
  count : Nat
  tgtObject : Nat
  tgtOffset : Nat
  owner : Nat
  group : Option Nat
  buffer : Nat
  runs : Nat
  stepwise : Bool
  zeroHoles : Bool
  deriving DecidableEq, Repr

/-- PROBE (R91). -/
structure ProbeParams where
  volume : Nat
  label : Nat
  srcObject : Nat
  srcOffset : Nat
  count : Nat
  buffer : Nat
  max : Nat
  stepwise : Bool
  deriving DecidableEq, Repr

/-- RUN_START (R111). -/
structure RunStartParams where
  volume : Nat
  label : Nat
  newSnapshot : Bool
  full : Bool
  deriving DecidableEq, Repr

/-- GIVE_RUNS (R145): `count` runs wait in the host buffer. -/
structure GiveRunsParams where
  volume : Nat
  buffer : Nat
  count : Nat
  deriving DecidableEq, Repr

/-- STORE_STAGE (R192): the 32 data bytes of the record, of which `count` are used. -/
structure StoreStageParams where
  offset : Nat
  count : Nat
  data : List Byte
  deriving DecidableEq, Repr

/-- STORE_COMMIT (R193): `op` is the operation's code. -/
structure StoreCommitParams where
  page : Nat
  op : Nat
  deriving DecidableEq, Repr

/-- STORE_READ (R196). -/
structure StoreReadParams where
  page : Nat
  buffer : Nat
  deriving DecidableEq, Repr

/-- A request of one of the kinds of Table 9-5, with its fields. -/
inductive Request where
  | charge (p : ChargeParams)
  | split (p : SplitParams)
  | drop (p : DropParams)
  | queryExtent (p : QueryExtentParams)
  | queryVolume (volume : Nat)
  | loadSnapshot (p : LoadSnapshotParams)
  | loadExtent (p : LoadExtentParams)
  | openVolume (p : OpenVolumeParams)
  | sealVolume (volume : Nat)
  | unsealVolume (volume : Nat)
  | scanOut (p : ScanOutParams)
  | setLimit (p : SetLimitParams)
  | loadAccount (p : LoadAccountParams)
  | dropAccount (account : Nat)
  | queryAccount (p : QueryAccountParams)
  | setClock (value : Nat)
  | snapshotCreate (p : SnapshotParams)
  | snapshotRetire (p : SnapshotParams)
  | takeReleased (p : TakeReleasedParams)
  | restore (p : RestoreParams)
  | probe (p : ProbeParams)
  | cancelRestore (target : Nat)
  | queryMover (cls : Nat)
  | faultClear (cls : Nat)
  | runStart (p : RunStartParams)
  | runCancel (volume : Nat)
  | queryRun (volume : Nat)
  | giveRuns (p : GiveRunsParams)
  | replicaReset (volume : Nat)
  | queryInbound (volume : Nat)
  | queryPeer (index : Nat)
  | storeStage (p : StoreStageParams)
  | storeCommit (p : StoreCommitParams)
  | storeVerify
  | storeRead (p : StoreReadParams)
  | applyDefinitions
  | format
  deriving DecidableEq, Repr

/-- One Ethernet frame arriving at the port (R158): whether its frame check sequence is correct, its addresses, its EtherType and
its Ethernet payload. -/
structure EthFrame where
  fcsOk : Bool
  dest : Nat
  src : Nat
  etherType : Nat
  payload : List Byte
  deriving DecidableEq, Repr

/-- Which access of a mover unit returns a completion error (Table 5-3): the `n`-th read of the segment in progress, or its confirming
read. `written` is how many 4,096-byte accesses the segment had written before the error (notes/assumptions/20.md). -/
inductive UnitAccess where
  | read (n written : Nat)
  | confirm
  deriving DecidableEq, Repr

/-- Which RING-class access returns a completion error (R106). `moved` is how many bytes of the transfer had moved before the error (notes/assumptions/20.md). -/
inductive RingAccess where
  /-- the reading of the request record at the ring's head (R178) -/
  | requestRead (ring : RingNo)
  /-- the writing of the answer at this place of the ring's answer ring (R182) -/
  | answerWrite (ring : RingNo) (place : Nat)
  /-- the host-buffer transfer of the request at the ring's head, which is taken (R178) and ends unanswered -/
  | bufferAtHead (ring : RingNo) (moved : Nat)
  /-- the host-buffer transfer of a request already taken from the ring -/
  | buffer (ring : RingNo) (req : Request) (moved : Nat)
  /-- the writes of the TAKE_RELEASED in progress on the volume (R68) -/
  | takeReleased (volume : Vol) (moved : Nat)
  /-- the record write in progress of the SCAN_OUT taken from the ring (R21) -/
  | scanOut (ring : RingNo) (moved : Nat)
  /-- the piece write in progress of a PROBE (R92) -/
  | probeWrite (ctx : Ctx) (moved : Nat)
  deriving DecidableEq, Repr

/-- SCAN_OUT: the request is taken, or the export of the one taken from the ring goes on by one record, or ends (R20, R21; notes/assumptions/12.md). The tag of `goOn` is 0 and not
read: the export holds that of its request. -/
inductive ScanStep where
  | request (p : ScanOutParams)
  | goOn
  deriving DecidableEq, Repr

/-- TAKE_RELEASED: the request is taken, or its buffer writes complete (R67). -/
inductive TakeStep where
  | request (ring : RingNo) (tag : Nat) (p : TakeReleasedParams)
  | writesComplete (volume : Vol)
  deriving DecidableEq, Repr

/-- The commands, one constructor per row of spec/opcode_table.json in its order. A request row carries the ring it was taken from, its
tag and its fields; a row that is a step of one of the part's own operations names the volume or context whose step it is; a frame row
carries the arriving frame (notes/assumptions/20.md). -/
inductive Instr where
  | charge (ring : RingNo) (tag : Nat) (p : ChargeParams)
  | split (ring : RingNo) (tag : Nat) (p : SplitParams)
  | drop (ring : RingNo) (tag : Nat) (p : DropParams)
  | queryExtent (ring : RingNo) (tag : Nat) (p : QueryExtentParams)
  | queryVolume (ring : RingNo) (tag : Nat) (volume : Nat)
  | loadSnapshot (ring : RingNo) (tag : Nat) (p : LoadSnapshotParams)
  | loadExtent (ring : RingNo) (tag : Nat) (p : LoadExtentParams)
  | openVolume (ring : RingNo) (tag : Nat) (p : OpenVolumeParams)
  | sealVolume (ring : RingNo) (tag : Nat) (volume : Nat)
  | unsealVolume (ring : RingNo) (tag : Nat) (volume : Nat)
  | scanOut (ring : RingNo) (tag : Nat) (t : ScanStep)
  | setLimit (ring : RingNo) (tag : Nat) (p : SetLimitParams)
  | loadAccount (ring : RingNo) (tag : Nat) (p : LoadAccountParams)
  | dropAccount (ring : RingNo) (tag : Nat) (account : Nat)
  | queryAccount (ring : RingNo) (tag : Nat) (p : QueryAccountParams)
  | setClock (ring : RingNo) (tag : Nat) (value : Nat)
  | clockAdvance
  | graceExpiry
  | snapshotCreate (ring : RingNo) (tag : Nat) (p : SnapshotParams)
  | snapshotRetire (ring : RingNo) (tag : Nat) (p : SnapshotParams)
  | trimScanStep (volume : Vol)
  | takeReleased (t : TakeStep)
  /-- `targets` is what the RIU reads from the host buffer -/
  | restore (ring : RingNo) (tag : Nat) (p : RestoreParams) (targets : List Run)
  | probe (ring : RingNo) (tag : Nat) (p : ProbeParams)
  | cancelRestore (ring : RingNo) (tag : Nat) (target : Nat)
  | searchStep (ctx : Ctx)
  | pieceMap (ctx : Ctx)
  | pieceCreate (ctx : Ctx)
  | probePieceWrite (ctx : Ctx)
  | queryMover (ring : RingNo) (tag : Nat) (cls : Nat)
  | faultClear (ring : RingNo) (tag : Nat) (cls : Nat)
  | segmentComplete
  | unitComplete
  | shipPieceHandover
  | moverAccessFault (a : UnitAccess)
  | ringAccessFault (a : RingAccess)
  | runStart (ring : RingNo) (tag : Nat) (p : RunStartParams)
  | runCancel (ring : RingNo) (tag : Nat) (volume : Nat)
  | queryRun (ring : RingNo) (tag : Nat) (volume : Nat)
  | runDequeue
  | deltaScanStep
  | batchTransmitStart
  | resendStart
  | exchangeTimerExpiry
  | receiptTimerExpiry (seq : Nat)
  | busyWaitEnd
  | pacerInterval
  | offer (f : EthFrame)
  | accept (f : EthFrame)
  | decline (f : EthFrame)
  | batchHead (f : EthFrame)
  | batchData (f : EthFrame)
  | batchEnd (f : EthFrame)
  | receipt (f : EthFrame)
  | close (f : EthFrame)
  | closed (f : EthFrame)
  | abort (f : EthFrame)
  | frameRejected (f : EthFrame)
  | frameTransmit
  | carrierUp
  | carrierDown
  | idleTimerExpiry (ctx : Ctx)
  | commitScanStep (ctx : Ctx)
  | rollbackScanStep (ctx : Ctx)
  /-- `runs` is what the RIU reads from the host buffer -/
  | giveRuns (ring : RingNo) (tag : Nat) (p : GiveRunsParams) (runs : List Run)
  | replicaReset (ring : RingNo) (tag : Nat) (volume : Nat)
  | replicaResetEmpty (volume : Vol)
  | replicaResetAppend (volume : Vol)
  | queryInbound (ring : RingNo) (tag : Nat) (volume : Nat)
  | queryPeer (ring : RingNo) (tag : Nat) (index : Nat)
  | storeStage (ring : RingNo) (tag : Nat) (p : StoreStageParams)
  | storeCommit (ring : RingNo) (tag : Nat) (p : StoreCommitParams)
  /-- `misread` lists the places of the page that do not read back as they should, with the bytes they hold instead -/
  | storeCommitEnd (misread : List (Nat × Byte))
  | storeVerify (ring : RingNo) (tag : Nat)
  | storeRead (ring : RingNo) (tag : Nat) (p : StoreReadParams)
  | applyDefinitions (ring : RingNo) (tag : Nat)
  | format (ring : RingNo) (tag : Nat)
  | formatEnd
  | unknownRequest (ring : RingNo) (tag : Nat) (kind : Nat)
  | ringSetup (ring : RingNo) (size : Nat)
  | ringDisable (ring : RingNo)
  | requestTailWrite (ring : RingNo) (value : Nat)
  | answerConsumedWrite (ring : RingNo) (value : Nat)
  | stallSeenClear (ring : RingNo) (value : Nat)
  | registerWrite (offset : Nat) (value : Nat)
  | requestIntake (ring : RingNo)
  | noticePost
  /-- `strap` is the SERVICE level the operator has set, `written` how many accesses a unit under way had written -/
  | coldStart (strap : Bool) (written : Nat)
  /-- `written` is how many accesses a unit under way had written before the reset -/
  | functionReset (written : Nat)
  deriving DecidableEq, Repr

end Sys2Proof
end

