-- ==== Sys2Proof/Config.lean ====
section
/-! DEFINITION. What is fixed for the part: the capacities and ranges the manual states, and the free values,
opaque constants without a body that stand for values the manual leaves open. -/

namespace Sys2Proof.Config

/-- Records the extent table holds (R3). -/
def maxExtents : Nat := 16777216
/-- Snapshots and reserved places a snapshot list holds (R47). -/
def maxSnapshots : Nat := 64
/-- Entries a release list holds (R65). -/
def maxRelease : Nat := 4096
/-- Entries a landing pool holds (R144). -/
def maxPool : Nat := 4096
/-- Blocks one release-list or landing-pool entry may cover (R65, R144). -/
def maxRun : Nat := 65535
/-- Longest extent record and longest piece that makes records (Table 0-5, R82). -/
def maxExtentLen : Nat := 4096
/-- Pieces a plan holds (R79). -/
def maxPlan : Nat := 256
/-- Batches of the outstanding list (R122). -/
def maxOutstanding : Nat := 8
/-- Payload entries of one batch (R120). -/
def maxPayloadEntries : Nat := 32
/-- Deletion entries of one batch (R120). -/
def maxDeletions : Nat := 128
/-- Payload KiB of one batch (R120). -/
def maxBatchKiB : Nat := 8192
/-- Credits of the pacer's bucket (R123). -/
def maxCredits : Nat := 64
/-- Control frames of the control queue (R166). -/
def maxControl : Nat := 16
/-- Entries of the pending notice set (R186). -/
def maxNotices : Nat := 64
/-- Answers of an overflow holder (R183). -/
def maxHolder : Nat := 2
/-- The greatest 32-bit value: the last clock value, epoch, run id and lost count (Table 0-5). -/
def max32 : Nat := 4294967295
/-- The greatest 48-bit value: the last hard limit and object number (Table 0-5). -/
def max48 : Nat := 281474976710655
/-- Blocks of a file object and of the largest volume, 2^40 (Table 0-5). -/
def maxBlocks : Nat := 1099511627776
/-- The greatest account index (Table 0-5). -/
def maxAccount : Nat := 262143
/-- The greatest grace period in seconds (Table 2-2). -/
def maxGrace : Nat := 16777215

/-- FREE VALUE: the `i`-th byte of the `n`-th open run of bytes: a store page whose contents the manual calls undefined
(R190, R194), the place of an answer whose write failed (R182), or a peer's reason too wide for its byte (notes/assumptions/11.md). Nothing is known of it
(notes/assumptions/5.md). -/
opaque freeByte : (n i : Nat) → Byte

/-- FREE VALUE: the digest of a batch that a LANDED receipt retires before any send of it has completed: Table 6-3 calls that
digest absent, and R125 still adds it to the run digest. Nothing is known of it (notes/assumptions/5.md). -/
opaque freeDigest : (n : Nat) → Digest

end Sys2Proof.Config
end

