-- ==== Sys2Proof/Machine/Bytes.lean ====
section
/-! DEFINITION. Byte order and sums: little-endian fields (chapter 11), the ones' complement sums of R163 and R169, and the
store's CRC-16 (R195). -/

namespace Sys2Proof.Machine

/-- The `w` bytes of `n`, lowest-order first (chapter 11: multi-byte fields are little-endian). -/
def le : (w n : Nat) → List Byte
  | 0, _ => []
  | w + 1, n => BitVec.ofNat 8 n :: le w (n / 256)

/-- The value of a little-endian byte list. -/
def ofLe : List Byte → Nat
  | [] => 0
  | b :: bs => b.toNat + 256 * ofLe bs

/-- The field of `w` bytes at offset `o` of a record. -/
def field (bs : List Byte) (o w : Nat) : Nat := ofLe ((bs.drop o).take w)

/-- Bytes that no field occupies are written 0 (R203). -/
def zeros (n : Nat) : List Byte := List.replicate n 0

/-- One flag bit in the place `i` of a byte or word. -/
def flagBit (b : Bool) (i : Nat) : Nat := if b then 2 ^ i else 0

/-- A count placed in a field of `w` bits: too large a count reads as the largest value the field holds (R203). -/
def saturate (w n : Nat) : Nat := min n (2 ^ w - 1)

/-- One addition of the digest arithmetic: a carry out of bit 31 is dropped and 1 added (R169). -/
def digestAdd (a b : Digest) : Digest :=
  if a.toNat + b.toNat < 4294967296 then a + b else a + b + 1

/-- The 32-bit little-endian words of a payload (R169). -/
def digestWords : List Byte → List Digest
  | a :: b :: c :: d :: rest => BitVec.ofNat 32 (ofLe [a, b, c, d]) :: digestWords rest
  | _ => []

/-- A digest carried on over further payload bytes (R101, R142, R170). -/
def digestFeed (d : Digest) (bs : List Byte) : Digest := (digestWords bs).foldl digestAdd d

/-- One addition of the header check: a carry out of bit 15 is dropped and 1 added (R163). -/
def checkAdd (a b : Nat) : Nat := if a + b < 65536 then a + b else a + b - 65536 + 1

/-- The header check of a 24-byte header: the sum of its twelve 16-bit words other than the check field at 2 (R163). -/
def headerCheck (h : List Byte) : Nat :=
  [0, 4, 6, 8, 10, 12, 14, 16, 18, 20, 22].foldl (fun acc o => checkAdd acc (field h o 2)) 0

/-- One of the eight shifts of the CRC register (R195). -/
def crcShift (r : Nat) : Nat :=
  if r < 32768 then 2 * r else (2 * r - 65536) ^^^ 0x1021

/-- One byte through the CRC register (R195, Table 10-2). -/
def crcByte (r : Nat) (b : Byte) : Nat :=
  crcShift (crcShift (crcShift (crcShift (crcShift (crcShift (crcShift (crcShift (r ^^^ (b.toNat * 256)))))))))

/-- The CRC-16 of a byte list: the register starts at 0xFFFF, no final value is combined (R195). -/
def crc16 (bs : List Byte) : Nat := bs.foldl crcByte 0xFFFF

end Sys2Proof.Machine
end

