-- ==== Sys2Proof/Machine/State.lean ====
section
/-! DEFINITION. The state of the WG4120, block by block as Table 0-1 lists them, and its state right after a cold start.
Everything is plain data. -/

namespace Sys2Proof.Machine

/-- No meaning of this model stops with a fault: the block has no exception, an error is a status, a flag or a notice, and every
command of the table leads to a next state. -/
inductive Fault
  deriving DecidableEq, Repr

/-- Why the model gives a command no meaning. -/
inductive Refusal where
  /-- raised by `exec` for a row that has no meaning yet; safe. No arm of `exec` raises it. -/
  | notModelled (mnemonic : String)
  deriving DecidableEq, Repr

/-! ### Request rings, answers and notices (chapter 9) -/

/-- Ring states (Table 9-2). -/
inductive RingState where
  | disabled | enabled | stalled | faulted
  deriving DecidableEq, Repr

/-- Fault causes of a ring (Table 9-1). -/
inductive RingCause where
  | none | setup | tailRange | consumedRange | access
  deriving DecidableEq, Repr

/-- An answer or notice before it is written: its codes and values (Table 11-4). -/
structure Answer where
  tag : Nat
  kind : Nat
  status : Nat
  a : Nat
  b : Nat
  c : Nat
  deriving DecidableEq, Repr

/-- Who waits for a waiting answer to be handed on (R183). -/
inductive AnswerOwner where
  | none
  /-- the ACCEPTED answer of a RESTORE or PROBE (R77) -/
  | accepted (ctx : Ctx)
  /-- a step answer of a RESTORE or PROBE (R88, R92) -/
  | step (ctx : Ctx)
  /-- the completion answer of a RESTORE or PROBE (R73) -/
  | restoreEnd (ctx : Ctx)
  /-- the completion answer of the active outbound run (R110) -/
  | runEnd
  deriving DecidableEq, Repr

/-- A waiting answer with its owner. -/
structure Due where
  answer : Answer
  owner : AnswerOwner
  deriving DecidableEq, Repr

/-- The four setup values of a ring (Table 9-1). -/
structure RingSetup where
  reqBase : Nat
  reqSize : Nat
  ansBase : Nat
  ansSize : Nat
  deriving DecidableEq, Repr

/-- One request and answer ring pair (Tables 9-1 and 9-2): the setup values as stored, those in effect since the last setup act
(notes/assumptions/35.md), the pointers, the answer phase, the state registers, the overflow holder and the waiting answers. -/
structure Ring where
  stored : RingSetup
  setup : RingSetup
  tail : Nat
  head : Nat
  consumed : Nat
  posted : Nat
  phase : Bool
  state : RingState
  cause : RingCause
  stallSeen : Bool
  holder : List Answer
  waiting : List Due
  deriving DecidableEq, Repr

/-- The kinds of notice (Table 9-3), NOTICE_OVERFLOW apart. -/
inductive NoticeKind where
  | softCrossed | graceExpired | hardExceeded | reserveOver | snapshotTrimmed | releaseReady | releaseFull
  | inboundCommitted | inboundAborted | linkChange | moverFault
  deriving DecidableEq, Repr

/-- An entry of the pending notice set: kind, subject (B and C of Table 9-3) and repeat count (R186). -/
structure Notice where
  kind : NoticeKind
  b : Nat
  c : Nat
  count : Nat
  deriving DecidableEq, Repr

/-- The collections of SCAN_OUT (Table 1-5). -/
inductive ScanWhat where
  | extents | accounts | snapshots
  deriving DecidableEq, Repr

/-- A SCAN_OUT whose export is under way (R20, R21): the collection, the buffer and the maximum count of its request, the key its walk has come to, and the count written. -/
structure Scan where
  tag : Nat
  volume : Vol
  what : ScanWhat
  buffer : Nat
  max : Nat
  key : Nat
  count : Nat
  deriving DecidableEq, Repr

/-- The Ring Interface Unit. `scans` holds, per ring, the SCAN_OUT taken from it that is not yet whole (R179; notes/assumptions/12.md). -/
structure Riu where
  rings : Vector Ring 4
  notices : List Notice
  overflow : Bool
  lost : Nat
  scans : Vector (Option Scan) 4
  deriving DecidableEq, Repr

/-! ### Extents and volumes (chapter 1) -/

/-- The two provisional marks (R136). -/
inductive MarkKind where
  | provBirth | provDeath
  deriving DecidableEq, Repr

/-- A provisional mark: an inbound run's id with its kind (Table 1-1). -/
structure Mark where
  runId : Nat
  kind : MarkKind
  deriving DecidableEq, Repr

/-- An extent record (Table 1-1). Its state is LIVE exactly while `death` is absent (R1). -/
structure Extent where
  volume : Vol
  first : Nat
  len : Nat
  object : Nat
  offset : Nat
  owner : Nat
  group : Option Nat
  birth : Nat
  death : Option Nat
  filling : Bool
  mark : Option Mark
  source : Option Nat
  deriving DecidableEq, Repr

/-- Volume roles (Table 1-3). -/
inductive Role where
  | unused | primary | replica
  deriving DecidableEq, Repr

/-- Volume states (Table 1-4). -/
inductive VolState where
  | undefined | defined | online | sealed
  deriving DecidableEq, Repr

/-- A volume's definition, as the policy store gives it (Table 1-3, R197). -/
structure VolumeDef where
  role : Role
  blockKiB : Nat
  blockCount : Nat
  aperture : Nat
  reserveLimit : Nat
  reserveMargin : Nat
  autoTrim : Bool
  peer : Option Nat
  remote : Option Nat
  landingLimit : Nat
  landingMargin : Nat
  deriving DecidableEq, Repr

/-- The definition of an UNUSED volume. -/
def VolumeDef.unused : VolumeDef := ⟨.unused, 0, 0, 0, 0, 0, false, none, none, 0, 0⟩

/-- A volume record (Table 1-3): its definition and its running state. `seen` is the greatest epoch seen among loaded snapshots and
records (R18). The snapshot gate is `SnapVol.gate`. -/
structure Volume where
  state : VolState
  defn : VolumeDef
  epoch : Option Nat
  baseLabel : Option Nat
  seen : Option Nat
  deriving DecidableEq, Repr

/-- An UNDEFINED volume. Of its record the manual gives the state, the epoch and the label; the role UNUSED and the zeros of its other definition fields, which QUERY_VOLUME
shows, are the model's (notes/assumptions/1.md). -/
def Volume.undefined : Volume := ⟨.undefined, .unused, none, none, none⟩

/-- The Estate Table Unit: the extent table in its primary order, and the volume records. -/
structure Etu where
  extents : List Extent
  vols : Vector Volume 16
  deriving DecidableEq, Repr

/-! ### Quota accounts (chapter 2) -/

/-- Account kinds (Table 2-1). -/
inductive AccountKind where
  | none | user | group | reserve | landing
  deriving DecidableEq, Repr

/-- Account states (Table 2-2). -/
inductive AccountState where
  | under | grace | expired | overHard | over
  deriving DecidableEq, Repr

/-- An account record (Table 2-2). -/
structure Account where
  kind : AccountKind
  usage : Nat
  hard : Nat
  margin : Nat
  grace : Nat
  deadline : Option Nat
  state : AccountState
  privileged : Bool
  records : Nat
  deriving DecidableEq, Repr

/-- An account of kind NONE (2.2). -/
def Account.none : Account := ⟨.none, 0, 0, 0, 0, Option.none, .under, false, 0⟩

/-- The Quota Unit: the accounts other than NONE by ascending index, the grace timer list as (deadline, index) pairs in its order (R43), the
estate clock, and whether the examination of the list that a clock advance starts is still to be finished (R41, R44). -/
structure Qu where
  accounts : List (Nat × Account)
  timers : List (Nat × Nat)
  clock : Nat
  examining : Bool
  deriving DecidableEq, Repr

/-! ### Snapshots and release lists (chapter 3) -/

/-- A snapshot record (Table 3-1); it is RETIRING when `active` is false. -/
structure Snapshot where
  epoch : Nat
  label : Nat
  createdAt : Nat
  active : Bool
  replBase : Bool
  replTarget : Bool
  holds : Nat
  deriving DecidableEq, Repr

/-- A create waiting on the snapshot gate, with the label of its reserved place (R50). -/
inductive GateCreate where
  | host (ring : RingNo) (tag : Nat) (label : Nat)
  | sender (label : Nat)
  deriving DecidableEq, Repr

/-- Where a retirement came from (R56); `hostSilent` is a HOST entry that was in the queue at a function reset (R71). -/
inductive RetireOrigin where
  | host (ring : RingNo) (tag : Nat)
  | hostSilent
  | auto
  deriving DecidableEq, Repr

/-- A retire-queue entry with its running totals (R56). -/
structure RetireEntry where
  epoch : Nat
  origin : RetireOrigin
  records : Nat
  kib : Nat
  deriving DecidableEq, Repr

/-- The trim scanner of a volume (3.5), with its cursor (R4); `waiting` also holds the record's first block as the cursor. -/
inductive TrimState where
  | idle
  | scanning (cursor : Nat)
  | waiting (cursor : Nat)
  deriving DecidableEq, Repr

/-- Auto-trim states (R62). -/
inductive AutoTrim where
  | off | working | stalled
  deriving DecidableEq, Repr

/-- A producer waiting on a release list (R66). -/
inductive Producer where
  | trim
  | commit (ctx : Ctx)
  | rollback (ctx : Ctx)
  | reset
  deriving DecidableEq, Repr

/-- A TAKE_RELEASED whose buffer writes are in progress: `count` front entries of the list (R67, R68). -/
structure Taking where
  ring : RingNo
  tag : Nat
  buffer : Nat
  count : Nat
  deriving DecidableEq, Repr

/-- What the Snapshot Unit keeps for one volume (3.1). The gate is CLOSING exactly while `gate` is not empty (R50); `commitPlace` is the label
of the place reserved for an inbound commit (R52). -/
structure SnapVol where
  snaps : List Snapshot
  gate : List GateCreate
  commitPlace : Option Nat
  retire : List RetireEntry
  trim : TrimState
  auto : AutoTrim
  release : List Run
  producers : List Producer
  taking : Option Taking
  deriving DecidableEq, Repr

/-- A volume without snapshots (R70). -/
def SnapVol.empty : SnapVol := ⟨[], [], none, [], .idle, .off, [], [], none⟩

/-- The Snapshot Unit. -/
structure Su where
  vols : Vector SnapVol 16
  deriving DecidableEq, Repr

/-! ### Restores (chapter 4) -/

/-- Context phases (Table 4-1). -/
inductive Phase where
  | free | claimed | searching | copying | ending
  deriving DecidableEq, Repr

/-- A piece of a plan (Table 4-3); `source` is the source first block of a DATA piece and absent in a HOLE. -/
structure Piece where
  source : Option Nat
  offset : Nat
  len : Nat
  deriving DecidableEq, Repr

/-- The piece in flight: its piece, its one or two target segments, and whether its records have been made (R82, R84). -/
structure Flight where
  piece : Piece
  segs : List Run
  created : Bool
  deriving DecidableEq, Repr

/-- A restore context (4.1). `pos` counts the target blocks given to pieces, from the first block of the first target run; `searchPos` is the
search position. `acceptedDue` and `stepDue` say that the ACCEPTED answer or a step answer still waits to be handed on (R77, R88). -/
structure RestoreCtx where
  phase : Phase
  probe : Bool
  ring : RingNo
  tag : Nat
  volume : Vol
  epoch : Nat
  srcObject : Nat
  srcOffset : Nat
  count : Nat
  tgtObject : Nat
  tgtOffset : Nat
  owner : Nat
  group : Option Nat
  stepwise : Bool
  zeroHoles : Bool
  targets : List Run
  claim : List Run
  pos : Nat
  searchPos : Nat
  plan : List Piece
  flight : Option Flight
  copied : Nat
  zeroed : Nat
  buffer : Nat
  max : Nat
  written : Nat
  cancel : Bool
  acceptedDue : Bool
  stepDue : Bool
  deriving DecidableEq, Repr

/-- A FREE context (R93; notes/assumptions/1.md). -/
def RestoreCtx.free : RestoreCtx :=
  ⟨.free, false, 0, 0, 0, 0, 0, 0, 0, 0, 0, 0, none, false, false, [], [], 0, 0, [], none, 0, 0, 0, 0, 0, false, false, false⟩

/-- The Restore Unit: its four contexts, and the contexts whose pieces wait at a snapshot gate, oldest first (R50). -/
structure Ru where
  ctxs : Vector RestoreCtx 4
  gateOrder : List Ctx
  deriving DecidableEq, Repr

/-! ### The data mover (chapter 5) -/

/-- Requester classes (Table 5-1). -/
inductive MoverClass where
  | restore | ship | land | ring
  deriving DecidableEq, Repr

/-- One end of a segment (R96). A staging end carries the slot's payload, which does not change while the unit waits or runs
(notes/assumptions/34.md). -/
inductive MoveEnd where
  | aperture (volume : Vol) (runs : List Run)
  | zero
  | staging (payload : List Byte)
  | link
  deriving DecidableEq, Repr

/-- A segment of a unit (R96). -/
structure Segment where
  source : MoveEnd
  dest : MoveEnd
  blocks : Nat
  deriving DecidableEq, Repr

/-- A unit, waiting or served (R96, R99): its class and requester number, its two segments, which of them is in progress, and for a SHIP unit
the batch's seq, the payload bytes handed over, the digest so far, and whether its remaining pieces are discarded (R127, R130). -/
structure MoverUnit where
  cls : MoverClass
  num : Ctx
  seg1 : Segment
  seg2 : Segment
  second : Bool
  seq : Nat
  handed : Nat
  digest : Digest
  discard : Bool
  deriving DecidableEq, Repr

/-- Access kinds of the fault record (Table 5-3); `none` stands for the value 0 of a cleared record. -/
inductive AccessKind where
  | none | read | confirm | host
  deriving DecidableEq, Repr

/-- The target of a faulted access (Table 5-3); `none` stands for the value 0 of a cleared record. -/
inductive FaultTarget where
  | none
  | volume (v : Vol)
  | host
  deriving DecidableEq, Repr

/-- A fault record entry (Table 5-3). -/
structure FaultRec where
  fault : Bool
  address : Nat
  access : AccessKind
  target : FaultTarget
  further : Bool
  deriving DecidableEq, Repr

/-- A clear fault record entry (R109). -/
def FaultRec.clear : FaultRec := ⟨false, 0, .none, .none, false⟩

/-- The Data Mover: the engine is IDLE while `engine` is absent; the waiting set stands in the order its requesters asked; the fault record has
one entry per class by its code. -/
structure Dm where
  engine : Option MoverUnit
  waiting : List MoverUnit
  pointer : MoverClass
  faults : Vector FaultRec 4
  deriving DecidableEq, Repr

/-! ### The duplication link (chapter 8) -/

/-- Frame kinds (Table 8-3). -/
inductive FrameKind where
  | offer | accept | decline | batchHead | batchData | batchEnd | receipt | close | closed | abort
  deriving DecidableEq, Repr

/-- Frame directions (Table 8-2). -/
inductive Direction where
  | forward | backward
  deriving DecidableEq, Repr

/-- A frame handed to the Link Controller: its destination, the header fields its producer gives (R162), and its protocol payload. -/
structure OutFrame where
  dest : Nat
  kind : FrameKind
  dir : Direction
  runId : Nat
  sendVol : Nat
  recvVol : Nat
  seq : Nat
  arg : Nat
  payload : List Byte
  deriving DecidableEq, Repr

/-- A peer table entry (Table 8-1). -/
structure Peer where
  address : Nat
  id : Nat
  enabled : Bool
  frameError : Bool
  deriving DecidableEq, Repr

/-- A disabled entry with address 0 and peer id 0 (R173). -/
def Peer.off : Peer := ⟨0, 0, false, false⟩

/-- The Link Controller. `wire` is the last frame that left for the wire, as its bytes (R162; notes/assumptions/32.md). -/
structure Lc where
  up : Bool
  station : Nat
  localId : Nat
  etherType : Nat
  peers : Vector Peer 4
  control : List OutFrame
  slot : Option OutFrame
  wire : Option EthFrame
  deriving DecidableEq, Repr

/-! ### The sending side (chapter 6) -/

/-- A queued run (R112). -/
structure QueuedRun where
  volume : Vol
  ring : RingNo
  tag : Nat
  label : Nat
  newSnapshot : Bool
  full : Bool
  deriving DecidableEq, Repr

/-- States of the active run (Table 6-2). -/
inductive RunState where
  | offering | shipping | draining | closing | ended
  deriving DecidableEq, Repr

/-- The active run's copy of its peer's definition (R115). -/
structure PeerCopy where
  address : Nat
  id : Nat
  remote : Nat
  deriving DecidableEq, Repr

/-- The end of an outbound run: its reason and detail codes (R130). DONE is the reason 0x20. -/
structure RunEnd where
  reason : Nat
  detail : Nat
  deriving DecidableEq, Repr

/-- The counts of a run (Table 6-1). -/
structure RunCounts where
  batches : Nat
  kib : Nat
  entries : Nat
  deletions : Nat
  deriving DecidableEq, Repr

/-- The active outbound run (Table 6-1). `exchange` is the running exchange timer's duration in seconds, `offerSent` whether an OFFER of the run has
left for the wire (R116). -/
structure OutRun where
  runId : Nat
  volume : Vol
  ring : RingNo
  tag : Nat
  label : Nat
  newSnapshot : Bool
  full : Bool
  base : Nat
  target : Option Nat
  peer : Option PeerCopy
  state : RunState
  adopted : Bool
  resends : Nat
  exchange : Option Nat
  offerSent : Bool
  digest : Digest
  nextSeq : Nat
  counts : RunCounts
  batchResends : Nat
  ending : Option RunEnd
  deriving DecidableEq, Repr

/-- A payload entry of a batch (R118). -/
structure PayloadEntry where
  first : Nat
  len : Nat
  object : Nat
  offset : Nat
  owner : Nat
  group : Option Nat
  birth : Nat
  deriving DecidableEq, Repr

/-- Batch stages (Table 6-3). -/
inductive BatchStage where
  | assembling | held | sending | awaiting | pendingResend
  deriving DecidableEq, Repr

/-- A batch (Table 6-3). `timer` is the running receipt timer's duration in seconds. -/
structure Batch where
  seq : Nat
  payload : List PayloadEntry
  deletions : List Run
  kib : Nat
  stage : BatchStage
  digest : Option Digest
  resends : Nat
  timer : Option Nat
  deriving DecidableEq, Repr

/-- An empty assembly batch; it takes its seq when it closes (R120). -/
def Batch.empty : Batch := ⟨0, [], [], 0, .assembling, none, 0, none⟩

/-- The values of store page 21 in effect (R197, R198). -/
structure Settings where
  pDay : Nat
  pNight : Nat
  nightStart : Nat
  nightEnd : Nat
  receiptTimeout : Nat
  idleTimeout : Nat
  deriving DecidableEq, Repr

/-- The values in effect when the store does not verify (R200). -/
def Settings.safe : Settings := ⟨0, 0, 0, 0, 60, 300⟩

/-- The Duplication Sender. `scanning` is the delta scanner's cursor while it runs and `rest` the part of a sliced entry that stays with it (R120);
`closed` is a closed batch waiting behind the holding slot; `handover` holds the batch frames to be handed to the link when its slot is empty (R166);
`lookDue` says that an event of R114 calls for a look at the queue (notes/assumptions/7.md). -/
structure Ds where
  queue : List QueuedRun
  active : Option OutRun
  nextRunId : Nat
  scanning : Option Nat
  rest : Option PayloadEntry
  assembly : Batch
  closed : Option Batch
  holding : Option Batch
  outstanding : List Batch
  busyWait : Bool
  handover : List OutFrame
  bucket : Nat
  p : Nat
  settings : Settings
  lookDue : Bool
  deriving DecidableEq, Repr

/-! ### The receiving side (chapter 7) -/

/-- Inbound context states (Table 7-2). -/
inductive InState where
  | free | open | committing | aborting
  deriving DecidableEq, Repr

/-- Staging slot states (Table 7-4). -/
inductive SlotState where
  | empty | filling | ready | landing
  deriving DecidableEq, Repr

/-- A staging slot (Table 7-4); `payload` holds the bytes received, `taken` the pool blocks of each payload entry while LANDING (R146). -/
structure Slot where
  state : SlotState
  seq : Nat
  entries : List PayloadEntry
  deletions : List Run
  total : Nat
  payload : List Byte
  gap : Bool
  arrival : Digest
  sent : Digest
  taken : List (List Run)
  deriving DecidableEq, Repr

/-- An EMPTY slot. -/
def Slot.clear : Slot := ⟨.empty, 0, [], [], 0, [], false, 0, 0, []⟩

/-- Kinds of pending reply (R140). -/
inductive ReplyKind where
  | busy | duplicate
  deriving DecidableEq, Repr

/-- An inbound run context (Table 7-1). `sendVol` is the OFFER's sending volume, which the receiver's frames write back (R162); `idle` the running idle
timer's duration; `cursor` and `walkDone` the commit or rollback scan's walk (R4). -/
structure InCtx where
  state : InState
  volume : Vol
  runId : Nat
  peer : Ctx
  peerId : Nat
  peerAddr : Nat
  sendVol : Nat
  base : Nat
  target : Nat
  expected : Nat
  digest : Digest
  slots : Vector Slot 2
  reply : Option (Nat × ReplyKind)
  idle : Option Nat
  reason : Option Nat
  cursor : Nat
  walkDone : Bool
  deriving DecidableEq, Repr

/-- A FREE context with both slots EMPTY (R157; notes/assumptions/1.md). -/
def InCtx.free : InCtx :=
  ⟨.free, 0, 0, 0, 0, 0, 0, 0, 0, 0, 0, Vector.replicate 2 .clear, none, none, none, 0, false⟩

/-- A volume's last committed run (R151). -/
structure LastRun where
  runId : Nat
  peerId : Nat
  peerAddr : Nat
  deriving DecidableEq, Repr

/-- A REPLICA_RESET in progress (R154): where its DONE goes (nowhere after a function reset), whether it has emptied the volume, its outgoing runs not yet
appended, and its totals. -/
structure ResetJob where
  answer : Option (RingNo × Nat)
  emptied : Bool
  outgoing : List Run
  records : Nat
  snaps : Nat
  blocks : Nat
  deriving DecidableEq, Repr

/-- What the Duplication Receiver keeps for one volume: the landing pool with its take mark (R144), the last committed run, and a REPLICA_RESET in
progress. -/
structure ReplVol where
  pool : List Run
  takeMark : Nat
  last : Option LastRun
  reset : Option ResetJob
  deriving DecidableEq, Repr

/-- A volume with an empty pool (R157). -/
def ReplVol.empty : ReplVol := ⟨[], 0, none, none⟩

/-- The Duplication Receiver. -/
structure Dr where
  ctxs : Vector InCtx 4
  vols : Vector ReplVol 16
  deriving DecidableEq, Repr

/-! ### The policy store (chapter 10) -/

/-- STORE_COMMIT operations (R193). -/
inductive CommitOp where
  | erase | program | eraseProgram
  deriving DecidableEq, Repr

/-- The commit in progress; its DONE goes nowhere after a function reset (R189). -/
structure Commit where
  page : Nat
  op : CommitOp
  answer : Option (RingNo × Nat)
  deriving DecidableEq, Repr

/-- A FORMAT in progress with what it removed; its DONE goes nowhere after a function reset (R202). -/
structure FormatJob where
  answer : Option (RingNo × Nat)
  records : Nat
  snaps : Nat
  deriving DecidableEq, Repr

/-- The Policy Store. `pages` lists the bytes of the 64 pages that are not 0xFF, by 256 times the page plus the place; `staging` likewise those of the
staging page. -/
structure Ps where
  pages : List Host.Cell
  staging : List Host.Cell
  locked : Bool
  commit : Option Commit
  safe : Bool
  format : Option FormatJob
  deriving DecidableEq, Repr

/-! ### The whole part -/

/-- The state of the WG4120: the commands that wait, the PCI Express memory its bus master reaches (host memory and the storage apertures), the SERVICE
input's level, the count of open values used so far, and the ten blocks of Table 0-1. -/
structure State where
  pending : List Instr
  mem : List Host.Cell
  strap : Bool
  free : Nat
  riu : Riu
  etu : Etu
  qu : Qu
  su : Su
  ru : Ru
  dm : Dm
  ds : Ds
  dr : Dr
  lc : Lc
  ps : Ps
  deriving DecidableEq, Repr

/-- A ring after cold start (R189). -/
def Ring.off : Ring :=
  ⟨⟨0, 0, 0, 0⟩, ⟨0, 0, 0, 0⟩, 0, 0, 0, 0, false, .disabled, .none, false, [], []⟩

/-- The Ring Interface Unit after cold start (R189; notes/assumptions/1.md). -/
def Riu.start : Riu := ⟨Vector.replicate 4 .off, [], false, 0, Vector.replicate 4 none⟩

/-- The Restore Unit after cold start (R93). -/
def Ru.start : Ru := ⟨Vector.replicate 4 .free, []⟩

/-- The Data Mover after cold start (R109). -/
def Dm.start : Dm := ⟨none, [], .land, Vector.replicate 4 .clear⟩

/-- The Duplication Sender after cold start (R134), with `p` and the settings it comes up with (notes/assumptions/1.md). -/
def Ds.start (p : Nat) (settings : Settings) : Ds :=
  ⟨[], none, 1, none, none, .empty, none, none, [], false, [], 0, p, settings, false⟩

/-- The Duplication Receiver after cold start (R157; notes/assumptions/1.md). -/
def Dr.start : Dr := ⟨Vector.replicate 4 .free, Vector.replicate 16 .empty⟩

/-- The part right after a cold start with an erased policy store, the strap clear and no carrier: the store does not verify, so the part is in SAFE
state (R200). The store's contents, the strap's level, the station address and the EtherType at reset are DESIGN CHOICEs (notes/assumptions/1.md). -/
def State.reset : State where
  pending := []
  mem := []
  strap := false
  free := 0
  riu := .start
  etu := ⟨[], Vector.replicate 16 .undefined⟩
  qu := ⟨[], [], 0, false⟩
  su := ⟨Vector.replicate 16 .empty⟩
  ru := .start
  dm := .start
  ds := .start 0 .safe
  dr := .start
  lc := ⟨false, 0, 0, 0, Vector.replicate 4 .off, [], none, none⟩
  ps := ⟨[], [], false, none, true, none⟩

end Sys2Proof.Machine
end

