-- ==== Sys2Proof/Machine/Codes.lean ====
section
/-! DEFINITION. The codes of chapter 11: request kinds, statuses, notices and the other codes of Tables 11-5 to 11-7. -/

namespace Sys2Proof.Machine

/-- The request kind code of a request (Table 11-5). -/
def kindCode : Request → Nat
  | .charge _ => 0x01
  | .split _ => 0x02
  | .drop _ => 0x03
  | .queryExtent _ => 0x04
  | .queryVolume _ => 0x05
  | .loadSnapshot _ => 0x06
  | .loadExtent _ => 0x07
  | .openVolume _ => 0x08
  | .sealVolume _ => 0x09
  | .unsealVolume _ => 0x0A
  | .scanOut _ => 0x0B
  | .setLimit _ => 0x10
  | .loadAccount _ => 0x11
  | .dropAccount _ => 0x12
  | .queryAccount _ => 0x13
  | .setClock _ => 0x14
  | .snapshotCreate _ => 0x20
  | .snapshotRetire _ => 0x21
  | .takeReleased _ => 0x22
  | .restore _ => 0x30
  | .probe _ => 0x31
  | .cancelRestore _ => 0x32
  | .queryMover _ => 0x38
  | .faultClear _ => 0x39
  | .runStart _ => 0x40
  | .runCancel _ => 0x41
  | .queryRun _ => 0x42
  | .giveRuns _ => 0x48
  | .replicaReset _ => 0x49
  | .queryInbound _ => 0x4A
  | .queryPeer _ => 0x50
  | .storeStage _ => 0x60
  | .storeCommit _ => 0x61
  | .storeVerify => 0x62
  | .storeRead _ => 0x63
  | .applyDefinitions => 0x64
  | .format => 0x65

/-- Answer and refusal statuses (Table 11-6). -/
inductive Status where
  | ok | accepted | done | held | released | good | bad | restoreStep | probeStep | cancelled | partialEnd | fault 
  | failed | badRequest | noVolume | volumeRole | volumeState | outOfRange | accountKind | noAccount | accountBusy 
  | overlap | tableFull | hardLimit | graceExpired | noExtent | notLive | extentBusy | labelTaken | epochOrder 
  | epochExhausted | snapshotListFull | notNeeded | noSnapshot | snapshotHeld | shortTarget | busy | faultHeld 
  | noOperation | noPeer | staleEpoch | serviceMode | alreadyQueued | poolFull | storeBad | locked | serviceRequired
  deriving DecidableEq, Repr

/-- The code of a status (Table 11-6). -/
def Status.code : Status → Nat
  | .ok => 0x00
  | .accepted => 0x01
  | .done => 0x02
  | .held => 0x03
  | .released => 0x04
  | .good => 0x05
  | .bad => 0x06
  | .restoreStep => 0x07
  | .probeStep => 0x08
  | .cancelled => 0x09
  | .partialEnd => 0x0A
  | .fault => 0x0B
  | .failed => 0x0C
  | .badRequest => 0x20
  | .noVolume => 0x21
  | .volumeRole => 0x22
  | .volumeState => 0x23
  | .outOfRange => 0x24
  | .accountKind => 0x25
  | .noAccount => 0x26
  | .accountBusy => 0x27
  | .overlap => 0x28
  | .tableFull => 0x29
  | .hardLimit => 0x2A
  | .graceExpired => 0x2B
  | .noExtent => 0x2C
  | .notLive => 0x2D
  | .extentBusy => 0x2E
  | .labelTaken => 0x2F
  | .epochOrder => 0x30
  | .epochExhausted => 0x31
  | .snapshotListFull => 0x32
  | .notNeeded => 0x33
  | .noSnapshot => 0x34
  | .snapshotHeld => 0x35
  | .shortTarget => 0x36
  | .busy => 0x37
  | .faultHeld => 0x38
  | .noOperation => 0x39
  | .noPeer => 0x3A
  | .staleEpoch => 0x3B
  | .serviceMode => 0x3C
  | .alreadyQueued => 0x3D
  | .poolFull => 0x3E
  | .storeBad => 0x3F
  | .locked => 0x40
  | .serviceRequired => 0x41

/-- The code of a notice kind (Table 11-6). -/
def NoticeKind.code : NoticeKind → Nat
  | .softCrossed => 0x80
  | .graceExpired => 0x81
  | .hardExceeded => 0x82
  | .reserveOver => 0x83
  | .snapshotTrimmed => 0x84
  | .releaseReady => 0x85
  | .releaseFull => 0x86
  | .inboundCommitted => 0x87
  | .inboundAborted => 0x88
  | .linkChange => 0x89
  | .moverFault => 0x8A

/-- The status byte of a NOTICE_OVERFLOW answer (Table 11-6). -/
def noticeOverflowCode : Nat := 0x8B

/-- The request kind byte of a notice (Table 11-4). -/
def noticeKindByte : Nat := 0xFF

/-- Role codes (Table 11-7). -/
def Role.code : Role → Nat
  | .unused => 0
  | .primary => 1
  | .replica => 2

/-- Volume state codes (Table 11-7). -/
def VolState.code : VolState → Nat
  | .undefined => 0
  | .defined => 1
  | .online => 2
  | .sealed => 3

/-- Account kind codes (Table 11-7). -/
def AccountKind.code : AccountKind → Nat
  | .none => 0
  | .user => 1
  | .group => 2
  | .reserve => 3
  | .landing => 4

/-- Account state codes (Table 11-7). -/
def AccountState.code : AccountState → Nat
  | .under => 0
  | .grace => 1
  | .expired => 2
  | .overHard => 3
  | .over => 4

/-- Mover class codes (Table 11-7). -/
def MoverClass.code : MoverClass → Nat
  | .restore => 0
  | .ship => 1
  | .land => 2
  | .ring => 3

/-- Access kind codes (Table 11-7); a cleared record reads 0. -/
def AccessKind.code : AccessKind → Nat
  | .none => 0
  | .read => 1
  | .confirm => 2
  | .host => 3

/-- Target codes (Table 11-7); a cleared record reads 0. -/
def FaultTarget.code : FaultTarget → Nat
  | .none => 0
  | .volume v => v.val
  | .host => 0xFF

/-- Outbound run state codes of an active run (Table 11-7). -/
def RunState.code : RunState → Nat
  | .offering => 2
  | .shipping => 3
  | .draining => 4
  | .closing => 5
  | .ended => 6

/-- Inbound context codes (Table 11-7). -/
def InState.code : InState → Nat
  | .free => 0
  | .open => 1
  | .committing => 2
  | .aborting => 3

/-- Staging slot codes (Table 11-7). -/
def SlotState.code : SlotState → Nat
  | .empty => 0
  | .filling => 1
  | .ready => 2
  | .landing => 3

/-- Ring state codes (Table 11-12). -/
def RingState.code : RingState → Nat
  | .disabled => 0
  | .enabled => 1
  | .stalled => 2
  | .faulted => 3

/-- Fault cause codes (Table 11-12). -/
def RingCause.code : RingCause → Nat
  | .none => 0
  | .setup => 1
  | .tailRange => 2
  | .consumedRange => 3
  | .access => 4

/-- Frame kind codes (Table 11-10). -/
def FrameKind.code : FrameKind → Nat
  | .offer => 1
  | .accept => 2
  | .decline => 3
  | .batchHead => 4
  | .batchData => 5
  | .batchEnd => 6
  | .receipt => 7
  | .close => 8
  | .closed => 9
  | .abort => 10

/-- Direction codes (Table 11-10). -/
def Direction.code : Direction → Nat
  | .forward => 1
  | .backward => 2

/-- The mover class a code names (Table 11-7). -/
def MoverClass.ofCode (n : Nat) : Option MoverClass :=
  if n = 0 then some .restore else
  if n = 1 then some .ship else
  if n = 2 then some .land else
  if n = 3 then some .ring else none

/-- The STORE_COMMIT operation a code names (Table 11-7). -/
def CommitOp.ofCode (n : Nat) : Option CommitOp :=
  if n = 1 then some .erase else
  if n = 2 then some .program else
  if n = 3 then some .eraseProgram else none

/-- The host account kind a code names (Table 11-7, R38). -/
def AccountKind.ofHostCode (n : Nat) : Option AccountKind :=
  if n = 1 then some .user else
  if n = 2 then some .group else none

/-- The frame kind a code names (Table 11-10). -/
def FrameKind.ofCode (n : Nat) : Option FrameKind :=
  if n = 1 then some .offer else
  if n = 2 then some .accept else
  if n = 3 then some .decline else
  if n = 4 then some .batchHead else
  if n = 5 then some .batchData else
  if n = 6 then some .batchEnd else
  if n = 7 then some .receipt else
  if n = 8 then some .close else
  if n = 9 then some .closed else
  if n = 10 then some .abort else none

/-- The direction a code names (Table 11-10). -/
def Direction.ofCode (n : Nat) : Option Direction :=
  if n = 1 then some .forward else
  if n = 2 then some .backward else none

/-- The collection a code names (Table 11-7). -/
def ScanWhat.ofCode (n : Nat) : Option ScanWhat :=
  if n = 1 then some .extents else
  if n = 2 then some .accounts else
  if n = 3 then some .snapshots else none

/-- Receipt kinds (Table 8-3). -/
inductive ReceiptKind where
  | landed | queued | digestBad | busy | noSpace | skipped
  deriving DecidableEq, Repr

/-- Receipt kind codes (Table 11-10). -/
def ReceiptKind.code : ReceiptKind → Nat
  | .landed => 1
  | .queued => 2
  | .digestBad => 3
  | .busy => 4
  | .noSpace => 5
  | .skipped => 6

/-- The receipt kind a code names (Table 11-10). -/
def ReceiptKind.ofCode (n : Nat) : Option ReceiptKind :=
  if n = 1 then some .landed else
  if n = 2 then some .queued else
  if n = 3 then some .digestBad else
  if n = 4 then some .busy else
  if n = 5 then some .noSpace else
  if n = 6 then some .skipped else none

/-! The one space of reason codes (Table 11-7). -/

/-- Decline reason NOT_REPLICA. -/
def declineNotReplica : Nat := 0x01
/-- Decline reason SERVICE. -/
def declineService : Nat := 0x02
/-- Decline reason FAULT_HELD. -/
def declineFaultHeld : Nat := 0x03
/-- Decline reason BUSY. -/
def declineBusy : Nat := 0x04
/-- Decline reason BLOCK_SIZE. -/
def declineBlockSize : Nat := 0x05
/-- Decline reason NOT_EMPTY. -/
def declineNotEmpty : Nat := 0x06
/-- Decline reason BASE_MISMATCH. -/
def declineBaseMismatch : Nat := 0x07
/-- Decline reason STALE_EPOCH. -/
def declineStaleEpoch : Nat := 0x08
/-- Inbound abort reason PEER_ABORT. -/
def inboundPeerAbort : Nat := 0x10
/-- Inbound abort reason IDLE_TIMEOUT. -/
def inboundIdleTimeout : Nat := 0x11
/-- Inbound abort reason LINK_DOWN. -/
def inboundLinkDown : Nat := 0x12
/-- Inbound abort reason NO_SPACE. -/
def inboundNoSpace : Nat := 0x13
/-- Inbound abort reason BAD_BATCH. -/
def inboundBadBatch : Nat := 0x14
/-- Inbound abort reason CLOSE_REFUSED. -/
def inboundCloseRefused : Nat := 0x15
/-- Inbound abort reason MOVER_FAULT. -/
def inboundMoverFault : Nat := 0x16
/-- Inbound abort reason REPLICA_RESET. -/
def inboundReplicaReset : Nat := 0x17
/-- Inbound abort reason FUNCTION_RESET. -/
def inboundFunctionReset : Nat := 0x18
/-- Outbound end reason DONE. -/
def outboundDone : Nat := 0x20
/-- Outbound end reason DECLINED. -/
def outboundDeclined : Nat := 0x21
/-- Outbound end reason NO_ANSWER. -/
def outboundNoAnswer : Nat := 0x22
/-- Outbound end reason LINK_DOWN. -/
def outboundLinkDown : Nat := 0x23
/-- Outbound end reason RETRY_LIMIT. -/
def outboundRetryLimit : Nat := 0x24
/-- Outbound end reason PEER_FULL. -/
def outboundPeerFull : Nat := 0x25
/-- Outbound end reason MOVER_FAULT. -/
def outboundMoverFault : Nat := 0x26
/-- Outbound end reason CANCELLED. -/
def outboundCancelled : Nat := 0x27
/-- Outbound end reason BASE_LOST. -/
def outboundBaseLost : Nat := 0x28
/-- Outbound end reason NO_TARGET. -/
def outboundNoTarget : Nat := 0x29
/-- CLOSED argument COMMITTED (Table 11-10). -/
def closedCommitted : Nat := 1
/-- CLOSED argument REFUSED (Table 11-10). -/
def closedRefused : Nat := 2

end Sys2Proof.Machine
end

