-- ==== Sys2Proof/Machine/Ops.lean ====
section
/-! DEFINITION. The named operations every block uses: sparse tables in one canonical form, PCI Express memory, the parts of the
state, and handing an answer to a ring (R181 to R185). -/

namespace Sys2Proof.Machine

/-! ### Sparse tables: ascending keys, no entry equal to what an unlisted key reads as -/

/-- The entry of key `a`; an unlisted key reads as `d`. -/
def sparseGet {α : Type} (d : α) : List (Nat × α) → Nat → α
  | [], _ => d
  | (k, x) :: m, a => if a < k then d else if a = k then x else sparseGet d m a

/-- Entry `a` becomes `x`; writing `d` removes the entry. -/
def sparseSet {α : Type} [DecidableEq α] (d : α) : List (Nat × α) → Nat → α → List (Nat × α)
  | [], a, x => if x = d then [] else [(a, x)]
  | (k, y) :: m, a, x =>
    if a < k then (if x = d then (k, y) :: m else (a, x) :: (k, y) :: m)
    else if a = k then (if x = d then m else (a, x) :: m)
    else (k, y) :: sparseSet d m a x

/-- The canonical form: strictly ascending keys and no default entry. -/
def sparseWf {α : Type} [DecidableEq α] (d : α) : List (Nat × α) → Bool
  | [] => true
  | [(_, x)] => decide (x ≠ d)
  | (k, x) :: (k', y) :: m => decide (k < k') && decide (x ≠ d) && sparseWf d ((k', y) :: m)

/-! ### Replacing a block of the state -/

/-- `s` with `mem` replaced. -/
def State.setMem (s : State) (mem : List Host.Cell) : State := { s with mem := mem }
/-- `s` with `strap` replaced. -/
def State.setStrap (s : State) (strap : Bool) : State := { s with strap := strap }
/-- `s` with `free` replaced. -/
def State.setFree (s : State) (free : Nat) : State := { s with free := free }
/-- `s` with `riu` replaced. -/
def State.setRiu (s : State) (riu : Riu) : State := { s with riu := riu }
/-- `s` with `etu` replaced. -/
def State.setEtu (s : State) (etu : Etu) : State := { s with etu := etu }
/-- `s` with `qu` replaced. -/
def State.setQu (s : State) (qu : Qu) : State := { s with qu := qu }
/-- `s` with `su` replaced. -/
def State.setSu (s : State) (su : Su) : State := { s with su := su }
/-- `s` with `ru` replaced. -/
def State.setRu (s : State) (ru : Ru) : State := { s with ru := ru }
/-- `s` with `dm` replaced. -/
def State.setDm (s : State) (dm : Dm) : State := { s with dm := dm }
/-- `s` with `ds` replaced. -/
def State.setDs (s : State) (ds : Ds) : State := { s with ds := ds }
/-- `s` with `dr` replaced. -/
def State.setDr (s : State) (dr : Dr) : State := { s with dr := dr }
/-- `s` with `lc` replaced. -/
def State.setLc (s : State) (lc : Lc) : State := { s with lc := lc }
/-- `s` with `ps` replaced. -/
def State.setPs (s : State) (ps : Ps) : State := { s with ps := ps }
/-- `s` with `pending` replaced. -/
def State.setPending (s : State) (pending : List Instr) : State := { s with pending := pending }

/-! ### Rings, volumes and contexts -/

/-- Ring `r`. -/
def State.ring (s : State) (r : RingNo) : Ring := s.riu.rings[r]
/-- Ring `r` becomes `x`. -/
def State.setRing (s : State) (r : RingNo) (x : Ring) : State :=
  s.setRiu { s.riu with rings := s.riu.rings.set r x }

/-- The SCAN_OUT under way from ring `r`. -/
def State.scanOf (s : State) (r : RingNo) : Option Scan := s.riu.scans[r]
/-- The SCAN_OUT under way from ring `r` becomes `x`. -/
def State.setScan (s : State) (r : RingNo) (x : Option Scan) : State :=
  s.setRiu { s.riu with scans := s.riu.scans.set r x }

/-- The volume record of `v`. -/
def State.vol (s : State) (v : Vol) : Volume := s.etu.vols[v]
/-- The volume record of `v` becomes `x`. -/
def State.setVol (s : State) (v : Vol) (x : Volume) : State :=
  s.setEtu { s.etu with vols := s.etu.vols.set v x }

/-- The extent table. -/
def State.extents (s : State) : List Extent := s.etu.extents
/-- The extent table becomes `x`. -/
def State.setExtents (s : State) (x : List Extent) : State := s.setEtu { s.etu with extents := x }

/-- What the Snapshot Unit keeps for `v`. -/
def State.snapVol (s : State) (v : Vol) : SnapVol := s.su.vols[v]
/-- What the Snapshot Unit keeps for `v` becomes `x`. -/
def State.setSnapVol (s : State) (v : Vol) (x : SnapVol) : State :=
  s.setSu { s.su with vols := s.su.vols.set v x }

/-- Restore context `c`. -/
def State.restoreCtx (s : State) (c : Ctx) : RestoreCtx := s.ru.ctxs[c]
/-- Restore context `c` becomes `x`. -/
def State.setRestoreCtx (s : State) (c : Ctx) (x : RestoreCtx) : State :=
  s.setRu { s.ru with ctxs := s.ru.ctxs.set c x }

/-- Inbound run context `c`. -/
def State.inCtx (s : State) (c : Ctx) : InCtx := s.dr.ctxs[c]
/-- Inbound run context `c` becomes `x`. -/
def State.setInCtx (s : State) (c : Ctx) (x : InCtx) : State :=
  s.setDr { s.dr with ctxs := s.dr.ctxs.set c x }

/-- What the Duplication Receiver keeps for `v`. -/
def State.replVol (s : State) (v : Vol) : ReplVol := s.dr.vols[v]
/-- What the Duplication Receiver keeps for `v` becomes `x`. -/
def State.setReplVol (s : State) (v : Vol) (x : ReplVol) : State :=
  s.setDr { s.dr with vols := s.dr.vols.set v x }

/-- The account of index `i`; an index that no entry lists has kind NONE. -/
def State.account (s : State) (i : Nat) : Account := sparseGet Account.none s.qu.accounts i
/-- The account of index `i` becomes `a`. -/
def State.setAccount (s : State) (i : Nat) (a : Account) : State :=
  s.setQu { s.qu with accounts := sparseSet Account.none s.qu.accounts i a }

/-- The volume a volume field names, after the range check of R9 has bounded it by 15. -/
def toVol (n : Nat) : Vol := Fin.ofNat 16 n

/-! ### PCI Express memory: host memory and the storage apertures -/

/-- Addresses have 64 bits. R97 states the dropped carry for the addresses of an aperture; for a host buffer or a ring's records the manual is silent, and the same is the model's choice
(notes/assumptions/44.md). -/
def addr64 (a : Nat) : Nat := a % 18446744073709551616

/-- The byte at an address; a byte nothing has written reads 0 (DESIGN CHOICE, notes/assumptions/2.md). -/
def State.readByte (s : State) (a : Nat) : Byte := sparseGet 0 s.mem (addr64 a)

/-- The `n` bytes from an address on. -/
def State.readBytes (s : State) (a n : Nat) : List Byte := (List.range n).map fun i => s.readByte (a + i)

/-- The bytes stored from an address on. -/
def memWrite (m : List Host.Cell) (a : Nat) : List Byte → List Host.Cell
  | [] => m
  | b :: bs => memWrite (sparseSet 0 m (addr64 a) b) (a + 1) bs

/-- The bytes stored from an address on, past 2^64−1 from address 0 on (notes/assumptions/44.md). -/
def State.writeBytes (s : State) (a : Nat) (bs : List Byte) : State := s.setMem (memWrite s.mem a bs)

/-! ### Answers -/

/-- The 32-byte answer record (Table 11-4). -/
def answerBytes (phase : Bool) (x : Answer) : List Byte :=
  le 8 x.tag ++ le 1 x.kind ++ le 1 x.status ++ le 1 (flagBit phase 0) ++ zeros 1 ++ le 4 x.a ++ le 8 x.b ++ le 8 x.c

/-- An answer ring has room while its unconsumed answers number fewer than its size less one (R182). -/
def Ring.room (r : Ring) : Bool :=
  decide ((r.posted + r.setup.ansSize - r.consumed) % r.setup.ansSize + 1 < r.setup.ansSize)

/-- Requests pending on a ring (R178). -/
def Ring.requests (r : Ring) : Nat := (r.tail + r.setup.reqSize - r.head) % r.setup.reqSize

/-- The ring after one answer has been written at its answer posted (R182). -/
def Ring.advance (r : Ring) : Ring :=
  if r.posted + 1 < r.setup.ansSize then { r with posted := r.posted + 1 }
  else { r with posted := 0, phase := !r.phase }

/-- The RIU writes an answer at the ring's answer posted (R182). -/
def writeAnswer (r : RingNo) (x : Answer) (s : State) : State :=
  let g := s.ring r
  (s.writeBytes (g.setup.ansBase + 32 * g.posted) (answerBytes g.phase x)).setRing r g.advance

/-- An answer becomes due to a ring (R183 to R185): the state after it, and whether it has been handed on. A STALLED ring that a drain has left with space in its holder and no answer
waiting takes it into the holder at once (R184). -/
def answerDue (r : RingNo) (x : Answer) (owner : AnswerOwner) (s : State) : State × Bool :=
  let g := s.ring r
  match g.state with
  | .disabled => (s, true)
  | .faulted => (s, true)
  | .stalled =>
    if g.waiting.isEmpty && decide (g.holder.length < Config.maxHolder) then (s.setRing r { g with holder := g.holder ++ [x] }, true)
    else (s.setRing r { g with waiting := g.waiting ++ [⟨x, owner⟩] }, false)
  | .enabled =>
    if g.room && g.holder.isEmpty then (writeAnswer r x s, true)
    else if g.holder.length < Config.maxHolder then (s.setRing r { g with holder := g.holder ++ [x] }, true)
    else (s.setRing r { g with waiting := g.waiting ++ [⟨x, owner⟩], state := .stalled, stallSeen := true }, false)

/-- An answer whose handing on nobody waits for becomes due. -/
def answer (r : RingNo) (x : Answer) (s : State) : State := (answerDue r x .none s).1

/-- A later answer of an operation that a function reset may have cut off from its ring (R189). -/
def answerIf (dest : Option (RingNo × Nat)) (f : Nat → Answer) (s : State) : State :=
  match dest with
  | some (r, tag) => answer r (f tag) s
  | none => s

/-- The one answer of a request (R181). -/
def reply (r : RingNo) (tag : Nat) (q : Request) (st : Status) (a b c : Nat) (s : State) : State :=
  answer r ⟨tag, kindCode q, st.code, a, b, c⟩ s

/-- A refusal that its rule gives no values: A, B and C are 0 (R203; notes/assumptions/8.md). -/
def refuse (r : RingNo) (tag : Nat) (q : Request) (st : Status) (s : State) : State := reply r tag q st 0 0 0 s

end Sys2Proof.Machine
end

