-- ==== Sys2Proof/Machine/Flags.lean ====
section
/-! DEFINITION. The part's status and interrupt flags: the pending notice set with its overflow condition (R186, R188), the fault record of the data mover
(R103, R106, R108), and the frame-error flags of the peer table (R163, R164). -/

namespace Sys2Proof.Machine

/-- A set entry is of the kind and subject raised. -/
def Notice.isOf (n : Notice) (k : NoticeKind) (b c : Nat) : Bool := decide (n.kind = k) && decide (n.b = b) && decide (n.c = c)

/-- A notice is raised: it merges with the entry of its kind and subject, joins a set with room, or is lost and counted (R186, R188). -/
def raise (k : NoticeKind) (b c : Nat) (s : State) : State :=
  if s.riu.notices.any (·.isOf k b c) then
    s.setRiu { s.riu with
      notices := s.riu.notices.map fun n => if n.isOf k b c then { n with count := min (n.count + 1) 65535 } else n }
  else if s.riu.notices.length < Config.maxNotices then
    s.setRiu { s.riu with notices := s.riu.notices ++ [⟨k, b, c, 1⟩] }
  else s.setRiu { s.riu with overflow := true, lost := min (s.riu.lost + 1) Config.max32 }

/-- The index of a class in the fault record: its code (Table 11-7). -/
def MoverClass.index : MoverClass → Fin 4
  | .restore => 0
  | .ship => 1
  | .land => 2
  | .ring => 3

/-- The fault record entry of a class. -/
def State.faultRec (s : State) (k : MoverClass) : FaultRec := s.dm.faults[k.index]

/-- The fault record entry of a class becomes `x`. -/
def State.setFaultRec (s : State) (k : MoverClass) (x : FaultRec) : State :=
  s.setDm { s.dm with faults := s.dm.faults.set k.index x }

/-- A class's fault flag (R104). -/
def State.faulted (s : State) (k : MoverClass) : Bool := (s.faultRec k).fault

/-- A RING-class completion error is recorded (R106): the first record is kept, a further fault sets the further-faults flag, and MOVER_FAULT is raised
with subject RING either way. -/
def recordRingFault (address : Nat) (s : State) : State :=
  let f := s.faultRec .ring
  raise .moverFault MoverClass.ring.code 0
    (s.setFaultRec .ring (if f.fault then { f with further := true } else ⟨true, addr64 address, .host, .host, false⟩))

/-- The frame-error flag of a peer entry is set (R163, R164). -/
def setFrameError (i : Ctx) (s : State) : State :=
  s.setLc { s.lc with peers := s.lc.peers.set i { s.lc.peers[i] with frameError := true } }

end Sys2Proof.Machine
end

