-- ==== Sys2Proof/Machine/Table.lean ====
section
/-! DEFINITION. The extent table (1.1, 1.2), the walk of R4, the exclusivity check (R8) and the protection tests of chapters 1 and 3. -/

namespace Sys2Proof.Machine

/-- The run of an extent record. -/
def Extent.run (e : Extent) : Run := ⟨e.first, e.len⟩

/-- The block just past a record's run. -/
def Extent.stop (e : Extent) : Nat := e.first + e.len

/-- A record is LIVE exactly while its death epoch is absent (R1). -/
def Extent.live (e : Extent) : Bool := e.death.isNone

/-- The record is the one of volume `v` with this first block (R3). -/
def Extent.at (e : Extent) (v : Vol) (first : Nat) : Bool := decide (e.volume = v) && decide (e.first = first)

/-- A record was in use at snapshot epoch `t` (1.4). -/
def Extent.inUse (e : Extent) (t : Nat) : Bool :=
  decide (e.birth ≤ t) && (match e.death with | none => true | some d => decide (t < d))

/-- The charge in KiB of a run of a volume (R2, R25). -/
def State.chargeOf (s : State) (v : Vol) (len : Nat) : Nat := len * (s.vol v).defn.blockKiB

/-- The records of a volume, in ascending first block (R3). -/
def State.records (s : State) (v : Vol) : List Extent := s.extents.filter fun e => decide (e.volume = v)

/-- The record of `v` with this first block. -/
def State.recordAt (s : State) (v : Vol) (first : Nat) : Option Extent := s.extents.find? (·.at v first)

/-- The record of `v` that contains a block (R14). -/
def State.recordHolding (s : State) (v : Vol) (block : Nat) : Option Extent :=
  s.extents.find? fun e => decide (e.volume = v) && decide (e.first ≤ block) && decide (block < e.stop)

/-- One step of a walk: the record of lowest first block that is not below the cursor (R4). -/
def State.nextRecord (s : State) (v : Vol) (cursor : Nat) : Option Extent :=
  s.extents.find? fun e => decide (e.volume = v) && decide (cursor ≤ e.first)

/-- A record takes its place in the primary order: by volume, then by first block (R3). -/
def insertExtent (e : Extent) : List Extent → List Extent
  | [] => [e]
  | x :: xs =>
    if e.volume < x.volume ∨ (e.volume = x.volume ∧ e.first < x.first) then e :: x :: xs else x :: insertExtent e xs

/-- A record joins the table. -/
def State.addExtent (s : State) (e : Extent) : State := s.setExtents (insertExtent e s.extents)

/-- The record of `v` with this first block leaves the table. -/
def State.removeExtent (s : State) (v : Vol) (first : Nat) : State :=
  s.setExtents (s.extents.filter fun e => !e.at v first)

/-- The record of `v` with this first block changes its fields. -/
def State.updateExtent (s : State) (v : Vol) (first : Nat) (f : Extent → Extent) : State :=
  s.setExtents (s.extents.map fun e => if e.at v first then f e else e)

/-- The table has room for `n` more records (R3). -/
def State.tableRoom (s : State) (n : Nat) : Bool := decide (s.extents.length + n ≤ Config.maxExtents)

/-- A record's run shares a block with `r`. -/
def State.inRecord (s : State) (v : Vol) (r : Run) : Bool := (s.records v).any (·.run.overlaps r)

/-- Every restore context, every inbound context and every volume, in number order. -/
def ctxList : List Ctx := [0, 1, 2, 3]

/-- The volumes in number order. -/
def volList : List Vol := List.finRange 16

/-- A block of `r` is claimed by a restore context of the volume (R78). -/
def State.inClaim (s : State) (v : Vol) (r : Run) : Bool :=
  ctxList.any fun c => decide ((s.restoreCtx c).phase ≠ .free) && decide ((s.restoreCtx c).volume = v) &&
    (s.restoreCtx c).claim.any (·.overlaps r)

/-- A block of `r` lies in the volume's release list, or among a REPLICA_RESET's outgoing runs, which count with it (R154). -/
def State.inRelease (s : State) (v : Vol) (r : Run) : Bool :=
  (s.snapVol v).release.any (·.overlaps r) ||
    (match (s.replVol v).reset with | some j => j.outgoing.any (·.overlaps r) | none => false)

/-- A block of `r` lies in the volume's landing pool, taken or not (R144). -/
def State.inPool (s : State) (v : Vol) (r : Run) : Bool := (s.replVol v).pool.any (·.overlaps r)

/-- The exclusivity check of one run fails: some block of it lies in a record, a claim, the release list or the landing pool (R8). -/
def State.taken (s : State) (v : Vol) (r : Run) : Bool :=
  s.inRecord v r || s.inClaim v r || s.inRelease v r || s.inPool v r

/-- Two runs of a list share a block. -/
def anyOverlap : List Run → Bool
  | [] => false
  | r :: rs => rs.any (·.overlaps r) || anyOverlap rs

/-- Some ACTIVE snapshot protects the epochs from `birth` up to, but not including, `death` (R12, R57). -/
def protectedBy (snaps : List Snapshot) (birth death : Nat) : Bool :=
  snaps.any fun x => x.active && decide (birth ≤ x.epoch) && decide (x.epoch < death)

/-- No extent record and no snapshot belongs to the volume (R5). -/
def State.volumeEmpty (s : State) (v : Vol) : Bool := (s.records v).isEmpty && (s.snapVol v).snaps.isEmpty

/-- Some record of the volume has its FILLING flag set (R50). -/
def State.anyFilling (s : State) (v : Vol) : Bool := (s.records v).any (·.filling)

/-- The greater of the greatest epoch seen and `n` (R18). -/
def seenMax (o : Option Nat) (n : Nat) : Option Nat :=
  match o with
  | some m => some (max m n)
  | none => some n

/-- The first record of a splitting at `k`: it keeps its first block (R11). -/
def Extent.front (e : Extent) (k : Nat) : Extent := { e with len := k }

/-- The second record of a splitting at `k`: its offset, and its source first block when it has one, are moved on (R11, R148). -/
def Extent.back (e : Extent) (k : Nat) : Extent :=
  { e with first := e.first + k, len := e.len - k, offset := e.offset + k, source := e.source.map (· + k) }

end Sys2Proof.Machine
end

