-- ==== Sys2Proof/Machine/Quota.lean ====
section
/-! DEFINITION. Quota arithmetic (chapter 2): thresholds, the rating of accounts, the grace timer list, and the charge decisions. -/

namespace Sys2Proof.Machine

/-- The per-mille figure M of a margin code (Table 2-3). -/
def marginPerMille (m : Nat) : Nat := [50, 75, 100, 125, 150, 200, 250, 300].getD m 300

/-- The soft threshold S (R27). -/
def Account.soft (a : Account) : Nat := a.hard * (1000 - marginPerMille a.margin) / 1000

/-- The leave threshold L (R27). -/
def Account.leave (a : Account) : Nat := a.hard * (975 - marginPerMille a.margin) / 1000

/-- Grace starts (R29): the new account and the notices it raises. -/
def graceStart (clock : Nat) (a : Account) : Account × List NoticeKind :=
  if a.grace = 0 then ({ a with state := .expired, deadline := some clock }, [.softCrossed, .graceExpired])
  else ({ a with state := .grace, deadline := some (min (clock + a.grace) Config.max32) }, [.softCrossed])

/-- Re-rating of a USER or GROUP account from its usage, limit and prior state: the six steps of R28, the first that applies deciding. -/
def rateUser (clock : Nat) (a : Account) : Account × List NoticeKind :=
  if a.hard = 0 then ({ a with state := .under, deadline := none }, [])
  else if a.hard < a.usage then
    ({ a with state := .overHard }, if a.state = .overHard then [] else [.hardExceeded])
  else if a.leave < a.usage ∧ (a.state = .grace ∨ a.state = .expired) then (a, [])
  else if a.soft < a.usage ∧ a.state = .under then graceStart clock a
  else if a.leave < a.usage ∧ a.state = .overHard then
    match a.deadline with
    | some d => if clock < d then ({ a with state := .grace }, []) else ({ a with state := .expired }, [.graceExpired])
    | none => graceStart clock a
  else ({ a with state := .under, deadline := none }, [])

/-- Re-rating of a RESERVE account (R35). -/
def rateReserve (a : Account) : Account :=
  { a with state := if a.hard ≠ 0 ∧ a.hard < a.usage then .over else .under }

/-- Re-rating of a LANDING account whose usage was `old` (R36): HARD_EXCEEDED on entering OVER_HARD, SOFT_CROSSED when its usage passes S (notes/assumptions/19.md). -/
def rateLanding (old : Nat) (a : Account) : Account × List NoticeKind :=
  let above := a.hard ≠ 0 ∧ a.hard < a.usage
  ({ a with state := if above then .overHard else .under },
   (if above ∧ a.state ≠ .overHard then [.hardExceeded] else []) ++
   (if a.hard ≠ 0 ∧ old ≤ a.soft ∧ a.soft < a.usage then [.softCrossed] else []))

/-! ### The grace timer list (R43) -/

/-- An account joins the list: ascending deadline, and ascending index among equal deadlines. -/
def timerInsert (deadline index : Nat) : List (Nat × Nat) → List (Nat × Nat)
  | [] => [(deadline, index)]
  | (d, i) :: ts =>
    if deadline < d ∨ (deadline = d ∧ index < i) then (deadline, index) :: (d, i) :: ts
    else (d, i) :: timerInsert deadline index ts

/-- An account leaves the list. -/
def timerRemove (index : Nat) (ts : List (Nat × Nat)) : List (Nat × Nat) := ts.filter fun t => decide (t.2 ≠ index)

/-- The list after an account's state or deadline changed: it holds the account exactly while it is in GRACE, at its deadline (R30, R43). -/
def timerSync (index : Nat) (a : Account) (ts : List (Nat × Nat)) : List (Nat × Nat) :=
  match a.state, a.deadline with
  | .grace, some d => timerInsert d index (timerRemove index ts)
  | _, _ => timerRemove index ts

/-- A USER or GROUP account is stored, and the timer list follows it. -/
def State.putUser (s : State) (i : Nat) (a : Account) : State :=
  let s1 := s.setAccount i a
  s1.setQu { s1.qu with timers := timerSync i a s1.qu.timers }

/-- Notices of one account are raised in the order the rules give (R45). -/
def raiseAll (ks : List NoticeKind) (i : Nat) (s : State) : State := ks.foldl (fun s k => raise k i 0 s) s

/-! ### Decisions -/

/-- The charge decision of a USER or GROUP account (R31): `none` accepts. -/
def chargeDecision (a : Account) (c : Nat) : Option Status :=
  if a.hard = 0 then none
  else if a.hard < a.usage + c then some .hardLimit
  else if a.state = .expired ∧ a.privileged = false then some .graceExpired
  else none

/-- A refusal of the two-account decision: its status, the refusing account, and 1 for the owner or 2 for the group (R32). -/
structure QuotaRefusal where
  status : Status
  account : Nat
  side : Nat
  deriving DecidableEq, Repr

/-- The two-account decision (R32): `none` accepts. -/
def twoAccountDecision (s : State) (owner : Nat) (group : Option Nat) (c : Nat) : Option QuotaRefusal :=
  match chargeDecision (s.account owner) c with
  | some st => some ⟨st, owner, 1⟩
  | none =>
    match group with
    | none => none
    | some g =>
      match chargeDecision (s.account g) c with
      | some st => some ⟨st, g, 2⟩
      | none => none

/-- The decision of a LANDING account (R36): it accepts. -/
def landingAccepts (a : Account) (c : Nat) : Bool := decide (a.hard = 0) || decide (a.usage + c ≤ a.hard)

/-- The RESERVE account of a volume (Table 2-1). -/
def reserveIndex (v : Vol) : Nat := v.val

/-- The LANDING account of a volume (Table 2-1). -/
def landingIndex (v : Vol) : Nat := v.val + 16

/-- The owner is of kind USER and the group, when present, of kind GROUP: the account that fails, owner before group (R10, R76, R84). -/
def accountKindFault (s : State) (owner : Nat) (group : Option Nat) : Option Nat :=
  if (s.account owner).kind ≠ .user then some owner
  else
    match group with
    | some g => if (s.account g).kind ≠ .group then some g else none
    | none => none

end Sys2Proof.Machine
end

