-- ==== Sys2Proof/Machine/Trim.lean ====
section
/-! DEFINITION. Holds, retirement and auto-trim (3.3, 3.4, 3.6), the making of a snapshot (R49), and the release list (3.7). -/

namespace Sys2Proof.Machine

/-- A snapshot carries no hold at all. -/
def Snapshot.unheld (x : Snapshot) : Bool := !x.replBase && !x.replTarget && decide (x.holds = 0)

/-- A snapshot is retirable when it is ACTIVE and carries no hold (R62). -/
def Snapshot.retirable (x : Snapshot) : Bool := x.active && x.unheld

/-- The snapshot of a volume with a label. -/
def State.snapLabelled (s : State) (v : Vol) (label : Nat) : Option Snapshot :=
  (s.snapVol v).snaps.find? fun x => decide (x.label = label)

/-- The snapshot of a volume with an epoch. -/
def State.snapAt (s : State) (v : Vol) (epoch : Nat) : Option Snapshot :=
  (s.snapVol v).snaps.find? fun x => decide (x.epoch = epoch)

/-- The ACTIVE snapshot of a volume with a label. -/
def State.activeLabelled (s : State) (v : Vol) (label : Nat) : Option Snapshot :=
  match s.snapLabelled v label with
  | some x => if x.active then some x else none
  | none => none

/-- The label of a waiting create (R50). -/
def GateCreate.label : GateCreate → Nat
  | .host _ _ l => l
  | .sender l => l

/-- The labels that reserved places of a volume hold (R47). -/
def SnapVol.reserved (x : SnapVol) : List Nat :=
  x.gate.map GateCreate.label ++ (match x.commitPlace with | some l => [l] | none => [])

/-- The gate is CLOSING while a create waits on it (R50). -/
def SnapVol.closing (x : SnapVol) : Bool := !x.gate.isEmpty

/-- A snapshot or a reserved place of the volume carries the label (R48). -/
def State.labelTaken (s : State) (v : Vol) (label : Nat) : Bool :=
  (s.snapLabelled v label).isSome || (s.snapVol v).reserved.contains label

/-- The snapshots and reserved places of the volume number 64 (R47). -/
def State.snapListFull (s : State) (v : Vol) : Bool :=
  decide (Config.maxSnapshots ≤ (s.snapVol v).snaps.length + (s.snapVol v).reserved.length)

/-- The snapshot of an epoch changes. -/
def State.updateSnap (s : State) (v : Vol) (epoch : Nat) (f : Snapshot → Snapshot) : State :=
  let x := s.snapVol v
  s.setSnapVol v { x with snaps := x.snaps.map fun y => if y.epoch = epoch then f y else y }

/-- A snapshot becomes RETIRING and joins the back of the retire queue; an entry that joins an empty queue starts its scan (R55, R56). -/
def retireSnapshot (v : Vol) (epoch : Nat) (origin : RetireOrigin) (s : State) : State :=
  let s1 := s.updateSnap v epoch fun y => { y with active := false }
  let x := s1.snapVol v
  s1.setSnapVol v { x with
    retire := x.retire ++ [⟨epoch, origin, 0, 0⟩]
    trim := if x.retire.isEmpty then .scanning 0 else x.trim }

/-- Auto-trim is wanted on a volume (R62). -/
def State.autoTrimWanted (s : State) (v : Vol) : Bool :=
  let a := s.account (reserveIndex v)
  (s.vol v).defn.autoTrim && decide (a.hard ≠ 0) && decide (a.soft < a.usage)

/-- The auto-trim state of a volume becomes `t`. -/
def State.setAuto (s : State) (v : Vol) (t : AutoTrim) : State := s.setSnapVol v { s.snapVol v with auto := t }

/-- An auto-trim step (R63): it turns OFF, retires the retirable snapshot of lowest epoch, or stalls. -/
def autoTrimStep (v : Vol) (s : State) : State :=
  if s.autoTrimWanted v then
    match (s.snapVol v).snaps.find? Snapshot.retirable with
    | some x => (retireSnapshot v x.epoch .auto s).setAuto v .working
    | none => s.setAuto v .stalled
  else s.setAuto v .off

/-- The QU asks the SU to start auto-trim (R62). -/
def autoTrimStart (v : Vol) (s : State) : State :=
  if (s.snapVol v).auto = .working then s else autoTrimStep v s

/-- An event of R64: a STALLED auto-trim takes its step again. -/
def autoTrimAgain (v : Vol) (s : State) : State :=
  if (s.snapVol v).auto = .stalled then autoTrimStep v s else s

/-! ### Holds (R53, R54) -/

/-- A restore hold is placed (R53). -/
def placeRestoreHold (v : Vol) (epoch : Nat) (s : State) : State :=
  s.updateSnap v epoch fun y => { y with holds := y.holds + 1 }

/-- The snapshot of an epoch is left without holds: a STALLED auto-trim looks again (R54, R64). -/
def leftUnheld (v : Vol) (epoch : Nat) (s : State) : State :=
  match s.snapAt v epoch with
  | some x => if x.unheld then autoTrimAgain v s else s
  | none => s

/-- A restore hold is released (R54). -/
def releaseRestoreHold (v : Vol) (epoch : Nat) (s : State) : State :=
  leftUnheld v epoch (s.updateSnap v epoch fun y => { y with holds := y.holds - 1 })

/-- REPL_TARGET is placed on a snapshot (R53). -/
def placeTarget (v : Vol) (epoch : Nat) (s : State) : State :=
  s.updateSnap v epoch fun y => { y with replTarget := true }

/-- REPL_TARGET of a volume is released, if a snapshot carries it (R54). -/
def releaseTarget (v : Vol) (s : State) : State :=
  match (s.snapVol v).snaps.find? (·.replTarget) with
  | some x => leftUnheld v x.epoch (s.updateSnap v x.epoch fun y => { y with replTarget := false })
  | none => s

/-- The snapshot that carries REPL_BASE. -/
def State.baseSnap (s : State) (v : Vol) : Option Snapshot := (s.snapVol v).snaps.find? (·.replBase)

/-- The epoch of the snapshot that carries REPL_BASE, or 0 (R111). -/
def State.baseEpoch (s : State) (v : Vol) : Nat :=
  match s.baseSnap v with
  | some x => x.epoch
  | none => 0

/-- REPL_BASE moves to the snapshot of an epoch (R54). -/
def moveBase (v : Vol) (epoch : Nat) (s : State) : State :=
  match s.snapAt v epoch with
  | none => s
  | some x =>
    if x.replBase then s
    else
      let old := s.baseSnap v
      let y := s.snapVol v
      let s1 := s.setSnapVol v { y with snaps := y.snaps.map fun z => { z with replBase := decide (z.epoch = epoch) } }
      let s2 := s1.setVol v { s1.vol v with baseLabel := some x.label }
      match old with
      | some o => leftUnheld v o.epoch s2
      | none => s2

/-- A snapshot is made at the volume's current epoch, at the end of the list, and the epoch rises by one (R49); `target` places REPL_TARGET on it in the same
update (R51). A STALLED auto-trim looks again. -/
def makeSnapshot (v : Vol) (label : Nat) (target : Bool) (s : State) : State :=
  let e := (s.vol v).epoch.getD 0
  let x := s.snapVol v
  let s1 := s.setSnapVol v { x with snaps := x.snaps ++ [⟨e, label, s.qu.clock, true, false, target, 0⟩] }
  autoTrimAgain v (s1.setVol v { s1.vol v with epoch := some (e + 1) })

/-! ### The release list (R65, R66, R68) -/

/-- A run merges with the newest entry of a release list, which a TAKE_RELEASED in progress does not hold (R65, R68). -/
def SnapVol.merges (x : SnapVol) (r : Run) : Bool :=
  match x.release.getLast? with
  | none => false
  | some n =>
    decide (n.stop = r.first) && decide (n.len + r.len ≤ Config.maxRun) &&
      (match x.taking with | some t => decide (t.count < x.release.length) | none => true)

/-- A run is appended to a release list, by merging or as a new entry; `none` when it can do neither (R65). -/
def releaseAppend (v : Vol) (r : Run) (s : State) : Option State :=
  let x := s.snapVol v
  if x.merges r then
    some (s.setSnapVol v { x with
      release := x.release.dropLast ++ (match x.release.getLast? with | some n => [⟨n.first, n.len + r.len⟩] | none => []) })
  else if x.release.length < Config.maxRelease then
    let s1 := s.setSnapVol v { x with release := x.release ++ [r] }
    some (if x.release.isEmpty then raise .releaseReady v.val 0 s1 else s1)
  else none

/-- A producer begins to wait on a release list (R66). -/
def producerWait (v : Vol) (p : Producer) (s : State) : State :=
  let x := s.snapVol v
  if x.producers.contains p then s
  else
    let s1 := s.setSnapVol v { x with producers := x.producers ++ [p] }
    if x.producers.isEmpty then raise .releaseFull v.val 0 s1 else s1

/-- A producer leaves the waiting producers. -/
def producerLeave (v : Vol) (p : Producer) (s : State) : State :=
  let x := s.snapVol v
  s.setSnapVol v { x with producers := x.producers.filter (decide <| · ≠ p) }

end Sys2Proof.Machine
end

