-- ==== Sys2Proof/Machine/Charge.lean ====
section
/-! DEFINITION. Charges, refunds and transfers on accounts, each followed by its re-rating (R24, R26, R33 to R36), and the drop decision (R12). -/

namespace Sys2Proof.Machine

/-- An account of usage `old` before the change is re-rated by its kind (R28, R35, R36), with its notices and, for a RESERVE account, auto-trim. A change
that takes a RESERVE account out of OVER makes no report to the Snapshot Unit, so a STALLED auto-trim stays STALLED (notes/assumptions/49.md). -/
def rerate (i old : Nat) (s : State) : State :=
  let a := s.account i
  match a.kind with
  | .none => s
  | .user => raiseAll (rateUser s.qu.clock a).2 i (s.putUser i (rateUser s.qu.clock a).1)
  | .group => raiseAll (rateUser s.qu.clock a).2 i (s.putUser i (rateUser s.qu.clock a).1)
  | .landing => raiseAll (rateLanding old a).2 i (s.setAccount i (rateLanding old a).1)
  | .reserve =>
    let v := toVol i
    let s1 := s.setAccount i (rateReserve a)
    match a.state, (rateReserve a).state with
    | .over, .over => autoTrimAgain v s1
    | _, .over =>
      let s2 := raise .reserveOver v.val 0 s1
      if (s2.vol v).defn.autoTrim then autoTrimStart v s2 else s2
    | _, _ => s1

/-- A charge without a decision (a clamp, or one already decided): usage rises by `c` and the record count by `n` (R24, R26). Charges never reach an account
of kind NONE (2.2). -/
def chargeAccount (i c n : Nat) (s : State) : State :=
  let a := s.account i
  if a.kind = .none then s
  else rerate i a.usage (s.setAccount i { a with usage := a.usage + c, records := a.records + n })

/-- A refund: usage falls by `c` and the record count by `n` (R33). -/
def refundAccount (i c n : Nat) (s : State) : State :=
  let a := s.account i
  if a.kind = .none then s
  else rerate i a.usage (s.setAccount i { a with usage := a.usage - c, records := a.records - n })

/-- The record count alone rises: a splitting changes no usage and re-rates nothing (R11, R148). -/
def countRecords (i n : Nat) (s : State) : State :=
  let a := s.account i
  if a.kind = .none then s else s.setAccount i { a with records := a.records + n }

/-- An operation on the owner account and then on the group account, when present. The manual orders the notices of one account only (R45); that the owner's join before the
group's is the model's order (notes/assumptions/19.md). -/
def onOwnerGroup (f : Nat → State → State) (owner : Nat) (group : Option Nat) (s : State) : State :=
  match group with
  | some g => f g (f owner s)
  | none => f owner s

/-- The accounts that carry a LIVE record's charge take an operation (Table 1-2). -/
def onLiveAccounts (f : Nat → State → State) (e : Extent) (s : State) : State :=
  if (s.vol e.volume).defn.role = .replica then f (landingIndex e.volume) s else onOwnerGroup f e.owner e.group s

/-- A LIVE record's charge is refunded and its counts fall. -/
def refundLive (e : Extent) (s : State) : State :=
  onLiveAccounts (fun i => refundAccount i (s.chargeOf e.volume e.len) 1) e s

/-- The drop decision at epoch `d` holds the record (R12). -/
def State.dropHolds (s : State) (e : Extent) (d : Nat) : Bool := protectedBy (s.snapVol e.volume).snaps e.birth d

/-- The record is held: it dies at `d`, and its charge is transferred to the volume's RESERVE account (R12, R34). -/
def holdRecord (e : Extent) (d : Nat) (s : State) : State :=
  let s1 := s.updateExtent e.volume e.first fun x => { x with death := some d }
  chargeAccount (reserveIndex e.volume) (s.chargeOf e.volume e.len) 1 (refundLive e s1)

/-- The record is removed: it leaves the table and its charge is refunded (R12). -/
def removeLive (e : Extent) (s : State) : State := refundLive e (s.removeExtent e.volume e.first)

end Sys2Proof.Machine
end

