-- ==== Sys2Proof/Machine/Exports.lean ====
section
/-! DEFINITION. The records the part writes to host buffers (Table 11-9), and the two gates every request passes (R180, R200, R202). -/

namespace Sys2Proof.Machine

/-! ### Exported records -/

/-- The exported extent record, 64 bytes (Table 11-9). -/
def extentBytes (e : Extent) : List Byte :=
  le 1 e.volume.val ++ le 1 (if e.live then 1 else 2) ++
    le 1 (flagBit e.filling 0 + flagBit e.group.isSome 1 + flagBit e.death.isSome 2 + flagBit e.mark.isSome 3 +
      flagBit (decide (e.mark.map Mark.kind = some MarkKind.provDeath)) 4 + flagBit e.source.isSome 5) ++
    zeros 1 ++ le 2 e.len ++ le 6 e.first ++ le 6 e.object ++ le 6 e.offset ++ le 4 e.owner ++ le 4 (e.group.getD 0) ++
    le 4 e.birth ++ le 4 (e.death.getD 0) ++ le 4 ((e.mark.map Mark.runId).getD 0) ++ le 6 (e.source.getD 0) ++ zeros 14

/-- The exported account record, 32 bytes (Table 11-9). -/
def accountBytes (i : Nat) (a : Account) : List Byte :=
  le 4 i ++ le 1 a.kind.code ++ le 1 a.state.code ++ le 1 a.margin ++
    le 1 (flagBit a.privileged 0 + flagBit a.deadline.isSome 1) ++ le 6 a.usage ++ le 6 a.hard ++ le 3 a.grace ++ zeros 1 ++
    le 4 (a.deadline.getD 0) ++ le 4 a.records

/-- The exported snapshot record, 32 bytes (Table 11-9). -/
def snapshotBytes (v : Vol) (x : Snapshot) : List Byte :=
  le 1 v.val ++ le 1 (if x.active then 1 else 2) ++ le 1 (flagBit x.replBase 0 + flagBit x.replTarget 1) ++ le 1 x.holds ++
    le 4 x.epoch ++ le 8 x.label ++ le 4 x.createdAt ++ zeros 12

/-- The exported piece of a PROBE, 24 bytes (Table 11-9). -/
def pieceBytes (p : Piece) : List Byte :=
  le 1 (if p.source.isSome then 1 else 2) ++ zeros 3 ++ le 4 p.len ++ le 6 p.offset ++ zeros 2 ++ le 6 (p.source.getD 0) ++ zeros 2

/-- The volume number field is in range (R9). -/
def volumeOk (n : Nat) : Bool := decide (n ≤ 15)

/-- An account index field is in range (R9). -/
def accountOk (n : Nat) : Bool := decide (n ≤ Config.maxAccount)

/-- A group field, when present, is in range (R9). -/
def groupOk (g : Option Nat) : Bool :=
  match g with
  | some i => accountOk i
  | none => true

/-! ### The gates of a request -/

/-- The request kinds admitted in SAFE state (R200). -/
def safeAdmits : Request → Bool
  | .storeStage _ | .storeCommit _ | .storeVerify | .storeRead _ => true
  | .queryExtent _ | .queryVolume _ | .queryAccount _ | .queryMover _ | .queryRun _ | .queryInbound _ | .queryPeer _ => true
  | .format => true
  | _ => false

/-- The request kinds that a FORMAT in progress does not refuse with BUSY (R202). FORMAT and APPLY_DEFINITIONS have refusals of their own for it (R201, R198): where the store
does not verify, an APPLY_DEFINITIONS is refused STORE_BAD, which R198 checks first, and not BUSY (notes/assumptions/48.md). -/
def formatAdmits : Request → Bool
  | .queryExtent _ | .queryVolume _ | .queryAccount _ | .queryMover _ | .queryRun _ | .queryInbound _ | .queryPeer _ => true
  | .setClock _ | .faultClear _ | .cancelRestore _ | .runCancel _ => true
  | .storeStage _ | .storeCommit _ | .storeVerify | .storeRead _ => true
  | .applyDefinitions | .format => true
  | _ => false

/-- The first refusal of a request: its form (R180), SAFE state (R200), a FORMAT in progress (R202); `none` hands it to its owner (notes/assumptions/15.md). -/
def State.gateRefusal (s : State) (q : Request) (formOk : Bool) : Option Status :=
  if !formOk then some .badRequest
  else if s.ps.safe && !safeAdmits q then some .storeBad
  else if s.ps.format.isSome && !formatAdmits q then some .busy
  else none

/-- A request passes the gates and is acted on, or is refused without values (notes/assumptions/15.md). -/
def gated (r : RingNo) (tag : Nat) (q : Request) (formOk : Bool) (act : State → State) (s : State) : State :=
  match s.gateRefusal q formOk with
  | some st => refuse r tag q st s
  | none => act s

/-- A request that a check may refuse without values is acted on when none does. -/
def checked (r : RingNo) (tag : Nat) (q : Request) (check : Option Status) (act : State → State) (s : State) : State :=
  match check with
  | some st => refuse r tag q st s
  | none => act s

/-- The first check that fails, of a list in order. -/
def firstFailure : List (Bool × Status) → Option Status
  | [] => none
  | (failed, st) :: rest => if failed then some st else firstFailure rest

end Sys2Proof.Machine
end

