-- ==== Sys2Proof/Machine/Accounts.lean ====
section
/-! DEFINITION. The requests on accounts, the estate clock and grace expiry (chapter 2), and the pacer's window that the clock drives (R124). -/

namespace Sys2Proof.Machine

/-! ### The window of the pacer (R124) -/

/-- The hour of a clock value. -/
def hourOf (clock : Nat) : Nat := clock % 86400 / 3600

/-- Night applies at an hour. -/
def nightApplies (x : Settings) (hour : Nat) : Bool :=
  if x.nightStart < x.nightEnd then decide (x.nightStart ≤ hour) && decide (hour < x.nightEnd)
  else if x.nightEnd < x.nightStart then decide (x.nightStart ≤ hour) || decide (hour < x.nightEnd)
  else false

/-- The P in use at a clock value. -/
def Settings.pAt (x : Settings) (clock : Nat) : Nat := if nightApplies x (hourOf clock) then x.pNight else x.pDay

/-- The Duplication Sender examines the window again. -/
def reexamine (s : State) : State := s.setDs { s.ds with p := s.ds.settings.pAt s.qu.clock }

/-! ### Expiry (R44) -/

/-- The account at the head of the grace timer list expires. -/
def expireHead (s : State) : State :=
  match s.qu.timers with
  | [] => s
  | (_, i) :: _ => raise .graceExpired i 0 (s.putUser i { s.account i with state := .expired })

/-- The head of the grace timer list is due. -/
def State.headDue (s : State) : Bool :=
  match s.qu.timers with
  | [] => false
  | (d, _) :: _ => decide (d ≤ s.qu.clock)

/-- Every due account expires in list order, at most `fuel` of them: the state after, and their number. -/
def expireDue : (fuel : Nat) → State → State × Nat
  | 0, s => (s, 0)
  | fuel + 1, s =>
    if s.headDue then ((expireDue fuel (expireHead s)).1, (expireDue fuel (expireHead s)).2 + 1) else (s, 0)

/-! ### Requests on accounts -/

/-- The ranges that SET_LIMIT and LOAD_ACCOUNT share (R37, R38). -/
def termsOk (account hard margin grace : Nat) : Bool :=
  accountOk account && decide (hard ≤ Config.max48) && decide (margin ≤ 7) && decide (grace ≤ Config.maxGrace)

/-- The account with the terms of a SET_LIMIT (R37). -/
def limited (p : SetLimitParams) (a : Account) : Account :=
  match a.kind with
  | .user | .group => { a with hard := p.hard, margin := p.margin, grace := p.grace, privileged := p.privileged }
  | _ => { a with hard := p.hard, margin := p.margin }

/-- The acceptance of a SET_LIMIT: the terms, then the re-rating (R37). -/
def setLimitAccept (p : SetLimitParams) (s : State) : State :=
  rerate p.account (s.account p.account).usage (s.setAccount p.account (limited p (s.account p.account)))

/-- SET_LIMIT (R37). -/
def reqSetLimit (r : RingNo) (tag : Nat) (p : SetLimitParams) (s : State) : State :=
  let q := Request.setLimit p
  gated r tag q (termsOk p.account p.hard p.margin p.grace) (fun s =>
    if (s.account p.account).kind = .none then refuse r tag q .noAccount s
    else
      let s1 := setLimitAccept p s
      let a := s1.account p.account
      reply r tag q .ok a.state.code a.soft a.leave s1) s

/-- A given deadline is applied to an account after its re-rating (R38). -/
def applyDeadline (clock d : Nat) (a : Account) : Account :=
  match a.state with
  | .grace => if clock < d then { a with deadline := some d } else { a with deadline := some d, state := .expired }
  | .expired => if clock < d then { a with deadline := some d, state := .grace } else { a with deadline := some d }
  | .overHard => { a with deadline := some d }
  | _ => a

/-- The acceptance of a LOAD_ACCOUNT: the terms, the re-rating, and the deadline when one is given (R38). -/
def loadAccountAccept (p : LoadAccountParams) (k : AccountKind) (s : State) : State :=
  let a := s.account p.account
  let s1 := rerate p.account a.usage (s.setAccount p.account
    { a with kind := k, hard := p.hard, margin := p.margin, grace := p.grace, privileged := p.privileged })
  match p.deadline with
  | some d => s1.putUser p.account (applyDeadline s1.qu.clock d (s1.account p.account))
  | none => s1

/-- The index is that of a host account (R38, R39). -/
def hostAccount (i : Nat) : Bool := decide (32 ≤ i) && accountOk i

/-- LOAD_ACCOUNT (R38). -/
def reqLoadAccount (r : RingNo) (tag : Nat) (p : LoadAccountParams) (s : State) : State :=
  let q := Request.loadAccount p
  gated r tag q
    (hostAccount p.account && termsOk p.account p.hard p.margin p.grace && (AccountKind.ofHostCode p.kind).isSome) (fun s =>
    match AccountKind.ofHostCode p.kind with
    | none => refuse r tag q .badRequest s
    | some k =>
      let a := s.account p.account
      if a.kind ≠ .none ∧ a.kind ≠ k ∧ a.records ≠ 0 then refuse r tag q .accountBusy s
      else
        let s1 := loadAccountAccept p k s
        reply r tag q .ok (s1.account p.account).state.code (s1.account p.account).usage 0 s1) s

/-- DROP_ACCOUNT (R39). -/
def reqDropAccount (r : RingNo) (tag : Nat) (account : Nat) (s : State) : State :=
  let q := Request.dropAccount account
  gated r tag q (hostAccount account) (fun s =>
    if (s.account account).records ≠ 0 then refuse r tag q .accountBusy s
    else reply r tag q .ok 0 0 0 (s.putUser account .none)) s

/-- QUERY_ACCOUNT (R40). -/
def reqQueryAccount (r : RingNo) (tag : Nat) (p : QueryAccountParams) (s : State) : State :=
  let q := Request.queryAccount p
  gated r tag q (accountOk p.account) (fun s =>
    let a := s.account p.account
    reply r tag q .ok (a.kind.code + 256 * a.state.code) a.usage a.hard (s.writeBytes p.buffer (accountBytes p.account a))) s

/-- The clock takes a value, and the accounts that a forward move makes due expire: the state after, and their number (R42; notes/assumptions/6.md). -/
def setClockAccept (value : Nat) (s : State) : State × Nat :=
  let s1 := reexamine (s.setQu { s.qu with clock := value })
  if s.qu.clock < value then expireDue s1.qu.timers.length s1 else (s1, 0)

/-- SET_CLOCK (R42). -/
def reqSetClock (r : RingNo) (tag : Nat) (value : Nat) (s : State) : State :=
  let q := Request.setClock value
  gated r tag q (decide (value ≤ Config.max32)) (fun s =>
    reply r tag q .ok (setClockAccept value s).2 s.qu.clock 0 (setClockAccept value s).1) s

/-! ### The commands -/

/-- SET_LIMIT. -/
def execSetLimit (ring : RingNo) (tag : Nat) (p : SetLimitParams) (s : State) : Host.Outcome State Fault Refusal :=
  .next (reqSetLimit ring tag p s)
/-- LOAD_ACCOUNT. -/
def execLoadAccount (ring : RingNo) (tag : Nat) (p : LoadAccountParams) (s : State) : Host.Outcome State Fault Refusal :=
  .next (reqLoadAccount ring tag p s)
/-- DROP_ACCOUNT. -/
def execDropAccount (ring : RingNo) (tag : Nat) (account : Nat) (s : State) : Host.Outcome State Fault Refusal :=
  .next (reqDropAccount ring tag account s)
/-- QUERY_ACCOUNT. -/
def execQueryAccount (ring : RingNo) (tag : Nat) (p : QueryAccountParams) (s : State) : Host.Outcome State Fault Refusal :=
  .next (reqQueryAccount ring tag p s)
/-- SET_CLOCK. -/
def execSetClock (ring : RingNo) (tag : Nat) (value : Nat) (s : State) : Host.Outcome State Fault Refusal :=
  .next (reqSetClock ring tag value s)

/-- CLOCK_ADVANCE: the clock rises by one until its last value; the examination of the timer list begins (its expiries are GRACE_EXPIRY commands,
notes/assumptions/6.md), the pacer's window is examined (R124), and the run queue is to be looked at (R41, R114). -/
def execClockAdvance (s : State) : Host.Outcome State Fault Refusal :=
  let s1 := reexamine (s.setQu { s.qu with clock := min (s.qu.clock + 1) Config.max32, examining := true })
  .next (s1.setDs { s1.ds with lookDue := true })

/-- GRACE_EXPIRY: within an examination the head of the list expires when it is due; when it is not, the examination is over (R44; notes/assumptions/6.md). -/
def execGraceExpiry (s : State) : Host.Outcome State Fault Refusal :=
  if s.qu.examining then
    if s.headDue then .next (expireHead s) else .next (s.setQu { s.qu with examining := false })
  else .next s

end Sys2Proof.Machine
end

