-- ==== Sys2Proof/Machine/Extents.lean ====
section
/-! DEFINITION. The requests on extents and volumes (chapter 1). -/

namespace Sys2Proof.Machine

/-- The range checks R9 makes on the fields of a new record. -/
def chargeOk (p : ChargeParams) : Bool :=
  volumeOk p.volume && decide (p.object ≠ 0) && decide (1 ≤ p.len) && decide (p.len ≤ Config.maxExtentLen) &&
    decide (p.offset + p.len ≤ Config.maxBlocks) && accountOk p.owner && groupOk p.group

/-- The run of a new record. -/
def chargeRun (p : ChargeParams) : Run := ⟨p.first, p.len⟩

/-- The volume checks of CHARGE, SPLIT and DROP in their order (R9). -/
def State.primaryOnline (s : State) (v : Vol) : Option Status :=
  firstFailure
    [ (decide ((s.vol v).state = .undefined), .noVolume),
      (decide ((s.vol v).defn.role = .replica), .volumeRole),
      (decide ((s.vol v).state ≠ .online), .volumeState) ]

/-- Some part of a run passes the volume's block count (R10). -/
def State.outOfRange (s : State) (v : Vol) (r : Run) : Bool := decide ((s.vol v).defn.blockCount < r.stop)

/-- The record a CHARGE makes (R10). -/
def chargeRecord (p : ChargeParams) (v : Vol) (birth : Nat) : Extent :=
  ⟨v, p.first, p.len, p.object, p.offset, p.owner, p.group, birth, none, false, none, none⟩

/-- The volume's current epoch; it is present in every state that uses it (R7). -/
def State.epochOf (s : State) (v : Vol) : Nat := (s.vol v).epoch.getD 0

/-- The acceptance of a CHARGE: the record and its charges, as one update (R10). -/
def chargeAccept (p : ChargeParams) (v : Vol) (s : State) : State :=
  onOwnerGroup (fun i => chargeAccount i (s.chargeOf v p.len) 1) p.owner p.group (s.addExtent (chargeRecord p v (s.epochOf v)))

/-- CHARGE (R10). -/
def reqCharge (r : RingNo) (tag : Nat) (p : ChargeParams) (s : State) : State :=
  let q := Request.charge p
  let v := toVol p.volume
  gated r tag q (chargeOk p) (fun s =>
    checked r tag q (s.primaryOnline v) (fun s =>
      if s.outOfRange v (chargeRun p) then refuse r tag q .outOfRange s
      else if (accountKindFault s p.owner p.group).isSome then refuse r tag q .accountKind s
      else if s.taken v (chargeRun p) then refuse r tag q .overlap s
      else if s.tableRoom 1 = false then refuse r tag q .tableFull s
      else
        match twoAccountDecision s p.owner p.group (s.chargeOf v p.len) with
        | some f => reply r tag q f.status f.account f.side 0 s
        | none => reply r tag q .ok 0 (s.epochOf v) (s.chargeOf v p.len) (chargeAccept p v s)) s) s

/-- The splitting of a record: the first part keeps its place, the second joins the table, and the record counts rise (R11). -/
def splitRecord (e : Extent) (k : Nat) (s : State) : State :=
  onLiveAccounts (fun i => countRecords i 1) e ((s.updateExtent e.volume e.first (·.front k)).addExtent (e.back k))

/-- SPLIT (R11). -/
def reqSplit (r : RingNo) (tag : Nat) (p : SplitParams) (s : State) : State :=
  let q := Request.split p
  let v := toVol p.volume
  gated r tag q (volumeOk p.volume) (fun s =>
    checked r tag q (s.primaryOnline v) (fun s =>
      match s.recordAt v p.first with
      | none => refuse r tag q .noExtent s
      | some e =>
        if p.k = 0 ∨ e.len ≤ p.k then refuse r tag q .outOfRange s
        else if e.live = false then refuse r tag q .notLive s
        else if e.filling then refuse r tag q .extentBusy s
        else if s.tableRoom 1 = false then refuse r tag q .tableFull s
        else reply r tag q .ok 0 (e.first + p.k) 0 (splitRecord e p.k s)) s) s

/-- DROP (R13). -/
def reqDrop (r : RingNo) (tag : Nat) (p : DropParams) (s : State) : State :=
  let q := Request.drop p
  let v := toVol p.volume
  gated r tag q (volumeOk p.volume) (fun s =>
    checked r tag q (s.primaryOnline v) (fun s =>
      match s.recordAt v p.first with
      | none => refuse r tag q .noExtent s
      | some e =>
        if e.live = false then refuse r tag q .notLive s
        else if e.filling then refuse r tag q .extentBusy s
        else if s.dropHolds e (s.epochOf v) then
          reply r tag q .held 0 (s.epochOf v) (s.chargeOf v e.len) (holdRecord e (s.epochOf v) s)
        else reply r tag q .released 0 (s.epochOf v) (s.chargeOf v e.len) (removeLive e s)) s) s

/-- The record a QUERY_EXTENT writes to its buffer, or its refusal (R14). -/
def queryExtentFound (p : QueryExtentParams) (s : State) : Status ⊕ Extent :=
  if (s.vol (toVol p.volume)).state = .undefined then .inl .noVolume
  else
    match s.recordHolding (toVol p.volume) p.block with
    | none => .inl .noExtent
    | some e => .inr e

/-- QUERY_EXTENT (R14). -/
def reqQueryExtent (r : RingNo) (tag : Nat) (p : QueryExtentParams) (s : State) : State :=
  let q := Request.queryExtent p
  gated r tag q (volumeOk p.volume) (fun s =>
    match queryExtentFound p s with
    | .inl st => refuse r tag q st s
    | .inr e => reply r tag q .ok 0 e.first e.object (s.writeBytes p.buffer (extentBytes e))) s

/-- A of QUERY_VOLUME (Table 11-8). -/
def volumeWord (s : State) (v : Vol) : Nat :=
  (s.vol v).defn.role.code + 256 * (s.vol v).state.code + 65536 * (if (s.snapVol v).closing then 1 else 0) +
    16777216 * (s.vol v).defn.blockKiB

/-- QUERY_VOLUME (R15). -/
def reqQueryVolume (r : RingNo) (tag : Nat) (volume : Nat) (s : State) : State :=
  let q := Request.queryVolume volume
  let v := toVol volume
  gated r tag q (volumeOk volume) (fun s =>
    reply r tag q .ok (volumeWord s v) ((s.vol v).epoch.getD 0) (s.records v).length s) s

/-- The volume checks of the requests that only a DEFINED volume admits (R16, R17, R18). -/
def State.definedOnly (s : State) (v : Vol) : List (Bool × Status) :=
  [ (decide ((s.vol v).state = .undefined), .noVolume),
    (decide ((s.vol v).state ≠ .defined), .volumeState) ]

/-- A snapshot takes its place by ascending epoch (R16). -/
def insertSnapshot (x : Snapshot) : List Snapshot → List Snapshot
  | [] => [x]
  | y :: ys => if x.epoch < y.epoch then x :: y :: ys else y :: insertSnapshot x ys

/-- The greatest epoch seen of a volume takes an epoch in (R18). -/
def noteEpoch (v : Vol) (n : Nat) (s : State) : State :=
  s.setVol v { s.vol v with seen := seenMax (s.vol v).seen n }

/-- The acceptance of a LOAD_SNAPSHOT (R16). -/
def loadSnapshotAccept (p : LoadSnapshotParams) (v : Vol) (s : State) : State :=
  let x := s.snapVol v
  let s1 := noteEpoch v p.epoch
    (s.setSnapVol v { x with snaps := insertSnapshot ⟨p.epoch, p.label, p.createdAt, true, false, false, 0⟩ x.snaps })
  if p.base then moveBase v p.epoch s1 else s1

/-- LOAD_SNAPSHOT (R16). -/
def reqLoadSnapshot (r : RingNo) (tag : Nat) (p : LoadSnapshotParams) (s : State) : State :=
  let q := Request.loadSnapshot p
  let v := toVol p.volume
  gated r tag q (volumeOk p.volume && decide (p.epoch ≠ 0)) (fun s =>
    checked r tag q (firstFailure (s.definedOnly v ++
      [ (decide (p.epoch = Config.max32), .epochExhausted),
        ((s.snapLabelled v p.label).isSome, .labelTaken),
        ((s.snapAt v p.epoch).isSome, .epochOrder),
        (decide (Config.maxSnapshots ≤ (s.snapVol v).snaps.length), .snapshotListFull) ]))
      (fun s => reply r tag q .ok 0 p.epoch 0 (loadSnapshotAccept p v s)) s) s

/-- The acceptance of a LOAD_EXTENT: the record, and its clamp charges (R17). A source first block given for a PRIMARY volume is not stored. -/
def loadExtentAccept (p : LoadExtentParams) (v : Vol) (s : State) : State :=
  let e : Extent := { chargeRecord p.charge v p.birth with
    death := p.death
    source := if (s.vol v).defn.role = .replica then p.source else none }
  let s1 := noteEpoch v (max p.birth (p.death.getD 0)) (s.addExtent e)
  match p.death with
  | none => onLiveAccounts (fun i => chargeAccount i (s.chargeOf v p.charge.len) 1) e s1
  | some _ => chargeAccount (reserveIndex v) (s.chargeOf v p.charge.len) 1 s1

/-- Some snapshot of the volume lies from the birth up to, but not including, the death epoch (R17). -/
def State.neededBy (s : State) (v : Vol) (birth death : Nat) : Bool :=
  (s.snapVol v).snaps.any fun x => decide (birth ≤ x.epoch) && decide (x.epoch < death)

/-- LOAD_EXTENT (R17). -/
def reqLoadExtent (r : RingNo) (tag : Nat) (p : LoadExtentParams) (s : State) : State :=
  let q := Request.loadExtent p
  let v := toVol p.charge.volume
  gated r tag q (chargeOk p.charge && decide (p.birth ≠ 0) && decide (p.death ≠ some 0)) (fun s =>
    checked r tag q (firstFailure (s.definedOnly v ++
      [ (decide ((s.vol v).defn.role = .replica) && p.source.isNone, .badRequest),
        (s.outOfRange v (chargeRun p.charge), .outOfRange),
        (decide ((s.vol v).defn.role = .primary) && p.death.isNone && (accountKindFault s p.charge.owner p.charge.group).isSome,
          .accountKind),
        (s.taken v (chargeRun p.charge), .overlap),
        ((match p.death with | some d => !s.neededBy v p.birth d | none => false), .notNeeded),
        (!s.tableRoom 1, .tableFull) ]))
      (fun s => reply r tag q .ok 0 0 0 (loadExtentAccept p v s)) s) s

/-- The epoch given exceeds every epoch seen on the volume (R18). The greatest epoch seen is cleared only where R22 lists, so a DEFINED volume that trimming has emptied
again still refuses the epochs up to it (notes/assumptions/45.md). -/
def State.aboveSeen (s : State) (v : Vol) (e : Nat) : Bool :=
  match (s.vol v).seen with
  | some m => decide (m < e)
  | none => true

/-- OPEN_VOLUME (R18). -/
def reqOpenVolume (r : RingNo) (tag : Nat) (p : OpenVolumeParams) (s : State) : State :=
  let q := Request.openVolume p
  let v := toVol p.volume
  gated r tag q (volumeOk p.volume && decide (p.epoch ≠ 0)) (fun s =>
    checked r tag q (firstFailure (s.definedOnly v ++ [(!s.aboveSeen v p.epoch, .epochOrder)]))
      (fun s => reply r tag q .ok 0 p.epoch 0 (s.setVol v { s.vol v with epoch := some p.epoch, state := .online })) s) s

/-- The volume checks of the requests that an ONLINE or SEALED volume admits (R19). -/
def State.openOnly (s : State) (v : Vol) : List (Bool × Status) :=
  [ (decide ((s.vol v).state = .undefined), .noVolume),
    (decide ((s.vol v).state = .defined), .volumeState) ]

/-- SEAL_VOLUME (R19). -/
def reqSealVolume (r : RingNo) (tag : Nat) (volume : Nat) (s : State) : State :=
  let q := Request.sealVolume volume
  let v := toVol volume
  gated r tag q (volumeOk volume) (fun s =>
    checked r tag q (firstFailure (s.openOnly v))
      (fun s => reply r tag q .ok 0 0 0 (s.setVol v { s.vol v with state := .sealed })) s) s

/-- UNSEAL_VOLUME (R19). -/
def reqUnsealVolume (r : RingNo) (tag : Nat) (volume : Nat) (s : State) : State :=
  let q := Request.unsealVolume volume
  let v := toVol volume
  gated r tag q (volumeOk volume) (fun s =>
    checked r tag q (firstFailure (s.openOnly v))
      (fun s => reply r tag q .ok 0 0 0 (s.setVol v { s.vol v with state := .online })) s) s

/-! ### SCAN_OUT (R20, R21) -/

/-- The record that a walk visits next, as its bytes and the next key after it; none when no record lies at or beyond the key (Table 1-5). -/
def State.scanNext (s : State) (v : Vol) (w : ScanWhat) (key : Nat) : Option (List Byte × Nat) :=
  match w with
  | .extents => (s.nextRecord v key).map fun e => (extentBytes e, e.stop)
  | .accounts => (s.qu.accounts.find? fun a => decide (key ≤ a.1)).map fun a => (accountBytes a.1 a.2, a.1 + 1)
  | .snapshots => ((s.snapVol v).snaps.find? fun x => decide (key ≤ x.epoch)).map fun x => (snapshotBytes v x, x.epoch + 1)

/-- The length of a collection's exported record (Table 11-9). -/
def ScanWhat.width : ScanWhat → Nat
  | .extents => 64
  | .accounts => 32
  | .snapshots => 32

/-- The range checks of SCAN_OUT (R20). -/
def scanOutOk (p : ScanOutParams) : Bool :=
  decide (1 ≤ p.max) && decide (p.max ≤ 4096) &&
    (match ScanWhat.ofCode p.what with
    | none => false
    | some .accounts => true
    | some _ => volumeOk p.volume)

/-- SCAN_OUT is taken (R20): its export begins at the resume key. A ring has one request being taken (R179), so a ring with an export under way begins no other
(notes/assumptions/12.md). -/
def reqScanOut (r : RingNo) (tag : Nat) (p : ScanOutParams) (s : State) : State :=
  let q := Request.scanOut p
  let v := toVol p.volume
  gated r tag q (scanOutOk p) (fun s =>
    match ScanWhat.ofCode p.what with
    | none => refuse r tag q .badRequest s
    | some w =>
      if w ≠ .accounts ∧ (s.vol v).state = .undefined then refuse r tag q .noVolume s
      else if (s.scanOf r).isSome then s
      else s.setScan r (some ⟨tag, v, w, p.buffer, p.max, p.key, 0⟩)) s

/-- The record that an export writes next; none when it has written its maximum or its walk finds no further record (R20). -/
def Scan.visits (x : Scan) (s : State) : Option (List Byte × Nat) :=
  if x.count < x.max then s.scanNext x.volume x.what x.key else none

/-- The next place of an export's buffer (R20). -/
def Scan.place (x : Scan) : Nat := x.buffer + x.what.width * x.count

/-- An export goes on (R20, R21): the record it visits is written as it stands, or the export ends and is answered (notes/assumptions/14.md). -/
def exportStep (r : RingNo) (x : Scan) (s : State) : State :=
  match x.visits s with
  | some (bs, key) => (s.writeBytes x.place bs).setScan r (some { x with key := key, count := x.count + 1 })
  | none =>
    answer r ⟨x.tag, 0x0B, Status.ok.code, x.count, x.key, if (s.scanNext x.volume x.what x.key).isNone then 1 else 0⟩ (s.setScan r none)

/-! ### The commands -/

/-- CHARGE. -/
def execCharge (ring : RingNo) (tag : Nat) (p : ChargeParams) (s : State) : Host.Outcome State Fault Refusal :=
  .next (reqCharge ring tag p s)
/-- SPLIT. -/
def execSplit (ring : RingNo) (tag : Nat) (p : SplitParams) (s : State) : Host.Outcome State Fault Refusal :=
  .next (reqSplit ring tag p s)
/-- DROP. -/
def execDrop (ring : RingNo) (tag : Nat) (p : DropParams) (s : State) : Host.Outcome State Fault Refusal :=
  .next (reqDrop ring tag p s)
/-- QUERY_EXTENT. -/
def execQueryExtent (ring : RingNo) (tag : Nat) (p : QueryExtentParams) (s : State) : Host.Outcome State Fault Refusal :=
  .next (reqQueryExtent ring tag p s)
/-- QUERY_VOLUME. -/
def execQueryVolume (ring : RingNo) (tag : Nat) (volume : Nat) (s : State) : Host.Outcome State Fault Refusal :=
  .next (reqQueryVolume ring tag volume s)
/-- LOAD_SNAPSHOT. -/
def execLoadSnapshot (ring : RingNo) (tag : Nat) (p : LoadSnapshotParams) (s : State) : Host.Outcome State Fault Refusal :=
  .next (reqLoadSnapshot ring tag p s)
/-- LOAD_EXTENT. -/
def execLoadExtent (ring : RingNo) (tag : Nat) (p : LoadExtentParams) (s : State) : Host.Outcome State Fault Refusal :=
  .next (reqLoadExtent ring tag p s)
/-- OPEN_VOLUME. -/
def execOpenVolume (ring : RingNo) (tag : Nat) (p : OpenVolumeParams) (s : State) : Host.Outcome State Fault Refusal :=
  .next (reqOpenVolume ring tag p s)
/-- SEAL_VOLUME. -/
def execSealVolume (ring : RingNo) (tag : Nat) (volume : Nat) (s : State) : Host.Outcome State Fault Refusal :=
  .next (reqSealVolume ring tag volume s)
/-- UNSEAL_VOLUME. -/
def execUnsealVolume (ring : RingNo) (tag : Nat) (volume : Nat) (s : State) : Host.Outcome State Fault Refusal :=
  .next (reqUnsealVolume ring tag volume s)
/-- SCAN_OUT: its taking, or the next step of its export. -/
def execScanOut (ring : RingNo) (tag : Nat) (t : ScanStep) (s : State) : Host.Outcome State Fault Refusal :=
  match t with
  | .request p => .next (reqScanOut ring tag p s)
  | .goOn =>
    match s.scanOf ring with
    | some x => .next (exportStep ring x s)
    | none => .next s

end Sys2Proof.Machine
end

