-- ==== Sys2Proof/Machine/Frames.lean ====
section
/-! DEFINITION. Link frames as bytes (chapter 8, Table 11-10): building the frames the part sends, reading those that arrive, and the checks of R158, R161,
R163 and R164. -/

namespace Sys2Proof.Machine

/-- The 24-byte header with a given check field (Table 11-10). -/
def headerWith (check localId : Nat) (f : OutFrame) : List Byte :=
  le 1 f.kind.code ++ le 1 f.dir.code ++ le 2 check ++ le 4 localId ++ le 4 f.runId ++ le 1 f.sendVol ++ le 1 f.recvVol ++
    le 2 f.payload.length ++ le 4 f.seq ++ le 4 f.arg

/-- The Ethernet payload of a frame: its header with the header check, computed last, and its protocol payload (R162). -/
def frameBytes (localId : Nat) (f : OutFrame) : List Byte :=
  headerWith (headerCheck (headerWith 0 localId f)) localId f ++ f.payload

/-- An Ethernet payload padded up to the Ethernet minimum (R158) of 46 bytes (notes/assumptions/37.md), with 0 in every byte that no field occupies (R203). -/
def padded (bs : List Byte) : List Byte := bs ++ zeros (46 - bs.length)

/-- The fields of an arrived frame's header (Table 8-2). -/
structure Header where
  kind : FrameKind
  dir : Direction
  peerId : Nat
  runId : Nat
  sendVol : Nat
  recvVol : Nat
  seq : Nat
  arg : Nat
  deriving DecidableEq, Repr

/-- A frame that has passed every check (R165): the entry it matched, its source, its header fields and its protocol payload. -/
structure InFrame where
  entry : Ctx
  src : Nat
  header : Header
  payload : List Byte
  deriving DecidableEq, Repr

/-- What the Link Controller finds of an arriving frame. -/
inductive Arrival where
  /-- discarded without trace (R158, R161) -/
  | noTrace
  /-- discarded, with the entry's frame-error flag set (R163, R164) -/
  | frameError (entry : Ctx)
  /-- handed on (R165) -/
  | pass (f : InFrame)
  deriving DecidableEq, Repr

/-- The directions Table 8-3 allows for a kind. -/
def dirAllowed : FrameKind → Direction → Bool
  | .offer, d | .batchHead, d | .batchData, d | .batchEnd, d | .close, d => decide (d = .forward)
  | .accept, d | .decline, d | .receipt, d | .closed, d => decide (d = .backward)
  | .abort, _ => true

/-- The payload length Table 8-3 gives for a kind, given the argument (R164). -/
def lengthAllowed (k : FrameKind) (arg n : Nat) : Bool :=
  match k with
  | .offer => decide (n = 12)
  | .decline => decide (n = 4)
  | .close => decide (n = 4)
  | .batchHead => decide (n = 32 * (arg % 65536) + 8 * (arg / 65536))
  | .batchData => decide (n % 4 = 0) && decide (4 ≤ n) && decide (n ≤ 8192)
  | .accept | .batchEnd | .receipt | .closed | .abort => decide (n = 0)

/-- The argument check of R164. -/
def argAllowed (k : FrameKind) (arg : Nat) : Bool :=
  match k with
  | .receipt => (ReceiptKind.ofCode arg).isSome
  | .closed => decide (arg = closedCommitted) || decide (arg = closedRefused)
  | _ => true

/-- The enabled entries whose address equals the frame's source, lowest number first (R161). -/
def State.entriesOf (s : State) (src : Nat) : List Ctx :=
  ctxList.filter fun i => s.lc.peers[i].enabled && decide (s.lc.peers[i].address = src)

/-- The sender peer id of a frame; a frame too short to hold the whole field has none (R161). -/
def senderIdOf (f : EthFrame) : Option Nat := if 8 ≤ f.payload.length then some (field f.payload 4 4) else none

/-- The entry a frame's checks are charged to (R161): the first of the source's entries with the frame's sender peer id, else the first of them. -/
def State.chargedEntry (s : State) (src : Nat) (peerId : Option Nat) : Option Ctx :=
  match (s.entriesOf src).find? (fun i => decide (some s.lc.peers[i].id = peerId)) with
  | some i => some i
  | none => (s.entriesOf src).head?

/-- The port takes the frame in (R158). -/
def State.portTakes (s : State) (f : EthFrame) : Bool :=
  f.fcsOk && decide (f.dest = s.lc.station) && decide (f.etherType = s.lc.etherType) && decide (f.payload.length ≤ 9000)

/-- The form check of a frame whose header check has passed (R164): the frame it hands on, or none. -/
def formCheck (s : State) (i : Ctx) (f : EthFrame) : Option InFrame :=
  let h := f.payload
  match FrameKind.ofCode (field h 0 1), Direction.ofCode (field h 1 1) with
  | some k, some d =>
    if field h 4 4 = s.lc.peers[i].id ∧ dirAllowed k d = true ∧ field h 14 2 ≤ 8976 ∧ 24 + field h 14 2 ≤ h.length ∧
        lengthAllowed k (field h 20 4) (field h 14 2) = true ∧ argAllowed k (field h 20 4) = true then
      some ⟨i, f.src,
        ⟨k, d, field h 4 4, field h 8 4, field h 12 1, field h 13 1, field h 16 4, field h 20 4⟩,
        (h.drop 24).take (field h 14 2)⟩
    else none
  | _, _ => none

/-- The Link Controller's checks of a frame, in their order: the port (R158), the peer match (R161), the header check (R163) and the form check (R164). No frame
is received while the link is DOWN (R159). -/
def State.arrival (s : State) (f : EthFrame) : Arrival :=
  if s.lc.up && s.portTakes f then
    match s.chargedEntry f.src (senderIdOf f) with
    | none => .noTrace
    | some i =>
      if f.payload.length < 24 ∨ headerCheck (f.payload.take 24) ≠ field f.payload 2 2 then .frameError i
      else
        match formCheck s i f with
        | none => .frameError i
        | some p => .pass p
  else .noTrace

/-- The 32-byte payload entry of a BATCH_HEAD (Table 11-10). -/
def entryBytes (e : PayloadEntry) : List Byte :=
  le 6 e.first ++ le 2 (e.len + flagBit e.group.isSome 15) ++ le 6 e.object ++ le 6 e.offset ++ le 4 e.owner ++
    le 4 (e.group.getD 0) ++ le 4 e.birth

/-- The payload entry that 32 bytes hold (Table 11-10). -/
def readEntry (bs : List Byte) : PayloadEntry :=
  ⟨field bs 0 6, field bs 6 2 % 8192, field bs 8 6, field bs 14 6, field bs 20 4,
   if field bs 6 2 < 32768 then none else some (field bs 24 4), field bs 28 4⟩

/-- The 8-byte run record and deletion entry (Tables 11-9, 11-10). -/
def runBytes (r : Run) : List Byte := le 6 r.first ++ le 2 r.len

/-- The run that 8 bytes hold (Tables 11-9, 11-10). -/
def readRun (bs : List Byte) : Run := ⟨field bs 0 6, field bs 6 2⟩

/-- The `n` records of `w` bytes that stand from the start of a byte list. -/
def cutRecords (w n : Nat) (bs : List Byte) : List (List Byte) := (List.range n).map fun i => (bs.drop (w * i)).take w

/-- The payload of a BATCH_HEAD: its payload entries, then its deletion entries (11.4). -/
def headPayload (entries : List PayloadEntry) (deletions : List Run) : List Byte :=
  entries.flatMap entryBytes ++ deletions.flatMap runBytes

/-- The argument of a BATCH_HEAD (Table 11-10). -/
def headArg (entries : List PayloadEntry) (deletions : List Run) : Nat := entries.length + 65536 * deletions.length

/-- The entry lists that a BATCH_HEAD's payload holds (Table 11-10). -/
def readHead (arg : Nat) (payload : List Byte) : List PayloadEntry × List Run :=
  ((cutRecords 32 (arg % 65536) payload).map readEntry,
   (cutRecords 8 (arg / 65536) (payload.drop (32 * (arg % 65536)))).map readRun)

/-- The credits a batch frame needs (R123): its length from the first header byte, in 4,096 bytes, rounded up. -/
def frameCredits (payloadLen : Nat) : Nat := (24 + payloadLen + 4095) / 4096

/-! ### Handing frames to the link (R166, R168) -/

/-- A control frame is handed over: discarded while the link is DOWN or when the control queue holds 16, else it joins the back (R166, R168). -/
def handControl (f : OutFrame) (s : State) : State :=
  if s.lc.up && decide (s.lc.control.length < Config.maxControl) then s.setLc { s.lc with control := s.lc.control ++ [f] } else s

/-- The next batch frame waiting to be handed over enters the transmit holding slot when it is empty; while the link is DOWN batch frames are taken and
discarded at once (R166, R168). -/
def pumpSlot (s : State) : State :=
  if s.lc.up then
    match s.lc.slot, s.ds.handover with
    | none, f :: rest => (s.setLc { s.lc with slot := some f }).setDs { s.ds with handover := rest }
    | _, _ => s
  else s.setDs { s.ds with handover := [] }

/-- The Duplication Sender hands over a BATCH_HEAD or BATCH_END, waiting while the slot is taken (R166). -/
def handBatch (f : OutFrame) (s : State) : State := pumpSlot (s.setDs { s.ds with handover := s.ds.handover ++ [f] })

/-- Batch frames that are no longer to be sent are removed from the slot and from those waiting for it (R127, R168). -/
def dropBatchFrames (p : Nat → Bool) (s : State) : State :=
  let s1 := s.setDs { s.ds with handover := s.ds.handover.filter fun f => !p f.seq }
  pumpSlot (match s1.lc.slot with
    | some f => if p f.seq then s1.setLc { s1.lc with slot := none } else s1
    | none => s1)

end Sys2Proof.Machine
end

