-- ==== Sys2Proof/Machine/SendCore.lean ====
section
/-! DEFINITION. The sender's frames and its moves between SHIPPING, DRAINING and CLOSING (R110, R121, R122, R129). -/

namespace Sys2Proof.Machine

/-- The active run becomes `x`. -/
def State.setActive (s : State) (x : OutRun) : State := s.setDs { s.ds with active := some x }

/-- A frame of an outbound run (R162, R167). -/
def runFrame (x : OutRun) (p : PeerCopy) (kind : FrameKind) (seq arg : Nat) (payload : List Byte) : OutFrame :=
  ⟨p.address, kind, .forward, x.runId, x.volume.val, p.remote, seq, arg, payload⟩

/-- The peer copy that a volume's definition and the peer table give (R115). -/
def State.peerCopy (s : State) (v : Vol) : Option PeerCopy :=
  match (s.vol v).defn.peer, (s.vol v).defn.remote with
  | some i, some m =>
    let p := s.lc.peers[(Fin.ofNat 4 i : Ctx)]
    some ⟨p.address, p.id, m⟩
  | _, _ => none

/-- The peer that a run's control frames go to: its peer copy, or before its first OFFER the peer that copy would be taken from (R130, R167; notes/assumptions/21.md). -/
def State.peerFor (s : State) (x : OutRun) : Option PeerCopy :=
  match x.peer with
  | some p => some p
  | none => s.peerCopy x.volume

/-- A control frame of the active run is handed over. -/
def handRunControl (kind : FrameKind) (seq arg : Nat) (payload : List Byte) (s : State) : State :=
  match s.ds.active with
  | some x =>
    match s.peerFor x with
    | some p => handControl (runFrame x p kind seq arg payload) s
    | none => s
  | none => s

/-- The CLOSE of the active run (R129): final seq, run digest and target epoch. -/
def sendClose (s : State) : State :=
  match s.ds.active with
  | some x => handRunControl .close (x.nextSeq - 1) x.digest.toNat (le 4 (x.target.getD 0)) s
  | none => s

/-- The run moves to CLOSING and sends its CLOSE (R129). -/
def startClosing (s : State) : State :=
  match s.ds.active with
  | some x => sendClose (s.setActive { x with state := .closing, resends := 0, exchange := none })
  | none => s

/-- No batch is being assembled, closed or held. -/
def Ds.allEntered (d : Ds) : Bool :=
  d.scanning.isNone && d.rest.isNone && d.assembly.payload.isEmpty && d.assembly.deletions.isEmpty && d.closed.isNone && d.holding.isNone

/-- The scan has ended and the last batch has entered the outstanding list: SHIPPING gives way to DRAINING (Table 6-2), or to CLOSING when nothing is outstanding: R129 says so of a run
with no batch ever closed, and the model does the same when every closed batch has landed before the scan ends (notes/assumptions/39.md). -/
def checkDrained (s : State) : State :=
  match s.ds.active with
  | some x =>
    if x.state = .shipping ∧ s.ds.allEntered = true then
      if s.ds.outstanding.isEmpty then startClosing s else s.setActive { x with state := .draining }
    else s
  | none => s

/-- The payload runs of a batch on the sending volume, in entry order (R96). -/
def Batch.runs (b : Batch) : List Run := b.payload.map fun e => ⟨e.first, e.len⟩

/-- The credits a batch's BATCH_HEAD needs (R121). -/
def Batch.headCredits (b : Batch) : Nat := frameCredits (32 * b.payload.length + 8 * b.deletions.length)

/-- A batch's BATCH_HEAD is handed over (R122). -/
def handHead (b : Batch) (s : State) : State :=
  match s.ds.active with
  | some x =>
    match x.peer with
    | some p => handBatch (runFrame x p .batchHead b.seq (headArg b.payload b.deletions) (headPayload b.payload b.deletions)) s
    | none => s
  | none => s

/-- A batch of the outstanding list changes. -/
def updateBatch (seq : Nat) (f : Batch → Batch) (bs : List Batch) : List Batch :=
  bs.map fun b => if b.seq = seq then f b else b

/-- The SHIP unit of the batch with this seq is granted: the held batch joins the back of the outstanding list in SENDING, the closed batch behind it moves into
the holding slot (R121); a PENDING_RESEND batch becomes SENDING and the run's resend count rises (R127). Its BATCH_HEAD is handed over (notes/assumptions/29.md), or waits behind
the frames before it (notes/assumptions/51.md). -/
def shipGranted (seq : Nat) (s : State) : State :=
  match s.ds.holding with
  | some b =>
    if b.seq = seq then
      checkDrained (handHead b (s.setDs { s.ds with
        outstanding := s.ds.outstanding ++ [{ b with stage := .sending }]
        holding := s.ds.closed.map fun c => { c with stage := .held }
        closed := none }))
    else resend
  | none => resend
where
  /-- A PENDING_RESEND batch is sent again. -/
  resend : State :=
    match s.ds.outstanding.find? (fun b => decide (b.seq = seq)), s.ds.active with
    | some b, some x =>
      handHead b ((s.setDs { s.ds with outstanding := updateBatch seq (fun b => { b with stage := .sending }) s.ds.outstanding }).setActive
        { x with batchResends := x.batchResends + 1 })
    | _, _ => s

end Sys2Proof.Machine
end

