-- ==== Sys2Proof/Machine/Mover.lean ====
section
/-! DEFINITION. The data mover: asking for the engine, withdrawal, the arbiter (R98, R99, R104), and the moving of blocks (R96, R97). -/

namespace Sys2Proof.Machine

/-- What a grant does at once: a SHIP unit's batch starts to be sent (R121, R127). -/
def grantEffect (u : MoverUnit) (s : State) : State := if u.cls = .ship then shipGranted u.seq s else s

/-- The engine becomes BUSY with a unit, and the rotation pointer is set to its class (R98). -/
def startUnit (u : MoverUnit) (s : State) : State :=
  grantEffect u (s.setDm { s.dm with engine := some u, pointer := u.cls })

/-- A requester asks for a unit (R98): granted at once, or entered in the waiting set; `none` when its class is faulted, so that it ends at once with FAULT
(R104). -/
def askUnit (u : MoverUnit) (s : State) : Option State :=
  if s.faulted u.cls then none
  else if s.dm.engine.isNone && s.dm.waiting.isEmpty then some (startUnit u s)
  else some (s.setDm { s.dm with waiting := s.dm.waiting ++ [u] })

/-- An entry of the waiting set is a requester's. -/
def MoverUnit.isOf (u : MoverUnit) (k : MoverClass) (n : Ctx) : Bool := decide (u.cls = k) && decide (u.num = n)

/-- A requester leaves the waiting set (R99). -/
def withdraw (k : MoverClass) (n : Ctx) (s : State) : State :=
  s.setDm { s.dm with waiting := s.dm.waiting.filter fun u => !u.isOf k n }

/-- A requester has an entry in the waiting set. -/
def State.waitsFor (s : State) (k : MoverClass) (n : Ctx) : Bool := s.dm.waiting.any (·.isOf k n)

/-- A requester's unit holds the engine. -/
def State.holdsEngine (s : State) (k : MoverClass) (n : Ctx) : Bool :=
  match s.dm.engine with
  | some u => u.isOf k n
  | none => false

/-- The classes in the fixed cycle, beginning with the one that follows the pointer (R98). -/
def cycleAfter : MoverClass → List MoverClass
  | .restore => [.ship, .land, .restore]
  | .ship => [.land, .restore, .ship]
  | .land => [.restore, .ship, .land]
  | .ring => [.restore, .ship, .land]

/-- The entry the arbiter chooses: of the first class of the cycle that has one, the entry that has waited longest (R98). -/
def nextEntry (pointer : MoverClass) (waiting : List MoverUnit) : Option MoverUnit :=
  (cycleAfter pointer).findSome? fun k => waiting.find? fun u => decide (u.cls = k)

/-- The engine, when IDLE, is granted to the arbiter's choice (R98). -/
def grantNext (s : State) : State :=
  match s.dm.engine, nextEntry s.dm.pointer s.dm.waiting with
  | none, some u => startUnit u (withdraw u.cls u.num s)
  | _, _ => s

/-- The engine is released. -/
def releaseEngine (s : State) : State := s.setDm { s.dm with engine := none }

/-- A segment that is not performed (R96). -/
def Segment.nothing : Segment := ⟨.zero, .zero, 0⟩

/-! ### Aperture addressing and transfers (R96, R97) -/

/-- The size of a volume's block in bytes. -/
def State.blockBytes (s : State) (v : Vol) : Nat := (s.vol v).defn.blockKiB * 1024

/-- The PCI Express address of a block of a volume (R97). -/
def State.blockAddr (s : State) (v : Vol) (block : Nat) : Nat := addr64 ((s.vol v).defn.aperture + block * s.blockBytes v)

/-- The start addresses of the 4,096-byte accesses that cover a run list, block by block in its order (R97). -/
def State.accesses (s : State) (v : Vol) (rs : List Run) : List Nat :=
  rs.flatMap fun r => (List.range r.len).flatMap fun i =>
    (List.range (s.blockBytes v / 4096)).map fun j => addr64 (s.blockAddr v (r.first + i) + 4096 * j)

/-- The data of the `k`-th access of a segment's source: a read, zeros, or staging (R96; notes/assumptions/34.md). -/
def MoveEnd.access (s : State) (k : Nat) : MoveEnd → List Byte
  | .aperture v rs =>
    match (s.accesses v rs)[k]? with
    | some a => s.readBytes a 4096
    | none => []
  | .zero => zeros 4096
  | .staging p => (p.drop (4096 * k)).take 4096
  | .link => []

/-- The addresses a segment writes, in order; none for a link end. -/
def Segment.writes (s : State) (g : Segment) : List Nat :=
  match g.dest with
  | .aperture v rs => s.accesses v rs
  | _ => []

/-- The addresses a segment reads, in order. -/
def Segment.reads (s : State) (g : Segment) : List Nat :=
  match g.source with
  | .aperture v rs => s.accesses v rs
  | _ => []

/-- The first `n` accesses of a segment are moved: the n-th block read is written to the n-th block of the destination (R96; notes/assumptions/34.md). -/
def moveAccesses (g : Segment) (n : Nat) (s : State) : State :=
  ((g.writes s).take n).zipIdx.foldl (fun t ai => t.writeBytes ai.1 (g.source.access s ai.2)) s

/-- A whole segment is moved. -/
def moveSegment (g : Segment) (s : State) : State := moveAccesses g (g.writes s).length s

/-- The segment in progress of a unit (R99). -/
def MoverUnit.current (u : MoverUnit) : Segment := if u.second then u.seg2 else u.seg1

/-- The segment in progress is the last to be performed (R99). -/
def MoverUnit.onLast (u : MoverUnit) : Bool := u.second || decide (u.seg2.blocks = 0)

/-- The SHIP unit of a batch (Table 5-2). -/
def shipUnit (v : Vol) (b : Batch) : MoverUnit :=
  ⟨.ship, 0, ⟨.aperture v b.runs, .link, runsLen b.runs⟩, .nothing, false, b.seq, 0, 0, false⟩

/-- The payload bytes of a SHIP unit (R100). -/
def MoverUnit.shipBytes (s : State) (u : MoverUnit) : Nat := 4096 * (u.seg1.reads s).length

end Sys2Proof.Machine
end

