-- ==== Sys2Proof/Machine/Send.lean ====
section
/-! DEFINITION. The Duplication Sender's operations (chapter 6): the end of a run, offers, go-back, receipts, the delta scan and its batches. -/

namespace Sys2Proof.Machine

/-! ### The end of a run (R130) -/

/-- The byte of a run's detail (Table 11-8). A peer's reason wider than the byte has no stated place: its byte is a free value (notes/assumptions/11.md). -/
def detailByte (n detail : Nat) : Nat := if detail < 256 then detail else (Config.freeByte n 0).toNat

/-- The completion answer of a run (R130, Table 11-8); `n` names the free value of an unstated detail. -/
def runAnswer (n : Nat) (x : OutRun) (e : RunEnd) : Answer :=
  { tag := x.tag
    kind := 0x40
    status := if e.reason = outboundDone then Status.done.code else Status.failed.code
    a := e.reason + 256 * detailByte n e.detail + 65536 * saturate 16 x.batchResends
    b := saturate 32 x.counts.batches + 4294967296 * saturate 32 x.counts.entries
    c := saturate 40 x.counts.kib + 1099511627776 * saturate 24 x.counts.deletions }

/-- The active place becomes empty, and the queue is to be looked at (R110, R114). -/
def runHandedOn (s : State) : State := s.setDs { s.ds with active := none, lookDue := true }

/-- A create of the sender that waits on the gate is withdrawn (R51). -/
def withdrawSender (v : Vol) (s : State) : State :=
  let x := s.snapVol v
  s.setSnapVol v { x with gate := x.gate.filter fun g => match g with | .sender _ => false | .host _ _ _ => true }

/-- The SHIP unit that holds the engine has its remaining pieces and its outcome discarded (R127, R130, R168). -/
def discardShip (s : State) : State :=
  match s.dm.engine with
  | some u => if u.cls = .ship then s.setDm { s.dm with engine := some { u with discard := true } } else s
  | none => s

/-- Everything of the active run but its record is emptied: scanner, batches, timers, frames, and the SHIP request (R130, R168). -/
def clearSender (s : State) : State :=
  let s1 := s.setDs { s.ds with
    scanning := none, rest := none, assembly := .empty, closed := none, holding := none, outstanding := [], busyWait := false, handover := [] }
  discardShip (withdraw .ship 0 (s1.setLc { s1.lc with slot := none }))

/-- The effects of a run's end other than its answer (R130): holds, the ABORT when `abort` asks for one, and the emptying. -/
def endRunCore (reason detail : Nat) (abort : Bool) (s : State) : State :=
  match s.ds.active with
  | none => s
  | some x =>
    let s1 :=
      if reason = outboundDone then
        releaseTarget x.volume (match x.target with | some t => moveBase x.volume t s | none => s)
      else
        let s2 := releaseTarget x.volume s
        if abort then handRunControl .abort 0 reason [] s2 else s2
    (withdrawSender x.volume (clearSender s1)).setActive { x with state := .ended, exchange := none, ending := some ⟨reason, detail⟩ }

/-- The completion answer of an ended run is handed to its ring; when it is handed on, the active place becomes empty (R130). -/
def finishRun (s : State) : State :=
  match s.ds.active with
  | none => s
  | some x =>
    match x.ending with
    | none => s
    | some e =>
      let s1 := if e.detail < 256 then s else s.setFree (s.free + 1)
      let d := answerDue x.ring (runAnswer s.free x e) .runEnd s1
      if d.2 then runHandedOn d.1 else d.1

/-- An outbound run that is not already ENDED ends (R130, R131). -/
def endRun (reason detail : Nat) (abort : Bool) (s : State) : State :=
  match s.ds.active with
  | none => s
  | some x => if x.state = .ended then s else finishRun (endRunCore reason detail abort s)

/-! ### The offer (R115 to R117) -/

/-- The base epoch of a run as an OFFER is sent (R115, R117; notes/assumptions/28.md). -/
def State.runBase (s : State) (x : OutRun) : Nat := if x.full && !x.adopted then 0 else s.baseEpoch x.volume

/-- The OFFER of the active run is sent (R115). -/
def sendOffer (s : State) : State :=
  match s.ds.active with
  | none => s
  | some x =>
    let y : OutRun := { x with
      base := s.runBase x
      exchange := none
      peer := s.peerFor x }
    handRunControl .offer 0 0
      (le 4 (s.vol x.volume).defn.blockKiB ++ le 4 y.base ++ le 4 (y.target.getD 0)) (s.setActive y)

/-- The target epoch of the active run becomes known, and its OFFER is sent (R114). -/
def runTarget (epoch : Nat) (s : State) : State :=
  match s.ds.active with
  | some x => sendOffer (s.setActive { x with target := some epoch })
  | none => s

/-- Checks 1 to 6 of a snapshot create (R48, R51). -/
def createRefusal (s : State) (v : Vol) (label : Nat) : Option Status :=
  firstFailure
    [ (decide ((s.vol v).state = .undefined), .noVolume),
      (decide ((s.vol v).defn.role = .replica), .volumeRole),
      (decide ((s.vol v).state = .defined), .volumeState),
      (s.labelTaken v label, .labelTaken),
      (s.snapListFull v, .snapshotListFull),
      (decide (Config.max32 - 1 < (s.vol v).epoch.getD 0 + (s.snapVol v).gate.length), .epochExhausted) ]

/-- A create joins the gate's waiting list and takes a reserved place (R50). -/
def joinGate (v : Vol) (g : GateCreate) (s : State) : State :=
  s.setSnapVol v { s.snapVol v with gate := (s.snapVol v).gate ++ [g] }

/-- The active run of a dequeued entry, before its target is known (R114). -/
def QueuedRun.start (x : QueuedRun) (runId base : Nat) : OutRun :=
  { runId := runId, volume := x.volume, ring := x.ring, tag := x.tag, label := x.label, newSnapshot := x.newSnapshot, full := x.full
    base := base, target := none, peer := none, state := .offering, adopted := false, resends := 0, exchange := none, offerSent := false
    digest := 0, nextSeq := 1, counts := ⟨0, 0, 0, 0⟩, batchResends := 0, ending := none }

/-- The sender asks for its snapshot (R51, R114): refused, made at once, or waiting on the gate. -/
def askSnapshot (v : Vol) (label : Nat) (s : State) : State :=
  match createRefusal s v label with
  | some st => endRun outboundNoTarget st.code true s
  | none =>
    if s.anyFilling v then joinGate v (.sender label) s
    else runTarget ((s.vol v).epoch.getD 0) (makeSnapshot v label true s)

/-- The front run of the queue starts (R114). -/
def startRun (x : QueuedRun) (rest : List QueuedRun) (s : State) : State :=
  let y := x.start s.ds.nextRunId (if x.full then 0 else s.baseEpoch x.volume)
  let s1 := s.setDs { s.ds with
    queue := rest
    active := some y
    nextRunId := if s.ds.nextRunId = Config.max32 then 1 else s.ds.nextRunId + 1 }
  if x.newSnapshot then askSnapshot x.volume x.label s1
  else
    match s1.snapLabelled x.volume x.label with
    | some t => runTarget t.epoch s1
    | none => s1

/-- The conditions under which the front of the queue starts (R114). -/
def State.runMayStart (s : State) : Bool := s.ds.active.isNone && s.lc.up && !s.strap && !s.faulted .ship

/-! ### Going back (R127, R128) -/

/-- The batches from seq `k` onward that are AWAITING, and a SENDING one, become PENDING_RESEND with their timers stopped. -/
def pulledBack (k : Nat) (b : Batch) : Batch :=
  if b.stage = .sending ∨ (k ≤ b.seq ∧ b.stage = .awaiting) then { b with stage := .pendingResend, timer := none } else b

/-- Some batch of the outstanding list is SENDING. -/
def Ds.sendingAny (d : Ds) : Bool := d.outstanding.any fun b => decide (b.stage = .sending)

/-- The sends of batch `k` and its followers are called back (R127, R128): stages, timers, frames not yet on the wire, the send in progress, and the SHIP
request that waits. -/
def pullBack (k : Nat) (s : State) : State :=
  let s1 := if s.ds.sendingAny then discardShip s else s
  let s2 := s1.setDs { s1.ds with outstanding := s1.ds.outstanding.map (pulledBack k) }
  withdraw .ship 0 (dropBatchFrames (fun q => decide (k ≤ q)) s2)

/-- The batch of the outstanding list with a seq. -/
def Ds.batch (d : Ds) (seq : Nat) : Option Batch := d.outstanding.find? fun b => decide (b.seq = seq)

/-- A go-back from the batch of seq `k` (R127). -/
def goBack (k : Nat) (s : State) : State :=
  match s.ds.batch k with
  | none => s
  | some b =>
    if 3 ≤ b.resends then endRun outboundRetryLimit 0 true s
    else
      let s1 := pullBack k s
      s1.setDs { s1.ds with
        outstanding := updateBatch k (fun b => { b with resends := b.resends + 1 }) s1.ds.outstanding
        busyWait := false }

/-- A BUSY wait from the batch of seq `k` (R128). -/
def busyBack (k : Nat) (s : State) : State :=
  let s1 := pullBack k s
  s1.setDs { s1.ds with busyWait := true }

/-! ### Receipts (R125, R126) -/

/-- The digest that a batch leaving by LANDED adds to the run digest: that of its latest completed send (R125). Before any send has completed it is absent (Table
6-3), and its value is free (notes/assumptions/5.md). -/
def landedDigest (n : Nat) (b : Batch) : Digest := b.digest.getD (Config.freeDigest n)

/-- The run after the batches `bs` have landed (R125). -/
def runLanded (n : Nat) (bs : List Batch) (x : OutRun) : OutRun :=
  { x with
    digest := bs.foldl (fun d b => digestAdd d (landedDigest n b)) x.digest
    counts := ⟨x.counts.batches + bs.length, x.counts.kib + (bs.map Batch.kib).sum, x.counts.entries + (bs.map fun b => b.payload.length).sum,
      x.counts.deletions + (bs.map fun b => b.deletions.length).sum⟩ }

/-- The SHIP request that waits is for a batch of these seqs. -/
def State.shipWaitsFor (s : State) (p : Nat → Bool) : Bool := s.dm.waiting.any fun u => decide (u.cls = .ship) && p u.seq

/-- A LANDED receipt of the seq of an outstanding batch: the batches up to it leave the list (R125). The rest of the send of one of them that is SENDING is abandoned as R127 gives, whether it is
a re-send, as R125 says, or the batch's first send, of which R125 says nothing (notes/assumptions/47.md). -/
def landed (k : Nat) (s : State) : State :=
  match s.ds.active with
  | none => s
  | some x =>
    let bs := s.ds.outstanding.filter fun b => decide (b.seq ≤ k)
    let stay := s.ds.outstanding.filter fun b => decide (k < b.seq)
    let s1 :=
      match bs.find? (fun b => decide (b.stage = .sending)) with
      | some b => dropBatchFrames (fun q => decide (q = b.seq)) (discardShip s)
      | none => s
    let s2 := if s1.shipWaitsFor (fun q => bs.any fun b => decide (b.seq = q)) then withdraw .ship 0 s1 else s1
    let s3 := s2.setDs { s2.ds with outstanding := stay, active := some (runLanded s.free bs x) }
    let s4 := if bs.all fun b => b.digest.isSome then s3 else s3.setFree (s.free + 1)
    if stay.isEmpty ∧ x.state = .draining then startClosing s4 else s4

/-- A receipt timer starts afresh (R126, R171). -/
def restartTimer (seq : Nat) (s : State) : State :=
  s.setDs { s.ds with outstanding := updateBatch seq (fun b => { b with timer := some s.ds.settings.receiptTimeout }) s.ds.outstanding }

/-- A receipt for the active run in SHIPPING or DRAINING (R125, R126). QUEUED starts the timer of an AWAITING batch whose BATCH_END has not yet left, whose timer does not run yet
(notes/assumptions/40.md). -/
def takeReceipt (k : ReceiptKind) (seq : Nat) (s : State) : State :=
  match s.ds.batch seq with
  | none => s
  | some b =>
    match k with
    | .landed => landed seq s
    | .skipped => s
    | .queued => if b.stage = .awaiting then restartTimer seq s else s
    | .digestBad => if b.stage = .awaiting then goBack seq s else s
    | .busy => if b.stage = .awaiting then busyBack seq s else s
    | .noSpace => if b.stage = .awaiting then endRun outboundPeerFull 0 true s else s

/-! ### The delta scan and its batches (R118, R120) -/

/-- A record is a payload entry of base `b` and target `t` (R118). -/
def Extent.isPayload (e : Extent) (b t : Nat) : Bool :=
  decide (b < e.birth) && decide (e.birth ≤ t) && (match e.death with | none => true | some d => decide (t < d))

/-- A record is a deletion entry of base `b` and target `t` (R118). -/
def Extent.isDeletion (e : Extent) (b t : Nat) : Bool :=
  decide (e.birth ≤ b) && (match e.death with | none => false | some d => decide (b < d) && decide (d ≤ t))

/-- The payload entry of a record (R118). -/
def Extent.entry (e : Extent) : PayloadEntry := ⟨e.first, e.len, e.object, e.offset, e.owner, e.group, e.birth⟩

/-- The assembly batch closes: it takes the next seq, and moves to the holding slot or waits closed (R120). -/
def closeAssembly (s : State) : State :=
  match s.ds.active with
  | none => s
  | some x =>
    let b := { s.ds.assembly with seq := x.nextSeq, stage := BatchStage.held }
    let d := { s.ds with assembly := Batch.empty, active := some { x with nextSeq := x.nextSeq + 1 } }
    s.setDs (if s.ds.holding.isNone then { d with holding := some b } else { d with closed := some b })

/-- The assembly batch is full (R120). -/
def Batch.isFull (b : Batch) : Bool :=
  decide (Config.maxPayloadEntries ≤ b.payload.length) || decide (Config.maxDeletions ≤ b.deletions.length) ||
    decide (Config.maxBatchKiB ≤ b.kib)

/-- The assembly batch becomes `b`, and closes when it is full. -/
def setAssembly (b : Batch) (s : State) : State :=
  let s1 := s.setDs { s.ds with assembly := b }
  if b.isFull then closeAssembly s1 else s1

/-- A deletion entry is added (R120). -/
def addDeletion (r : Run) (s : State) : State :=
  setAssembly { s.ds.assembly with deletions := s.ds.assembly.deletions ++ [r] } s

/-- A payload entry with `kib` KiB is added to a batch. -/
def Batch.withEntry (b : Batch) (e : PayloadEntry) (kib : Nat) : Batch := { b with payload := b.payload ++ [e], kib := b.kib + kib }

/-- A payload entry is added whole, or sliced so that the batch reaches exactly 8,192 KiB and the rest stays with the scanner (R120). -/
def addPayload (v : Vol) (e : PayloadEntry) (s : State) : State :=
  let b := s.ds.assembly
  let q := s.chargeOf v e.len
  if b.kib + q ≤ Config.maxBatchKiB then setAssembly (b.withEntry e q) (s.setDs { s.ds with rest := none })
  else
    let n := (Config.maxBatchKiB - b.kib) / (s.vol v).defn.blockKiB
    setAssembly (b.withEntry { e with len := n } (s.chargeOf v n))
      (s.setDs { s.ds with rest := some { e with first := e.first + n, len := e.len - n, offset := e.offset + n } })

/-- The scan ends: the batch closes if it holds any entry, and the run may leave SHIPPING (R120, R129). -/
def endScan (s : State) : State :=
  let s1 := s.setDs { s.ds with scanning := none }
  checkDrained (if s.ds.assembly.payload.isEmpty ∧ s.ds.assembly.deletions.isEmpty then s1 else closeAssembly s1)

/-- One step of the delta scan: the rest of a sliced entry, or the next record of the walk (R4, R118, R120). It waits while a closed batch waits (notes/assumptions/14.md). -/
def scanStep (x : OutRun) (cursor : Nat) (s : State) : State :=
  match s.ds.rest with
  | some e => addPayload x.volume e s
  | none =>
    match s.nextRecord x.volume cursor with
    | none => endScan s
    | some e =>
      let s1 := s.setDs { s.ds with scanning := some e.stop }
      if e.isPayload x.base (x.target.getD 0) then addPayload x.volume e.entry s1
      else if e.isDeletion x.base (x.target.getD 0) then addDeletion e.run s1
      else s1

/-! ### Starting transmission (R121, R127) -/

/-- The sender has a SHIP unit in the engine or a request that waits: it asks for one unit at a time (R95; notes/assumptions/29.md). -/
def State.shipBusy (s : State) : Bool := s.waitsFor .ship 0 || s.holdsEngine .ship 0

/-- The sender asks for the SHIP unit of a batch; a request of a faulted class ends at once with FAULT (R104). -/
def askShip (v : Vol) (b : Batch) (s : State) : State :=
  match askUnit (shipUnit v b) s with
  | some t => t
  | none => endRun outboundMoverFault 0 true s

/-- The held batch may enter transmission (R121; notes/assumptions/29.md). -/
def State.heldMaySend (s : State) (b : Batch) : Bool :=
  decide (s.ds.outstanding.length < Config.maxOutstanding) &&
    !(s.ds.outstanding.any fun b => decide (b.stage = .sending) || decide (b.stage = .pendingResend)) &&
    !s.ds.busyWait && decide (b.headCredits ≤ s.ds.bucket) && !s.shipBusy

/-- The lowest PENDING_RESEND batch. -/
def Ds.nextResend (d : Ds) : Option Batch := d.outstanding.find? fun b => decide (b.stage = .pendingResend)

/-- A re-send may begin (R127, R128; notes/assumptions/29.md). -/
def State.mayResend (s : State) (b : Batch) : Bool :=
  !s.ds.sendingAny && !s.ds.busyWait && decide (b.headCredits ≤ s.ds.bucket) && !s.shipBusy

/-! ### Ending queued runs (R132, R134) -/

/-- The completion answer of a queued run that is cancelled: FAILED, CANCELLED, all counts 0 (R132). -/
def cancelledAnswer (x : QueuedRun) : Answer := ⟨x.tag, 0x40, Status.failed.code, outboundCancelled, 0, 0⟩

/-- The named target of a queued run loses REPL_TARGET (R132). -/
def releaseQueued (x : QueuedRun) (s : State) : State := if x.newSnapshot then s else releaseTarget x.volume s

/-- A queued run leaves the queue. -/
def unqueue (v : Vol) (s : State) : State :=
  s.setDs { s.ds with queue := s.ds.queue.filter fun x => decide (x.volume ≠ v) }

end Sys2Proof.Machine
end

