-- ==== Sys2Proof/Machine/Snapshots.lean ====
section
/-! DEFINITION. The snapshot gate, the snapshot requests and the trim scan (chapter 3). -/

namespace Sys2Proof.Machine

/-! ### The gate (R49 to R51) -/

/-- A create that waited on the gate completes (R49, R51): a host create is answered DONE, the sender's gives its run the target. -/
def completeCreate (v : Vol) (g : GateCreate) (s : State) : State :=
  match g with
  | .host r tag label =>
    answer r ⟨tag, 0x20, Status.done.code, 0, ((s.vol v).epoch.getD 0), s.qu.clock⟩ (makeSnapshot v label false s)
  | .sender label => runTarget (((s.vol v).epoch.getD 0)) (makeSnapshot v label true s)

/-- A FILLING flag of the volume has cleared: when none is left, every waiting create completes in order and the gate returns to OPEN (R50). -/
def gateLook (v : Vol) (s : State) : State :=
  if s.anyFilling v then s
  else
    (s.snapVol v).gate.foldl (fun t g => completeCreate v g t) (s.setSnapVol v { s.snapVol v with gate := [] })

/-- A host create waits on the gate (R48, check 7). -/
def SnapVol.hostWaits (x : SnapVol) : Bool := x.gate.any fun g => match g with | .host _ _ _ => true | .sender _ => false

/-- SNAPSHOT_CREATE (R48 to R50). -/
def reqSnapshotCreate (r : RingNo) (tag : Nat) (p : SnapshotParams) (s : State) : State :=
  let q := Request.snapshotCreate p
  let v := toVol p.volume
  gated r tag q (volumeOk p.volume) (fun s =>
    checked r tag q (createRefusal s v p.label) (fun s =>
      if (s.snapVol v).hostWaits then refuse r tag q .busy s
      else if s.anyFilling v then reply r tag q .accepted 0 0 0 (joinGate v (.host r tag p.label) s)
      else reply r tag q .ok 0 ((s.vol v).epoch.getD 0) s.qu.clock (makeSnapshot v p.label false s)) s) s

/-- SNAPSHOT_RETIRE (R55). -/
def reqSnapshotRetire (r : RingNo) (tag : Nat) (p : SnapshotParams) (s : State) : State :=
  let q := Request.snapshotRetire p
  let v := toVol p.volume
  gated r tag q (volumeOk p.volume) (fun s =>
    checked r tag q
      (firstFailure
        [ (decide ((s.vol v).state = .undefined), .noVolume),
          (decide ((s.vol v).state = .defined), .volumeState) ]) (fun s =>
      match s.activeLabelled v p.label with
      | none => refuse r tag q .noSnapshot s
      | some x =>
        if x.unheld then reply r tag q .accepted 0 x.epoch 0 (retireSnapshot v x.epoch (.host r tag) s)
        else refuse r tag q .snapshotHeld s) s) s

/-! ### The trim scan (R57 to R59) -/

/-- A record is a candidate of the trim scan of epoch `t` (R57). -/
def Extent.candidate (e : Extent) (t : Nat) : Bool :=
  match e.death with
  | some d => decide (e.birth ≤ t) && decide (t < d)
  | none => false

/-- Some ACTIVE snapshot still protects a HELD record (R57). -/
def State.stillProtected (s : State) (e : Extent) : Bool :=
  match e.death with
  | some d => protectedBy (s.snapVol e.volume).snaps e.birth d
  | none => true

/-- A HELD record of the volume has the snapshot of epoch `t` as the only one that spans it (R60). -/
def State.stranded (s : State) (v : Vol) (t : Nat) : Bool :=
  (s.records v).any fun e => e.candidate t && !(s.snapVol v).snaps.any fun z => decide (z.epoch ≠ t) && e.candidate z.epoch

/-- The front entry of a retire queue gains one record and its KiB (R57). -/
def creditEntry (kib : Nat) : List RetireEntry → List RetireEntry
  | [] => []
  | x :: xs => { x with records := x.records + 1, kib := x.kib + kib } :: xs

/-- A HELD record is removed by the trim scan, as one update (R57); `none` when the release list cannot take its run. -/
def trimRemove (e : Extent) (s : State) : Option State :=
  match releaseAppend e.volume e.run s with
  | none => none
  | some s1 =>
    let c := s1.chargeOf e.volume e.len
    let s2 := refundAccount (reserveIndex e.volume) c 1 (s1.removeExtent e.volume e.first)
    let x := s2.snapVol e.volume
    some (s2.setSnapVol e.volume { x with retire := creditEntry c x.retire })

/-- The trim scanner of a volume becomes `t`. -/
def State.setTrim (s : State) (v : Vol) (t : TrimState) : State := s.setSnapVol v { s.snapVol v with trim := t }

/-- The end of a trim entry is reported: DONE to its ring, or SNAPSHOT_TRIMMED (R58, R71). -/
def reportTrim (v : Vol) (x : RetireEntry) (s : State) : State :=
  match x.origin with
  | .host r tag => answer r ⟨tag, 0x21, Status.done.code, saturate 32 x.records, x.epoch, x.kib⟩ s
  | .hostSilent => raise .snapshotTrimmed v.val x.epoch s
  | .auto => raise .snapshotTrimmed v.val x.epoch s

/-- The trim scan of the front entry ends (R58): its snapshot and entry leave, the end is reported, the next scan starts, and after an AUTO entry auto-trim takes
its step. -/
def trimEnd (v : Vol) (s : State) : State :=
  let y := s.snapVol v
  match y.retire with
  | [] => s.setTrim v .idle
  | x :: rest =>
    let s1 := reportTrim v x (s.setSnapVol v { y with
      snaps := y.snaps.filter fun z => decide (z.epoch ≠ x.epoch)
      retire := rest
      trim := if rest.isEmpty then .idle else .scanning 0 })
    if x.origin = .auto then autoTrimStep v s1 else s1

/-- The trim scan visits a record (R57, R59). -/
def trimVisit (v : Vol) (t : Nat) (e : Extent) (s : State) : State :=
  if e.candidate t && !s.stillProtected e then
    match trimRemove e s with
    | some s1 => s1.setTrim v (.scanning e.stop)
    | none => producerWait v .trim (s.setTrim v (.waiting e.first))
  else s.setTrim v (.scanning e.stop)

/-- A waiting trim scan retries its append (R59, R66); `none` when the list is full again. -/
def trimRetry (v : Vol) (s : State) : Option State :=
  match (s.snapVol v).trim with
  | .waiting first =>
    match s.recordAt v first with
    | some e =>
      match trimRemove e s with
      | some s1 => some (s1.setTrim v (.scanning e.stop))
      | none => none
    | none => some (s.setTrim v (.scanning first))
  | _ => some s

/-- TRIM_SCAN_STEP: the scan visits its next record, or ends (R57, R58; notes/assumptions/4.md, notes/assumptions/14.md). A scan that would strand a HELD record, one loaded behind its cursor,
walks again instead, so that R60's law holds (notes/assumptions/41.md). -/
def execTrimScanStep (volume : Vol) (s : State) : Host.Outcome State Fault Refusal :=
  match (s.snapVol volume).trim, (s.snapVol volume).retire with
  | .scanning cursor, x :: _ =>
    match s.nextRecord volume cursor with
    | some e => .next (trimVisit volume x.epoch e s)
    | none => .next (if s.stranded volume x.epoch then s.setTrim volume (.scanning 0) else trimEnd volume s)
  | _, _ => .next s

/-- SNAPSHOT_CREATE. -/
def execSnapshotCreate (ring : RingNo) (tag : Nat) (p : SnapshotParams) (s : State) : Host.Outcome State Fault Refusal :=
  .next (reqSnapshotCreate ring tag p s)
/-- SNAPSHOT_RETIRE. -/
def execSnapshotRetire (ring : RingNo) (tag : Nat) (p : SnapshotParams) (s : State) : Host.Outcome State Fault Refusal :=
  .next (reqSnapshotRetire ring tag p s)

end Sys2Proof.Machine
end

