-- ==== Sys2Proof/Machine/Receive.lean ====
section
/-! DEFINITION. The Duplication Receiver's operations (chapter 7): contexts and replies, staging, landing, abort, the commit and rollback scans, and
REPLICA_RESET. -/

namespace Sys2Proof.Machine

/-! ### Contexts and the frames they send (R137, R162) -/

/-- An inbound context changes. -/
def State.updateIn (s : State) (c : Ctx) (f : InCtx → InCtx) : State := s.setInCtx c (f (s.inCtx c))

/-- The context of a volume, when it has one that is not FREE (R135). -/
def State.ctxOf (s : State) (v : Nat) : Option Ctx :=
  ctxList.find? fun c => decide ((s.inCtx c).state ≠ .free) && decide ((s.inCtx c).volume.val = v)

/-- A frame of an inbound context (R162, R167). -/
def InCtx.frame (x : InCtx) (kind : FrameKind) (seq arg : Nat) : OutFrame :=
  ⟨x.peerAddr, kind, .backward, x.runId, x.sendVol, x.volume.val, seq, arg, []⟩

/-- A frame that answers an arrived frame which matches no context: its fields are copied (R162, R167). -/
def InFrame.replyFrame (p : InFrame) (kind : FrameKind) (arg : Nat) (payload : List Byte) : OutFrame :=
  ⟨p.src, kind, .backward, p.header.runId, p.header.sendVol, p.header.recvVol, p.header.seq, arg, payload⟩

/-- A RECEIPT of a context is sent. -/
def sendReceipt (c : Ctx) (seq : Nat) (k : ReceiptKind) (s : State) : State := handControl ((s.inCtx c).frame .receipt seq k.code) s

/-- The context that a frame from the sending side is matched to (R137; notes/assumptions/18.md). -/
def State.matched (s : State) (p : InFrame) : Option Ctx :=
  match s.ctxOf p.header.recvVol with
  | some c => if (s.inCtx c).runId = p.header.runId ∧ (s.inCtx c).peerId = p.header.peerId then some c else none
  | none => none

/-- The idle timer starts afresh (R137). -/
def touch (c : Ctx) (s : State) : State := s.updateIn c fun x => { x with idle := some s.ds.settings.idleTimeout }

/-- A slot of a context becomes `y`. -/
def InCtx.setSlot (x : InCtx) (i : Fin 2) (y : Slot) : InCtx := { x with slots := x.slots.set i y }

/-- The lower-numbered slot of a context that passes a test. -/
def InCtx.slotThat (x : InCtx) (p : Slot → Bool) : Option (Fin 2) :=
  if p x.slots[(0 : Fin 2)] then some 0 else if p x.slots[(1 : Fin 2)] then some 1 else none

/-- The take mark of a volume's pool becomes `n` (R144). -/
def State.setTakeMark (s : State) (v : Vol) (n : Nat) : State := s.setReplVol v { s.replVol v with takeMark := n }

/-! ### Abort (R149, R152) -/

/-- An OPEN context aborts (R152): its slots empty, its reply and timer go, its waiting LAND request is withdrawn, the ABORT is sent when `send` asks for one, and
the rollback scan begins. The take mark returns to 0 unless the context's unit still holds the engine (R149). The slots empty at once also while that unit runs, where R102 keeps its slot LANDING
with its contents until the unit ends (notes/assumptions/50.md). -/
def abortCtx (reason : Nat) (send : Bool) (c : Ctx) (s : State) : State :=
  let x := s.inCtx c
  if x.state = .open then
    let s1 := withdraw .land c s
    let s2 := if s.holdsEngine .land c then s1 else s1.setTakeMark x.volume 0
    let s3 := s2.setInCtx c { x with
      state := .aborting, reason := some reason, slots := Vector.replicate 2 .clear, reply := none, idle := none, cursor := 0, walkDone := false }
    if send then handControl (x.frame .abort 0 reason) s3 else s3
  else s

/-- Every OPEN context aborts, in number order. -/
def abortAll (reason : Nat) (send : Bool) (s : State) : State := ctxList.foldl (fun t c => abortCtx reason send c t) s

/-- The rollback ends (R153): INBOUND_ABORTED is raised and the context becomes FREE. -/
def rollbackEnd (c : Ctx) (s : State) : State :=
  let x := s.inCtx c
  (raise .inboundAborted x.volume.val (x.reason.getD 0) s).setInCtx c .free

/-- The LAND unit of an aborted run has gone from the engine: the take mark returns to 0, and a rollback whose walk has ended is over (R149, R153; notes/assumptions/14.md). -/
def landGone (c : Ctx) (s : State) : State :=
  let x := s.inCtx c
  let s1 := s.setTakeMark x.volume 0
  if x.state = .aborting ∧ x.walkDone = true then rollbackEnd c s1 else s1

/-! ### Offers (R138, R139) -/

/-- The epoch of the snapshot of a volume that carries REPL_BASE agrees with an offer's base, or the replica is empty for base 0 (R138, check 6). -/
def State.offerBaseFault (s : State) (v : Vol) (base : Nat) : Option Nat :=
  if base = 0 then (if s.volumeEmpty v then none else some declineNotEmpty)
  else
    match s.baseSnap v with
    | some x => if x.epoch = base then none else some declineBaseMismatch
    | none => some declineBaseMismatch

/-- The first check of Table 7-3 that an offer fails. -/
def offerFault (s : State) (v : Vol) (blockKiB base target : Nat) : Option Nat :=
  if ¬((s.vol v).defn.role = .replica ∧ (s.vol v).state = .online) then some declineNotReplica
  else if s.strap then some declineService
  else if s.faulted .land then some declineFaultHeld
  else if (s.ctxOf v.val).isSome ∨ (s.replVol v).reset.isSome = true ∨ ctxList.all (fun c => decide ((s.inCtx c).state ≠ .free)) = true then
    some declineBusy
  else if blockKiB ≠ (s.vol v).defn.blockKiB then some declineBlockSize
  else
    match s.offerBaseFault v base with
    | some r => some r
    | none =>
      if base < target ∧ target < Config.max32 ∧ (s.volumeEmpty v = true ∨ (s.vol v).epoch.getD 0 ≤ target) then none
      else some declineStaleEpoch

/-- An offer is accepted: the lowest-numbered FREE context opens (R139). -/
def openContext (p : InFrame) (v : Vol) (base target : Nat) (s : State) : State :=
  match ctxList.find? (fun c => decide ((s.inCtx c).state = .free)) with
  | none => s
  | some c =>
    let x : InCtx := { InCtx.free with
      state := .open, volume := v, runId := p.header.runId, peer := p.entry, peerId := p.header.peerId, peerAddr := p.src
      sendVol := p.header.sendVol, base := base, target := target, expected := 1, idle := some s.ds.settings.idleTimeout }
    handControl (x.frame .accept 0 0) (s.setInCtx c x)

/-- The OPEN context of the volume that an offer repeats (R139; notes/assumptions/18.md). -/
def State.repeatedOffer (s : State) (p : InFrame) : Option Ctx :=
  match s.ctxOf p.header.recvVol with
  | some c =>
    let x := s.inCtx c
    if x.state = .open ∧ x.runId = p.header.runId ∧ x.peerId = p.header.peerId ∧ x.peerAddr = p.src then some c else none
  | none => none

/-- An OFFER from the link (R138, R139). -/
def takeOffer (p : InFrame) (s : State) : State :=
  if 15 < p.header.recvVol then s
  else
    match s.repeatedOffer p with
    | some c => handControl ((s.inCtx c).frame .accept 0 0) (touch c s)
    | none =>
      let v := toVol p.header.recvVol
      let base := field p.payload 4 4
      let target := field p.payload 8 4
      match offerFault s v (field p.payload 0 4) base target with
      | some r => handControl (p.replyFrame .decline r (le 4 (if r = declineBaseMismatch then s.baseEpoch v else 0))) s
      | none => openContext p v base target s

/-! ### Staging (R140 to R143) -/

/-- The bytes that payload entries call for (Table 7-4). -/
def payloadTotal (s : State) (v : Vol) (es : List PayloadEntry) : Nat := (es.map PayloadEntry.len).sum * s.blockBytes v

/-- A head that would be stored has a good form (R141; notes/assumptions/31.md). -/
def headOk (s : State) (x : InCtx) (es : List PayloadEntry) (ds : List Run) : Bool :=
  decide (es.length ≤ Config.maxPayloadEntries) && decide (ds.length ≤ Config.maxDeletions) &&
    es.all (fun e => decide (1 ≤ e.len) && decide (e.len ≤ Config.maxExtentLen)) &&
    ds.all (fun d => decide (1 ≤ d.len) && decide (d.len ≤ Config.maxExtentLen)) &&
    decide (payloadTotal s x.volume es ≤ Config.maxBatchKiB * 1024) &&
    es.all (fun e => decide (e.object ≠ 0) && decide (e.offset + e.len ≤ Config.maxBlocks)) &&
    es.all (fun e => decide (x.base < e.birth) && decide (e.birth ≤ x.target))

/-- A slot starts with a head's entries (R140). -/
def fillingSlot (s : State) (v : Vol) (seq : Nat) (es : List PayloadEntry) (ds : List Run) : Slot :=
  { Slot.clear with state := .filling, seq := seq, entries := es, deletions := ds, total := payloadTotal s v es }

/-- A head is stored in a slot, or aborts the run BAD_BATCH (R140, R141). -/
def storeHead (c : Ctx) (i : Fin 2) (p : InFrame) (s : State) : State :=
  let x := s.inCtx c
  let h := readHead p.header.arg p.payload
  if headOk s x h.1 h.2 then s.setInCtx c (x.setSlot i (fillingSlot s x.volume p.header.seq h.1 h.2))
  else abortCtx inboundBadBatch true c s

/-- The reply to a duplicate: QUEUED while a slot holds the seq READY or LANDING, else LANDED (R140). -/
def InCtx.duplicateKind (x : InCtx) (seq : Nat) : ReceiptKind :=
  if (x.slotThat fun y => decide (y.seq = seq) && (decide (y.state = .ready) || decide (y.state = .landing))).isSome then .queued else .landed

/-- A slot is FILLING with a seq. -/
def InCtx.fillingWith (x : InCtx) (seq : Nat) : Option (Fin 2) :=
  x.slotThat fun y => decide (y.state = .filling) && decide (y.seq = seq)

/-- A BATCH_HEAD taken by an OPEN context (R140). -/
def takeHead (c : Ctx) (p : InFrame) (s : State) : State :=
  let x := s.inCtx c
  let seq := p.header.seq
  if seq = 0 then s
  else if seq = x.expected then
    match x.fillingWith seq with
    | some i => storeHead c i p s
    | none =>
      match x.slotThat fun y => decide (y.state = .empty) with
      | some i => storeHead c i p s
      | none => s.setInCtx c { x with reply := some (seq, .busy) }
  else if seq < x.expected then
    (sendReceipt c seq (x.duplicateKind seq) s).updateIn c fun x => { x with reply := some (seq, .duplicate) }
  else sendReceipt c seq .skipped s

/-- A slot takes the bytes of a BATCH_DATA that fits, or sets its gap flag (R142). -/
def Slot.take (y : Slot) (offset : Nat) (bs : List Byte) : Slot :=
  if offset = y.payload.length ∧ y.payload.length + bs.length ≤ y.total then
    { y with payload := y.payload ++ bs, arrival := digestFeed y.arrival bs }
  else { y with gap := true }

/-- A BATCH_DATA taken by an OPEN context (R142). -/
def takeData (c : Ctx) (p : InFrame) (s : State) : State :=
  let x := s.inCtx c
  match x.fillingWith p.header.seq with
  | some i => s.setInCtx c (x.setSlot i (x.slots[i].take p.header.arg p.payload))
  | none => s

/-! ### Landing (R146 to R148) -/

/-- One payload entry of `n` blocks takes them from the untaken part of the pool (R146): the blocks taken, and what is left. -/
def takeBlocks (n : Nat) : List Run → Option (List Run × List Run)
  | [] => none
  | r :: rest =>
    if n < r.len then some ([⟨r.first, n⟩], ⟨r.first + n, r.len - n⟩ :: rest)
    else if n = r.len then some ([r], rest)
    else
      match rest with
      | [] => none
      | t :: more =>
        if t.len < n - r.len then none
        else if t.len = n - r.len then some ([r, t], more)
        else some ([r, ⟨t.first, n - r.len⟩], ⟨t.first + (n - r.len), t.len - (n - r.len)⟩ :: more)

/-- The payload entries of a batch take their blocks in entry order (R146). -/
def takeAll : List PayloadEntry → List Run → Option (List (List Run))
  | [], _ => some []
  | e :: es, pool =>
    match takeBlocks e.len pool with
    | none => none
    | some (rs, left) => (takeAll es left).map (rs :: ·)

/-- The first `n` blocks leave a pool (R147). -/
def poolDrop : (n : Nat) → List Run → List Run
  | 0, pool => pool
  | _, [] => []
  | n + 1, r :: rest => if n + 1 < r.len then ⟨r.first + (n + 1), r.len - (n + 1)⟩ :: rest else poolDrop (n + 1 - r.len) rest

/-- The blocks of a batch's payload. -/
def Slot.blocks (y : Slot) : Nat := (y.entries.map PayloadEntry.len).sum

/-- The records that one payload entry becomes on its blocks (R147). -/
def landedRecords (v : Vol) (runId : Nat) (e : PayloadEntry) : (moved : Nat) → List Run → List Extent
  | _, [] => []
  | k, r :: rs =>
    ⟨v, r.first, r.len, e.object, e.offset + k, e.owner, e.group, e.birth, none, false, some ⟨runId, .provBirth⟩, some (e.first + k)⟩ ::
      landedRecords v runId e (k + r.len) rs

/-- The records that a batch becomes (R147). -/
def Slot.records (y : Slot) (v : Vol) (runId : Nat) : List Extent :=
  (y.entries.zip y.taken).flatMap fun et => landedRecords v runId et.1 0 et.2

/-- The part of a record from its `k`-th block on, `n` blocks long (R148). -/
def Extent.part (e : Extent) (k n : Nat) : Extent :=
  { e with first := e.first + k, len := n, offset := e.offset + k, source := e.source.map (· + k) }

/-- A deletion's run reaches a record (R148). -/
def deletionReaches (v : Vol) (d : Run) (e : Extent) : Bool :=
  decide (e.volume = v) && e.live && e.mark.isNone && (match e.source with | some b => (Run.mk b e.len).overlaps d | none => false)

/-- The parts that a deletion's run splits a record into, the part within the run marked PROV_DEATH (R148). -/
def deletionParts (runId : Nat) (d : Run) (e : Extent) : List Extent :=
  let b := e.source.getD 0
  let lo := d.first - b
  let hi := min e.len (d.stop - b)
  (if 0 < lo then [e.part 0 lo] else []) ++ [{ e.part lo (hi - lo) with mark := some ⟨runId, .provDeath⟩ }] ++
    (if hi < e.len then [e.part hi (e.len - hi)] else [])

/-- A deletion entry is applied to the extent table (R148). -/
def applyDeletion (v : Vol) (runId : Nat) (es : List Extent) (d : Run) : List Extent :=
  es.flatMap fun e => if deletionReaches v d e then deletionParts runId d e else [e]

/-- The extent table after a batch's deletions (R148). -/
def applyDeletions (v : Vol) (runId : Nat) (ds : List Run) (es : List Extent) : List Extent := ds.foldl (applyDeletion v runId) es

/-- The slot that holds the lowest READY seq (R146). -/
def InCtx.lowestReady (x : InCtx) : Option (Fin 2) :=
  let a := x.slots[(0 : Fin 2)]
  let b := x.slots[(1 : Fin 2)]
  if a.state = .ready ∧ b.state = .ready then (if a.seq ≤ b.seq then some 0 else some 1)
  else if a.state = .ready then some 0
  else if b.state = .ready then some 1
  else none

/-- Some slot is LANDING. -/
def InCtx.landing (x : InCtx) : Option (Fin 2) := x.slotThat fun y => decide (y.state = .landing)

/-- The LAND unit of a slot (Table 5-2). -/
def landUnit (c : Ctx) (v : Vol) (y : Slot) : MoverUnit :=
  ⟨.land, c, ⟨.staging y.payload, .aperture v y.taken.flatten, y.blocks⟩, .nothing, false, y.seq, 0, 0, false⟩

/-- NO_SPACE: the receipt is sent and the run aborts (R146, R147). -/
def noSpace (c : Ctx) (seq : Nat) (s : State) : State := abortCtx inboundNoSpace false c (sendReceipt c seq .noSpace s)

/-- The blocks that a landing decision gives a batch's payload entries, or none when it fails (R146). -/
def landDecision (s : State) (v : Vol) (y : Slot) : Option (List (List Run)) :=
  match takeAll y.entries (s.replVol v).pool with
  | none => none
  | some taken =>
    if s.tableRoom (taken.flatten.length + 2 * y.deletions.length) && landingAccepts (s.account (landingIndex v)) (s.chargeOf v y.blocks) then
      some taken
    else none

/-- The final update of a landing (R147): records, pool, charge, deletions, digest, slot, LANDED. -/
def landMake (c : Ctx) (i : Fin 2) (s : State) : State :=
  let x := s.inCtx c
  let y := x.slots[i]
  let v := x.volume
  let made := y.records v x.runId
  let s1 := made.foldl (fun t e => t.addExtent e) s
  let s2 := s1.setReplVol v { s1.replVol v with pool := poolDrop (s1.replVol v).takeMark (s1.replVol v).pool, takeMark := 0 }
  let s3 := chargeAccount (landingIndex v) (s2.chargeOf v y.blocks) made.length s2
  let es := applyDeletions v x.runId y.deletions s3.extents
  let s4 := countRecords (landingIndex v) (es.length - s3.extents.length) (s3.setExtents es)
  sendReceipt c y.seq .landed (s4.setInCtx c { x.setSlot i .clear with digest := digestAdd x.digest y.arrival })

/-- A landing ends (R147), or is given up when the table has no room for what it now needs. -/
def landEnd (c : Ctx) (i : Fin 2) (s : State) : State :=
  let x := s.inCtx c
  let t := landMake c i s
  if t.extents.length ≤ Config.maxExtents then t
  else noSpace c x.slots[i].seq (s.setTakeMark x.volume 0)

/-- A READY slot becomes LANDING with its blocks, and asks for its unit; a batch of deletions only ends its landing at once (R146). -/
def landStart (c : Ctx) (i : Fin 2) (taken : List (List Run)) (s : State) : State :=
  let x := s.inCtx c
  let y := { x.slots[i] with state := .landing, taken := taken }
  let s1 := (s.setTakeMark x.volume y.blocks).setInCtx c (x.setSlot i y)
  if y.entries.isEmpty then landEnd c i s1
  else
    match askUnit (landUnit c x.volume y) s1 with
    | some t => t
    | none => abortCtx inboundMoverFault true c s1

/-- The landing decision of a context, at most `fuel` batches of deletions only following one another (R146). -/
def landTry : (fuel : Nat) → Ctx → State → State
  | 0, _, s => s
  | fuel + 1, c, s =>
    let x := s.inCtx c
    if x.state = .open ∧ x.landing.isNone = true then
      match x.lowestReady with
      | none => s
      | some i =>
        match landDecision s x.volume x.slots[i] with
        | none => noSpace c x.slots[i].seq s
        | some taken => landTry fuel c (landStart c i taken s)
    else s

/-- A context has two slots, so at most two landings follow one another in one update. -/
def landNext (c : Ctx) (s : State) : State := landTry 3 c s

/-- A context's LAND unit completes (R147, R149). -/
def landComplete (c : Ctx) (s : State) : State :=
  let x := s.inCtx c
  match x.state, x.landing with
  | .open, some i => landNext c (landEnd c i s)
  | _, _ => landGone c s

/-- A batch whose slot is FILLING is judged at its BATCH_END (R143). -/
def judgeBatch (c : Ctx) (i : Fin 2) (sent : Digest) (s : State) : State :=
  let x := s.inCtx c
  let y := x.slots[i]
  if y.gap = false ∧ y.payload.length = y.total ∧ y.arrival = sent then
    landNext c (s.setInCtx c { x.setSlot i { y with state := .ready, sent := sent } with expected := x.expected + 1 })
  else (sendReceipt c y.seq .digestBad s).updateIn c fun z => z.setSlot i .clear

/-- A BATCH_END taken by an OPEN context (R143). -/
def takeEnd (c : Ctx) (p : InFrame) (s : State) : State :=
  let x := s.inCtx c
  match x.fillingWith p.header.seq with
  | some i => judgeBatch c i (BitVec.ofNat 32 p.header.arg) s
  | none =>
    match x.reply with
    | some (seq, k) =>
      if seq = p.header.seq then
        (sendReceipt c seq (match k with | .busy => .busy | .duplicate => x.duplicateKind seq) s).updateIn c fun z => { z with reply := none }
      else s
    | none => s

/-! ### Close and commit (R150, R151) -/

/-- A CLOSED of a context is sent. -/
def sendClosed (c : Ctx) (arg : Nat) (s : State) : State := handControl ((s.inCtx c).frame .closed 0 arg) s

/-- A CLOSE is refused: CLOSED REFUSED is sent and the run aborts (R150). -/
def refuseClose (c : Ctx) (s : State) : State := abortCtx inboundCloseRefused false c (sendClosed c closedRefused s)

/-- The Snapshot Unit refuses a place for a run's target snapshot (R52). -/
def State.placeRefused (s : State) (v : Vol) (target : Nat) : Bool := (s.snapLabelled v target).isSome || s.snapListFull v

/-- A context enters COMMITTING with its reserved place (R52, R150). -/
def startCommit (c : Ctx) (s : State) : State :=
  let x := s.inCtx c
  let s1 := s.setSnapVol x.volume { s.snapVol x.volume with commitPlace := some x.target }
  s1.setInCtx c { x with state := .committing, idle := none, cursor := 0, walkDone := false }

/-- A CLOSE that matches an OPEN context is judged (R150). -/
def judgeClose (c : Ctx) (p : InFrame) (s : State) : State :=
  let x := s.inCtx c
  if x.expected - 1 < p.header.seq ∨ (x.slotThat fun y => decide (y.state ≠ .empty)).isSome then s
  else if p.header.seq < x.expected - 1 ∨ BitVec.ofNat 32 p.header.arg ≠ x.digest then refuseClose c s
  else if s.placeRefused x.volume x.target then refuseClose c s
  else startCommit c s

/-- A CLOSE that matches no context is answered from the volume's last committed run (R150; notes/assumptions/18.md). -/
def closeUnmatched (p : InFrame) (s : State) : State :=
  let known := decide (p.header.recvVol ≤ 15) &&
    decide ((s.replVol (toVol p.header.recvVol)).last = some ⟨p.header.runId, p.header.peerId, p.src⟩)
  handControl (p.replyFrame .closed (if known then closedCommitted else closedRefused) []) s

/-- A CLOSE from the link (R150). -/
def takeClose (p : InFrame) (s : State) : State :=
  match s.matched p with
  | none => closeUnmatched p s
  | some c =>
    match (s.inCtx c).state with
    | .open => judgeClose c p (touch c s)
    | .aborting => sendClosed c closedRefused s
    | .committing => s
    | .free => s

/-- A record carries the mark of a run. -/
def Extent.marked (e : Extent) (runId : Nat) (k : MarkKind) : Bool := decide (e.mark = some ⟨runId, k⟩)

/-- A scan's cursor moves on (R4). -/
def moveCursor (c : Ctx) (n : Nat) (s : State) : State := s.updateIn c fun x => { x with cursor := n }

/-- The commit scan decides a marked record (R12, R151); `none` when the release list cannot take its run. -/
def commitRecord (c : Ctx) (e : Extent) (s : State) : Option State :=
  if s.dropHolds e (s.inCtx c).target then some (holdRecord e (s.inCtx c).target s)
  else (releaseAppend e.volume e.run s).map (removeLive e)

/-- The commit ends (R151), as one update. -/
def commitEnd (c : Ctx) (s : State) : State :=
  let x := s.inCtx c
  let v := x.volume
  let s1 := s.setExtents (s.extents.map fun e =>
    if e.volume = v ∧ (e.marked x.runId .provBirth || e.marked x.runId .provDeath) = true then { e with mark := none } else e)
  let y := s1.snapVol v
  let s2 := s1.setSnapVol v { y with
    commitPlace := none
    snaps := insertSnapshot ⟨x.target, x.target, s.qu.clock, true, false, false, 0⟩ y.snaps }
  let s3 := moveBase v x.target s2
  let s4 := autoTrimAgain v (s3.setVol v { s3.vol v with epoch := some (x.target + 1) })
  let s5 := s4.setReplVol v { s4.replVol v with last := some ⟨x.runId, x.peerId, x.peerAddr⟩ }
  (raise .inboundCommitted v.val x.target (sendClosed c closedCommitted s5)).setInCtx c .free

/-- The commit scan visits a record (R151). -/
def commitVisit (c : Ctx) (e : Extent) (s : State) : State :=
  if e.marked (s.inCtx c).runId .provDeath then
    match commitRecord c e s with
    | some t => moveCursor c e.stop t
    | none => producerWait e.volume (.commit c) (moveCursor c e.first s)
  else moveCursor c e.stop s

/-! ### Rollback (R153) -/

/-- The rollback scan removes a PROV_BIRTH record; `none` when the release list cannot take its run. -/
def rollbackRecord (e : Extent) (s : State) : Option State := (releaseAppend e.volume e.run s).map (removeLive e)

/-- The rollback scan visits a record (R153). -/
def rollbackVisit (c : Ctx) (e : Extent) (s : State) : State :=
  let x := s.inCtx c
  if e.marked x.runId .provBirth then
    match rollbackRecord e s with
    | some t => moveCursor c e.stop t
    | none => producerWait e.volume (.rollback c) (moveCursor c e.first s)
  else if e.marked x.runId .provDeath then
    moveCursor c e.stop (s.updateExtent e.volume e.first fun z => { z with mark := none })
  else moveCursor c e.stop s

/-- The rollback's walk has ended: the rollback ends, unless the context's LAND unit still holds the engine (R153; notes/assumptions/14.md). -/
def rollbackWalked (c : Ctx) (s : State) : State :=
  if s.holdsEngine .land c then s.updateIn c fun x => { x with walkDone := true } else rollbackEnd c s

/-- A producer waits on the release list of a volume (R66). -/
def State.producing (s : State) (v : Vol) (p : Producer) : Bool := (s.snapVol v).producers.contains p

/-! ### REPLICA_RESET (R72, R154) -/

/-- The Snapshot Unit's part of a REPLICA_RESET (R72). The entries are reported in queue order, which R72 does not give (notes/assumptions/9.md, notes/assumptions/19.md). -/
def resetSnapshots (v : Vol) (s : State) : State :=
  let x := s.snapVol v
  let s1 := (producerLeave v .trim s).setSnapVol v { (producerLeave v .trim s).snapVol v with trim := .idle, retire := [], snaps := [], auto := .off }
  let s2 := x.retire.foldl (fun t e => reportTrim v e t) s1
  s2.setVol v { s2.vol v with baseLabel := none }

/-- The sum of the charges of some records of a volume. -/
def State.chargesOf (s : State) (v : Vol) (es : List Extent) : Nat := (es.map fun e => s.chargeOf v e.len).sum

/-- The REPLICA_RESET is over: DONE is answered (R154). -/
def resetEnd (v : Vol) (j : ResetJob) (s : State) : State :=
  answerIf j.answer (fun tag => ⟨tag, 0x49, Status.done.code, saturate 32 j.records, j.snaps, j.blocks⟩)
    (s.setReplVol v { s.replVol v with reset := none })

/-- The second stage of a REPLICA_RESET (R154; notes/assumptions/26.md). -/
def resetEmpty (v : Vol) (j : ResetJob) (s : State) : State :=
  let snaps := (s.snapVol v).snaps.length
  let s1 := resetSnapshots v s
  let es := s1.records v
  let lives := es.filter Extent.live
  let helds := es.filter fun e => !e.live
  let s2 := s1.setExtents (s1.extents.filter fun e => decide (e.volume ≠ v))
  let s3 := refundAccount (landingIndex v) (s1.chargesOf v lives) lives.length s2
  let s4 := refundAccount (reserveIndex v) (s1.chargesOf v helds) helds.length s3
  let j2 : ResetJob := { j with emptied := true, outgoing := es.map Extent.run, records := es.length, snaps := snaps, blocks := runsLen (es.map Extent.run) }
  let s5 := s4.setReplVol v { s4.replVol v with last := none, reset := some j2 }
  if es.isEmpty then resetEnd v j2 s5 else s5

/-- The first outgoing run of a REPLICA_RESET is appended; `none` when the release list cannot take it (R154). -/
def resetAppend (v : Vol) (j : ResetJob) (s : State) : Option State :=
  match j.outgoing with
  | [] => some (resetEnd v j s)
  | r :: rest =>
    (releaseAppend v r s).map fun t =>
      let j2 := { j with outgoing := rest }
      if rest.isEmpty then resetEnd v j2 t else t.setReplVol v { t.replVol v with reset := some j2 }

end Sys2Proof.Machine
end

