-- ==== Sys2Proof/Machine/Inbound.lean ====
section
/-! DEFINITION. The frames, scans and requests of the receiving side (chapter 7). -/

namespace Sys2Proof.Machine

/-! ### Frames from the sending side (R137, R165) -/

/-- A frame of this kind goes to the Duplication Receiver when it has passed every check and its direction is FORWARD; any other frame changes nothing here
(notes/assumptions/13.md). -/
def onForward (k : FrameKind) (f : EthFrame) (act : InFrame → State → State) (s : State) : State :=
  match s.arrival f with
  | .pass p => if p.header.kind = k ∧ p.header.dir = .forward then act p s else s
  | _ => s

/-- A frame that its OPEN context takes restarts the idle timer and is acted on; any other is discarded (R137). -/
def takenOpen (act : Ctx → InFrame → State → State) (p : InFrame) (s : State) : State :=
  match s.matched p with
  | some c => if (s.inCtx c).state = .open then act c p (touch c s) else s
  | none => s

/-- OFFER (R138, R139). -/
def execOffer (f : EthFrame) (s : State) : Host.Outcome State Fault Refusal := .next (onForward .offer f takeOffer s)

/-- BATCH_HEAD (R140, R141). -/
def execBatchHead (f : EthFrame) (s : State) : Host.Outcome State Fault Refusal := .next (onForward .batchHead f (takenOpen takeHead) s)

/-- BATCH_DATA (R142). -/
def execBatchData (f : EthFrame) (s : State) : Host.Outcome State Fault Refusal := .next (onForward .batchData f (takenOpen takeData) s)

/-- BATCH_END (R143). -/
def execBatchEnd (f : EthFrame) (s : State) : Host.Outcome State Fault Refusal := .next (onForward .batchEnd f (takenOpen takeEnd) s)

/-- CLOSE (R150). -/
def execClose (f : EthFrame) (s : State) : Host.Outcome State Fault Refusal := .next (onForward .close f takeClose s)

/-! ### Timers and scans -/

/-- IDLE_TIMER_EXPIRY: the running idle timer of an OPEN context (R137; notes/assumptions/10.md). -/
def execIdleTimerExpiry (ctx : Ctx) (s : State) : Host.Outcome State Fault Refusal :=
  if (s.inCtx ctx).idle.isSome then .next (abortCtx inboundIdleTimeout true ctx s) else .next s

/-- COMMIT_SCAN_STEP (R151; notes/assumptions/14.md). -/
def execCommitScanStep (ctx : Ctx) (s : State) : Host.Outcome State Fault Refusal :=
  let x := s.inCtx ctx
  if x.state = .committing ∧ s.producing x.volume (.commit ctx) = false then
    match s.nextRecord x.volume x.cursor with
    | some e => .next (commitVisit ctx e s)
    | none => .next (commitEnd ctx s)
  else .next s

/-- ROLLBACK_SCAN_STEP (R153; notes/assumptions/14.md). -/
def execRollbackScanStep (ctx : Ctx) (s : State) : Host.Outcome State Fault Refusal :=
  let x := s.inCtx ctx
  if x.state = .aborting ∧ x.walkDone = false ∧ s.producing x.volume (.rollback ctx) = false then
    match s.nextRecord x.volume x.cursor with
    | some e => .next (rollbackVisit ctx e s)
    | none => .next (rollbackWalked ctx s)
  else .next s

/-! ### Requests -/

/-- The range checks of GIVE_RUNS (R145). -/
def giveRunsOk (p : GiveRunsParams) : Bool := volumeOk p.volume && decide (1 ≤ p.count) && decide (p.count ≤ 256)

/-- The checks of the runs of a GIVE_RUNS (R145). -/
def giveRunsRefusal (v : Vol) (runs : List Run) (s : State) : Option Status :=
  firstFailure
    [ (runs.any (fun r => decide (r.len = 0) || decide (Config.maxRun < r.len)), .badRequest),
      (runs.any (s.outOfRange v), .outOfRange),
      (anyOverlap runs || runs.any (s.taken v), .overlap),
      (decide (Config.maxPool < (s.replVol v).pool.length + runs.length), .poolFull) ]

/-- The untaken blocks of a pool (R144). -/
def ReplVol.untaken (x : ReplVol) : Nat := runsLen x.pool - x.takeMark

/-- The runs join the back of the pool (R145). -/
def giveRunsAccept (v : Vol) (runs : List Run) (s : State) : State :=
  s.setReplVol v { s.replVol v with pool := (s.replVol v).pool ++ runs }

/-- The volume checks of GIVE_RUNS and REPLICA_RESET (R145, R154). -/
def State.replicaChecks (s : State) (v : Vol) : List (Bool × Status) :=
  [ (decide ((s.vol v).state = .undefined), .noVolume),
    (decide ((s.vol v).defn.role = .primary), .volumeRole) ]

/-- GIVE_RUNS, with the runs that the RIU reads from the host buffer (R145). -/
def reqGiveRuns (r : RingNo) (tag : Nat) (p : GiveRunsParams) (runs : List Run) (s : State) : State :=
  let q := Request.giveRuns p
  let v := toVol p.volume
  gated r tag q (giveRunsOk p) (fun s =>
    checked r tag q (firstFailure (s.replicaChecks v)) (fun s =>
      checked r tag q (giveRunsRefusal v runs s) (fun s =>
        let t := giveRunsAccept v runs s
        reply r tag q .ok (t.replVol v).pool.length 0 (t.replVol v).untaken t) s) s) s

/-- The volume's context is COMMITTING, or a REPLICA_RESET is in progress (R154). -/
def State.resetRefused (s : State) (v : Vol) : Bool :=
  (match s.ctxOf v.val with | some c => decide ((s.inCtx c).state = .committing) | none => false) || (s.replVol v).reset.isSome

/-- The acceptance of a REPLICA_RESET: its first stage aborts an OPEN context (R154). -/
def resetAccept (r : RingNo) (tag : Nat) (v : Vol) (s : State) : State :=
  let s1 := s.setReplVol v { s.replVol v with reset := some ⟨some (r, tag), false, [], 0, 0, 0⟩ }
  match s.ctxOf v.val with
  | some c => abortCtx inboundReplicaReset true c s1
  | none => s1

/-- REPLICA_RESET (R154). -/
def reqReplicaReset (r : RingNo) (tag : Nat) (volume : Nat) (s : State) : State :=
  let q := Request.replicaReset volume
  let v := toVol volume
  gated r tag q (volumeOk volume) (fun s =>
    checked r tag q (firstFailure (s.replicaChecks v ++
      [ (decide ((s.vol v).state = .defined), .volumeState),
        (s.resetRefused v, .busy) ]))
      (fun s => reply r tag q .accepted 0 0 0 (resetAccept r tag v s)) s) s

/-- A of QUERY_INBOUND (Table 11-8). -/
def inboundWord (s : State) (v : Vol) : Nat :=
  let r := s.replVol v
  let x := match s.ctxOf v.val with | some c => s.inCtx c | none => InCtx.free
  x.state.code + 4 * x.slots[(0 : Fin 2)].state.code + 16 * x.slots[(1 : Fin 2)].state.code + flagBit r.reset.isSome 6 + 65536 * r.pool.length

/-- QUERY_INBOUND (R155). -/
def reqQueryInbound (r : RingNo) (tag : Nat) (volume : Nat) (s : State) : State :=
  let q := Request.queryInbound volume
  let v := toVol volume
  gated r tag q (volumeOk volume) (fun s =>
    if (s.vol v).state = .undefined then refuse r tag q .noVolume s
    else
      let b := match s.ctxOf v.val with | some c => (s.inCtx c).runId + 4294967296 * (s.inCtx c).expected | none => 0
      reply r tag q .ok (inboundWord s v) b (s.replVol v).untaken s) s

/-! ### The commands -/

/-- GIVE_RUNS. -/
def execGiveRuns (ring : RingNo) (tag : Nat) (p : GiveRunsParams) (runs : List Run) (s : State) : Host.Outcome State Fault Refusal :=
  .next (reqGiveRuns ring tag p runs s)
/-- REPLICA_RESET. -/
def execReplicaReset (ring : RingNo) (tag : Nat) (volume : Nat) (s : State) : Host.Outcome State Fault Refusal :=
  .next (reqReplicaReset ring tag volume s)
/-- QUERY_INBOUND. -/
def execQueryInbound (ring : RingNo) (tag : Nat) (volume : Nat) (s : State) : Host.Outcome State Fault Refusal :=
  .next (reqQueryInbound ring tag volume s)

/-- REPLICA_RESET_EMPTY: the second stage, once the volume's context is FREE (R154). -/
def execReplicaResetEmpty (volume : Vol) (s : State) : Host.Outcome State Fault Refusal :=
  match (s.replVol volume).reset with
  | some j => if j.emptied = false ∧ (s.ctxOf volume.val).isNone = true then .next (resetEmpty volume j s) else .next s
  | none => .next s

/-- REPLICA_RESET_APPEND: the third stage appends one run, or waits for room (R154). -/
def execReplicaResetAppend (volume : Vol) (s : State) : Host.Outcome State Fault Refusal :=
  match (s.replVol volume).reset with
  | some j =>
    if j.emptied = true ∧ s.producing volume .reset = false then
      match resetAppend volume j s with
      | some t => .next t
      | none => .next (producerWait volume .reset s)
    else .next s
  | none => .next s

end Sys2Proof.Machine
end

