-- ==== Sys2Proof/Machine/Runs.lean ====
section
/-! DEFINITION. The requests, steps, timers and frames of the sending side (chapter 6), and the leaving of frames for the wire (R167). -/

namespace Sys2Proof.Machine

/-! ### Requests -/

/-- The volume has no peer to send to (R111, check 4). -/
def State.noPeer (s : State) (v : Vol) : Bool :=
  match (s.vol v).defn.peer, (s.vol v).defn.remote with
  | some i, some _ => !s.lc.peers[(Fin.ofNat 4 i : Ctx)].enabled
  | _, _ => true

/-- The volume is in the run queue or is that of the active run (R111, check 8). -/
def State.hasRun (s : State) (v : Vol) : Bool :=
  (s.ds.queue.any fun x => decide (x.volume = v)) || (match s.ds.active with | some x => decide (x.volume = v) | none => false)

/-- The base epoch that RUN_START computes (R111). -/
def startBase (p : RunStartParams) (s : State) : Nat := if p.full then 0 else s.baseEpoch (toVol p.volume)

/-- The checks of RUN_START in their order (R111). -/
def runStartRefusal (p : RunStartParams) (s : State) : Option Status :=
  let v := toVol p.volume
  firstFailure
    [ (decide ((s.vol v).state = .undefined), .noVolume),
      (decide ((s.vol v).defn.role = .replica), .volumeRole),
      (decide ((s.vol v).state = .defined), .volumeState),
      (s.noPeer v, .noPeer),
      (if p.newSnapshot then (s.labelTaken v p.label, .labelTaken) else ((s.activeLabelled v p.label).isNone, .noSnapshot)),
      (!p.newSnapshot && (match s.activeLabelled v p.label with | some x => decide (x.epoch ≤ startBase p s) | none => false), .staleEpoch),
      (s.strap, .serviceMode),
      (s.hasRun v, .alreadyQueued),
      (s.faulted .ship, .faultHeld) ]

/-- The target epoch of an accepted RUN_START's answer: the named target's, or 0 (R112). -/
def startTarget (p : RunStartParams) (s : State) : Nat :=
  if p.newSnapshot then 0
  else
    match s.activeLabelled (toVol p.volume) p.label with
    | some x => x.epoch
    | none => 0

/-- The acceptance of a RUN_START (R112). -/
def runStartAccept (r : RingNo) (tag : Nat) (p : RunStartParams) (s : State) : State :=
  let v := toVol p.volume
  let s1 := if p.newSnapshot then s else placeTarget v (startTarget p s) s
  s1.setDs { s1.ds with
    queue := s1.ds.queue ++ [⟨v, r, tag, p.label, p.newSnapshot, p.full⟩]
    lookDue := s1.ds.lookDue || s1.ds.queue.isEmpty }

/-- RUN_START (R111, R112). -/
def reqRunStart (r : RingNo) (tag : Nat) (p : RunStartParams) (s : State) : State :=
  let q := Request.runStart p
  gated r tag q (volumeOk p.volume) (fun s =>
    checked r tag q (runStartRefusal p s) (fun s =>
      reply r tag q .accepted (s.ds.queue.length + 1) (startTarget p s) (startBase p s) (runStartAccept r tag p s)) s) s

/-- The queued run of a volume. -/
def Ds.queued (d : Ds) (v : Vol) : Option QueuedRun := d.queue.find? fun x => decide (x.volume = v)

/-- The volume's run is active and not ENDED (R132). -/
def State.runsOn (s : State) (v : Vol) : Bool :=
  match s.ds.active with
  | some x => decide (x.volume = v) && decide (x.state ≠ .ended)
  | none => false

/-- RUN_CANCEL (R132; notes/assumptions/9.md). -/
def reqRunCancel (r : RingNo) (tag : Nat) (volume : Nat) (s : State) : State :=
  let q := Request.runCancel volume
  let v := toVol volume
  gated r tag q (volumeOk volume) (fun s =>
    match s.ds.queued v with
    | some x => answer x.ring (cancelledAnswer x) (reply r tag q .ok 1 0 0 (releaseQueued x (unqueue v s)))
    | none =>
      if s.runsOn v then reply r tag q .ok 2 0 0 (endRun outboundCancelled 0 true s)
      else refuse r tag q .noOperation s) s

/-- The place of a volume in the run queue, counting the front as 1. -/
def Ds.place (d : Ds) (v : Vol) : Nat := d.queue.findIdx (fun x => decide (x.volume = v)) + 1

/-- The seq at the front of the outstanding list, or 0. -/
def Ds.frontSeq (d : Ds) : Nat :=
  match d.outstanding with
  | b :: _ => b.seq
  | [] => 0

/-- QUERY_RUN (R133). -/
def reqQueryRun (r : RingNo) (tag : Nat) (volume : Nat) (s : State) : State :=
  let q := Request.queryRun volume
  let v := toVol volume
  gated r tag q (volumeOk volume) (fun s =>
    match s.ds.active with
    | some x =>
      if x.volume = v then
        reply r tag q .ok (x.state.code + 256 * s.ds.outstanding.length + 65536 * s.ds.bucket)
          (x.base + 4294967296 * x.target.getD 0) (x.nextSeq + 4294967296 * s.ds.frontSeq) s
      else queuedOrNone r tag q v s
    | none => queuedOrNone r tag q v s) s
where
  /-- The answer for a volume whose run is not active. -/
  queuedOrNone (r : RingNo) (tag : Nat) (q : Request) (v : Vol) (s : State) : State :=
    if (s.ds.queued v).isSome then reply r tag q .ok (1 + 256 * s.ds.place v) 0 0 s else reply r tag q .ok 0 0 0 s

/-- RUN_START. -/
def execRunStart (ring : RingNo) (tag : Nat) (p : RunStartParams) (s : State) : Host.Outcome State Fault Refusal :=
  .next (reqRunStart ring tag p s)
/-- RUN_CANCEL. -/
def execRunCancel (ring : RingNo) (tag : Nat) (volume : Nat) (s : State) : Host.Outcome State Fault Refusal :=
  .next (reqRunCancel ring tag volume s)
/-- QUERY_RUN. -/
def execQueryRun (ring : RingNo) (tag : Nat) (volume : Nat) (s : State) : Host.Outcome State Fault Refusal :=
  .next (reqQueryRun ring tag volume s)

/-! ### Steps and timers -/

/-- RUN_DEQUEUE: the look at the queue that an event of R114 called for (notes/assumptions/7.md). -/
def execRunDequeue (s : State) : Host.Outcome State Fault Refusal :=
  if s.ds.lookDue then
    let s1 := s.setDs { s.ds with lookDue := false }
    match s1.ds.queue with
    | x :: rest => if s1.runMayStart then .next (startRun x rest s1) else .next s1
    | [] => .next s1
  else .next s

/-- DELTA_SCAN_STEP: a step while the scan runs and no closed batch waits (R118, R120). -/
def execDeltaScanStep (s : State) : Host.Outcome State Fault Refusal :=
  match s.ds.active, s.ds.scanning, s.ds.closed with
  | some x, some cursor, none => .next (scanStep x cursor s)
  | _, _, _ => .next s

/-- BATCH_TRANSMIT_START: the held batch asks for its SHIP unit (R121). -/
def execBatchTransmitStart (s : State) : Host.Outcome State Fault Refusal :=
  match s.ds.active, s.ds.holding with
  | some x, some b => if s.heldMaySend b then .next (askShip x.volume b s) else .next s
  | _, _ => .next s

/-- RESEND_START: the lowest PENDING_RESEND batch asks for its SHIP unit (R127). -/
def execResendStart (s : State) : Host.Outcome State Fault Refusal :=
  match s.ds.active, s.ds.nextResend with
  | some x, some b => if s.mayResend b then .next (askShip x.volume b s) else .next s
  | _, _ => .next s

/-- EXCHANGE_TIMER_EXPIRY: the OFFER or CLOSE is sent again, or the run ends NO_ANSWER (R115, R129; notes/assumptions/4.md, notes/assumptions/10.md). -/
def execExchangeTimerExpiry (s : State) : Host.Outcome State Fault Refusal :=
  match s.ds.active with
  | some x =>
    if x.exchange.isSome then
      if 3 ≤ x.resends then .next (endRun outboundNoAnswer 0 true s)
      else
        let s1 := s.setActive { x with resends := x.resends + 1, exchange := none }
        if x.state = .offering then .next (sendOffer s1) else .next (sendClose s1)
    else .next s
  | none => .next s

/-- RECEIPT_TIMER_EXPIRY: the running receipt timer of a batch acts as DIGEST_BAD (R126; notes/assumptions/10.md). -/
def execReceiptTimerExpiry (seq : Nat) (s : State) : Host.Outcome State Fault Refusal :=
  match s.ds.batch seq with
  | some b => if b.stage = .awaiting ∧ b.timer.isSome = true then .next (goBack seq s) else .next s
  | none => .next s

/-- BUSY_WAIT_END (R128; notes/assumptions/10.md). -/
def execBusyWaitEnd (s : State) : Host.Outcome State Fault Refusal := .next (s.setDs { s.ds with busyWait := false })

/-- PACER_INTERVAL: one credit, unless the bucket holds 64 (R123; notes/assumptions/10.md). -/
def execPacerInterval (s : State) : Host.Outcome State Fault Refusal :=
  if s.ds.bucket < Config.maxCredits then .next (s.setDs { s.ds with bucket := s.ds.bucket + 1 }) else .next s

/-! ### Frames from the receiving side -/

/-- The active run, when a frame that has passed every check is BACKWARD, comes from the run's peer and carries its run id (R165). -/
def State.runOf (s : State) (p : InFrame) : Option OutRun :=
  match s.ds.active with
  | some x =>
    match x.peer with
    | some c =>
      if p.header.dir = .backward ∧ s.lc.peers[p.entry].address = c.address ∧ s.lc.peers[p.entry].id = c.id ∧
          p.header.runId = x.runId then some x
      else none
    | none => none
  | none => none

/-- A frame of this kind acts on the active run; any other frame, or one that fails a check, changes nothing here (notes/assumptions/13.md). -/
def onRunFrame (k : FrameKind) (f : EthFrame) (act : OutRun → InFrame → State) (s : State) : State :=
  match s.arrival f with
  | .pass p =>
    if p.header.kind = k then
      match s.runOf p with
      | some x => act x p
      | none => s
    else s
  | _ => s

/-- ACCEPT: an OFFERING run whose OFFER has been sent moves to SHIPPING (R116, R118; notes/assumptions/17.md). -/
def execAccept (f : EthFrame) (s : State) : Host.Outcome State Fault Refusal :=
  .next (onRunFrame .accept f (fun x _ =>
    if x.state = .offering ∧ x.offerSent = true then
      let s1 := s.setActive { x with state := .shipping, exchange := none, digest := 0 }
      s1.setDs { s1.ds with scanning := some 0, rest := none }
    else s) s)

/-- The replica's base may be adopted (R117). -/
def State.mayAdopt (s : State) (x : OutRun) (e : Nat) : Bool :=
  !x.adopted && decide (e ≠ 0) && (match s.snapAt x.volume e with | some y => y.active | none => false)

/-- Base adoption (R117): REPL_BASE moves, and a new OFFER is sent. -/
def adoptBase (x : OutRun) (e : Nat) (s : State) : State :=
  sendOffer ((moveBase x.volume e s).setActive { x with adopted := true, resends := 0, exchange := none })

/-- DECLINE: base adoption, or the end of the run (R116, R117; notes/assumptions/17.md). -/
def execDecline (f : EthFrame) (s : State) : Host.Outcome State Fault Refusal :=
  .next (onRunFrame .decline f (fun x p =>
    if x.state = .offering ∧ x.offerSent = true then
      if p.header.arg = declineBaseMismatch then
        if s.mayAdopt x (field p.payload 0 4) then adoptBase x (field p.payload 0 4) s
        else endRun outboundBaseLost 0 true s
      else endRun outboundDeclined p.header.arg true s
    else s) s)

/-- RECEIPT (R125, R126). -/
def execReceipt (f : EthFrame) (s : State) : Host.Outcome State Fault Refusal :=
  .next (onRunFrame .receipt f (fun x p =>
    if x.state = .shipping ∨ x.state = .draining then
      match ReceiptKind.ofCode p.header.arg with
      | some k => takeReceipt k p.header.seq s
      | none => s
    else s) s)

/-- CLOSED: the end of a CLOSING run (R129). -/
def execClosed (f : EthFrame) (s : State) : Host.Outcome State Fault Refusal :=
  .next (onRunFrame .closed f (fun x p =>
    if x.state = .closing then
      if p.header.arg = closedCommitted then endRun outboundDone 0 false s
      else endRun outboundDeclined inboundCloseRefused true s
    else s) s)

/-! ### Leaving for the wire (R162, R167) -/

/-- A frame goes onto the wire, padded by the port (R158; notes/assumptions/32.md, notes/assumptions/37.md). -/
def putOnWire (f : OutFrame) (s : State) : State :=
  s.setLc { s.lc with wire := some ⟨true, f.dest, s.lc.station, s.lc.etherType, padded (frameBytes s.lc.localId f)⟩ }

/-- The producer is told that its control frame has left: the exchange timer of the run's OFFER or CLOSE starts (R115, R129; notes/assumptions/17.md). -/
def controlLeft (f : OutFrame) (s : State) : State :=
  match s.ds.active with
  | some x =>
    if f.dir = .forward ∧ f.runId = x.runId then
      if f.kind = .offer ∧ x.state = .offering then
        s.setActive { x with exchange := some s.ds.settings.receiptTimeout, offerSent := true }
      else if f.kind = .close ∧ x.state = .closing then s.setActive { x with exchange := some s.ds.settings.receiptTimeout }
      else s
    else s
  | none => s

/-- The producer is told that its batch frame has left: the receipt timer of a BATCH_END's batch starts (R122). -/
def batchLeft (f : OutFrame) (s : State) : State :=
  match s.ds.batch f.seq with
  | some b => if f.kind = .batchEnd ∧ b.stage = .awaiting then restartTimer f.seq s else s
  | none => s

/-- FRAME_TRANSMIT: the oldest control frame leaves, or the batch frame whose credits the bucket holds (R123, R167). -/
def execFrameTransmit (s : State) : Host.Outcome State Fault Refusal :=
  if s.lc.up then
    match s.lc.control, s.lc.slot with
    | f :: rest, _ => .next (controlLeft f (putOnWire f (s.setLc { s.lc with control := rest })))
    | [], some f =>
      if frameCredits f.payload.length ≤ s.ds.bucket then
        let s1 := s.setDs { s.ds with bucket := s.ds.bucket - frameCredits f.payload.length }
        .next (pumpSlot (batchLeft f (putOnWire f (s1.setLc { s1.lc with slot := none }))))
      else .next s
    | [], none => .next s
  else .next s

end Sys2Proof.Machine
end

