-- ==== Sys2Proof/Machine/Link.lean ====
section
/-! DEFINITION. The Duplication Link (chapter 8): ABORT frames, rejected frames, carrier, and QUERY_PEER. -/

namespace Sys2Proof.Machine

/-- ABORT: from the sending side it aborts the matching OPEN context (Table 7-5); from the receiving side it ends the active run (Table 6-4). -/
def execAbort (f : EthFrame) (s : State) : Host.Outcome State Fault Refusal :=
  .next (onRunFrame .abort f (fun _ p => endRun outboundDeclined p.header.arg false s)
    (onForward .abort f (takenOpen fun c _ t => abortCtx inboundPeerAbort false c t) s))

/-- FRAME_REJECTED: a frame that fails the header or form check sets the charged entry's frame-error flag; one that fails before leaves no trace (R158, R161,
R163, R164; notes/assumptions/13.md). -/
def execFrameRejected (f : EthFrame) (s : State) : Host.Outcome State Fault Refusal :=
  match s.arrival f with
  | .frameError i => .next (setFrameError i s)
  | _ => .next s

/-- CARRIER_UP (R159). -/
def execCarrierUp (s : State) : Host.Outcome State Fault Refusal :=
  if s.lc.up then .next s
  else
    let s1 := raise .linkChange 1 0 (s.setLc { s.lc with up := true })
    .next (s1.setDs { s1.ds with lookDue := true })

/-- The change to DOWN (R160): the frames that wait are dropped, the active run fails LINK_DOWN, and OPEN contexts abort LINK_DOWN. -/
def linkDown (s : State) : State :=
  let s1 := raise .linkChange 0 0 (s.setLc { s.lc with up := false, control := [], slot := none })
  abortAll inboundLinkDown false (endRun outboundLinkDown 0 false (s1.setDs { s1.ds with handover := [] }))

/-- CARRIER_DOWN (R159, R160). -/
def execCarrierDown (s : State) : Host.Outcome State Fault Refusal := if s.lc.up then .next (linkDown s) else .next s

/-- The inbound contexts that are not FREE and whose peer is an entry (R172). -/
def State.inboundFrom (s : State) (i : Ctx) : Nat :=
  (ctxList.filter fun c => decide ((s.inCtx c).state ≠ .free) && decide ((s.inCtx c).peer = i)).length

/-- The active run's peer copy has an entry's address and peer id (R172). -/
def State.outboundTo (s : State) (i : Ctx) : Bool :=
  match s.ds.active with
  | some x =>
    match x.peer with
    | some c => decide (c.address = s.lc.peers[i].address) && decide (c.id = s.lc.peers[i].id)
    | none => false
  | none => false

/-- A of QUERY_PEER for an entry (Table 11-8). -/
def peerWord (s : State) (i : Ctx) : Nat :=
  flagBit s.lc.up 0 + flagBit s.lc.peers[i].enabled 1 + flagBit s.lc.peers[i].frameError 2 + 16 * s.inboundFrom i + flagBit (s.outboundTo i) 7

/-- An entry's frame-error flag is cleared by its report (R172). -/
def clearFrameError (i : Ctx) (s : State) : State :=
  s.setLc { s.lc with peers := s.lc.peers.set i { s.lc.peers[i] with frameError := false } }

/-- QUERY_PEER (R172). -/
def reqQueryPeer (r : RingNo) (tag : Nat) (index : Nat) (s : State) : State :=
  let q := Request.queryPeer index
  gated r tag q (decide (index ≤ 4)) (fun s =>
    if index = 4 then
      reply r tag q .ok (flagBit s.lc.up 0 + 256 * s.lc.control.length) s.lc.station (s.lc.localId + 4294967296 * s.lc.etherType) s
    else
      let i : Ctx := Fin.ofNat 4 index
      reply r tag q .ok (peerWord s i) s.lc.peers[i].address s.lc.peers[i].id (clearFrameError i s)) s

/-- QUERY_PEER. -/
def execQueryPeer (ring : RingNo) (tag : Nat) (index : Nat) (s : State) : Host.Outcome State Fault Refusal :=
  .next (reqQueryPeer ring tag index s)

end Sys2Proof.Machine
end

