-- ==== Sys2Proof/Machine/Restore.lean ====
section
/-! DEFINITION. Restores and probes (chapter 4): the search, the pieces, their records and units, and the ends. -/

namespace Sys2Proof.Machine

/-! ### Contexts -/

/-- A restore context changes. -/
def State.updateCtx (s : State) (c : Ctx) (f : RestoreCtx → RestoreCtx) : State := s.setRestoreCtx c (f (s.restoreCtx c))

/-- The end of a context's source range (R80). -/
def RestoreCtx.stop (x : RestoreCtx) : Nat := x.srcOffset + x.count

/-- The search has ended (R79). -/
def RestoreCtx.searched (x : RestoreCtx) : Bool := decide (x.stop ≤ x.searchPos)

/-- The context runs a request and its end is not decided. -/
def RestoreCtx.running (x : RestoreCtx) : Bool := decide (x.phase ≠ .free) && decide (x.phase ≠ .ending)

/-- The request kind code of a context's answers. -/
def RestoreCtx.kind (x : RestoreCtx) : Nat := if x.probe then 0x31 else 0x30

/-- The lowest-numbered FREE context (R77). -/
def State.freeCtx (s : State) : Option Ctx := ctxList.find? fun c => decide ((s.restoreCtx c).phase = .free)

/-- A context no longer waits at a gate. -/
def leaveGate (c : Ctx) (s : State) : State := s.setRu { s.ru with gateOrder := s.ru.gateOrder.filter fun d => decide (d ≠ c) }

/-! ### The ends (R89, R92) -/

/-- The completion answer of a RESTORE (R89, Table 11-8). -/
def restoreAnswer (x : RestoreCtx) (st : Status) (reason : Nat) : Answer :=
  ⟨x.tag, x.kind, st.code, reason, x.copied + 4294967296 * x.zeroed, runsLen x.targets - x.copied - x.zeroed⟩

/-- The completion answer of a PROBE (R92). -/
def probeAnswer (x : RestoreCtx) (st : Status) : Answer :=
  ⟨x.tag, x.kind, st.code, x.written, x.searchPos, if x.searched then 1 else 0⟩

/-- The update of an end: the context enters ENDING, its claim is dropped, its hold released and its plan emptied, and a request for the engine is withdrawn (R89,
R92, R99). -/
def endCtx (c : Ctx) (s : State) : State :=
  let x := s.restoreCtx c
  let s1 := leaveGate c (withdraw .restore c s)
  releaseRestoreHold x.volume x.epoch (s1.setRestoreCtx c { x with phase := .ending, claim := [], plan := [], flight := none })

/-- The context becomes FREE. -/
def freeContext (c : Ctx) (s : State) : State := s.setRestoreCtx c .free

/-- A context ends with an answer; it becomes FREE when the answer is handed on (R73). -/
def endWith (c : Ctx) (a : Answer) (s : State) : State :=
  let x := s.restoreCtx c
  let d := answerDue x.ring a (.restoreEnd c) (endCtx c s)
  if d.2 then freeContext c d.1 else d.1

/-- A RESTORE ends (R89, Table 4-4). -/
def endRestore (c : Ctx) (st : Status) (reason : Nat) (s : State) : State := endWith c (restoreAnswer (s.restoreCtx c) st reason) s

/-- A PROBE ends with an answer (R92). -/
def endProbe (c : Ctx) (st : Status) (s : State) : State := endWith c (probeAnswer (s.restoreCtx c) st) s

/-- What a RESTORE does when no piece is in flight and no step answer waits (R86): its cancel, its completion, or its next piece. -/
def continueRestore (c : Ctx) (s : State) : State :=
  let x := s.restoreCtx c
  if x.running = false then s
  else if x.cancel then endRestore c .cancelled 0 s
  else if x.plan.isEmpty then
    if x.searched then endRestore c .done 0 s else s.setRestoreCtx c { x with phase := .searching }
  else s

/-- What a PROBE does when no write is in progress and no step answer waits (R92). R92 gives both DONE and CANCELLED to a probe whose CANCEL_RESTORE was taken during its last write; the
model answers CANCELLED (notes/assumptions/46.md). -/
def continueProbe (c : Ctx) (s : State) : State :=
  let x := s.restoreCtx c
  if x.running = false then s
  else if x.cancel then endProbe c .cancelled s
  else if (x.plan.isEmpty ∧ x.searched = true) ∨ x.max ≤ x.written then endProbe c .done s
  else s

/-- A context's step answer or ACCEPTED answer, or its end, is handed on (R73, R77, R88). -/
def ctxReleased (o : AnswerOwner) (s : State) : State :=
  match o with
  | .accepted c => s.updateCtx c fun x => { x with acceptedDue := false }
  | .step c =>
    let s1 := s.updateCtx c fun x => { x with stepDue := false }
    if (s1.restoreCtx c).probe then continueProbe c s1 else continueRestore c s1
  | .restoreEnd c => freeContext c s
  | _ => s

/-- A step answer becomes due; the context goes on when it is handed on (R88, R92). -/
def stepAnswer (c : Ctx) (a : Answer) (s : State) : State :=
  let d := answerDue (s.restoreCtx c).ring a (.step c) s
  if d.2 then ctxReleased (.step c) d.1 else d.1.updateCtx c fun x => { x with stepDue := true }

/-! ### The search (R79, R80) -/

/-- The record is one the search step looks for (R80). -/
def RestoreCtx.wants (x : RestoreCtx) (e : Extent) : Bool :=
  decide (e.volume = x.volume) && decide (e.object = x.srcObject) && e.inUse x.epoch &&
    decide (x.searchPos < e.offset + e.len) && decide (e.offset < x.stop)

/-- Of two records, the one that the second order of the table puts first (R3, R80). -/
def Extent.earlier (a b : Extent) : Extent := if b.offset < a.offset ∨ (b.offset = a.offset ∧ b.first < a.first) then b else a

/-- The record of lowest offset, and of lowest first block among equal offsets (R80). -/
def earliest : List Extent → Option Extent
  | [] => none
  | e :: es =>
    match earliest es with
    | some x => some (e.earlier x)
    | none => some e

/-- The pieces that a search step adds, given how many places the plan has left (R80). -/
def RestoreCtx.found (x : RestoreCtx) (o : Option Extent) (places : Nat) : List Piece :=
  match o with
  | none => [⟨none, x.searchPos, x.stop - x.searchPos⟩]
  | some e =>
    if x.searchPos < e.offset then
      ⟨none, x.searchPos, e.offset - x.searchPos⟩ ::
        (if 2 ≤ places then [⟨some e.first, e.offset, min (e.offset + e.len) x.stop - e.offset⟩] else [])
    else [⟨some (e.first + (x.searchPos - e.offset)), x.searchPos, min (e.offset + e.len) x.stop - x.searchPos⟩]

/-- The lengths of pieces together. -/
def piecesLen (ps : List Piece) : Nat := (ps.map Piece.len).sum

/-- A search step (R80). -/
def searchStep (c : Ctx) (s : State) : State :=
  let x := s.restoreCtx c
  let ps := x.found (earliest (s.extents.filter x.wants)) (Config.maxPlan - x.plan.length)
  s.setRestoreCtx c { x with
    phase := if x.phase = .claimed then .searching else x.phase
    plan := x.plan ++ ps
    searchPos := x.searchPos + piecesLen ps }

/-- The search may take a step (R77, R79). -/
def RestoreCtx.maySearch (x : RestoreCtx) : Bool :=
  x.running && !x.acceptedDue && !x.searched && decide (x.plan.length < Config.maxPlan)

/-! ### Pieces (R82 to R88) -/

/-- The target blocks of `n` blocks from position `pos` of the sequence of target runs (R82). -/
def segmentsAt : List Run → (pos n : Nat) → List Run
  | [], _, _ => []
  | t :: ts, pos, n =>
    if n = 0 then []
    else if t.len ≤ pos then segmentsAt ts (pos - t.len) n
    else ⟨t.first + pos, min n (t.len - pos)⟩ :: segmentsAt ts 0 (n - min n (t.len - pos))

/-- The one or two segments of a piece (R82). -/
def RestoreCtx.segments (x : RestoreCtx) (p : Piece) : List Run := (segmentsAt x.targets x.pos (min p.len Config.maxExtentLen)).take 2

/-- The part of a piece from its `k`-th block on (R82). -/
def Piece.rest (p : Piece) (k : Nat) : Piece := ⟨p.source.map (· + k), p.offset + k, p.len - k⟩

/-- The step answer of a piece (R88, Table 11-7). -/
def pieceAnswer (x : RestoreCtx) (kind : Nat) (p : Piece) : Answer := ⟨x.tag, x.kind, Status.restoreStep.code, kind, p.offset, p.len⟩

/-- A piece has ended normally: its step answer when STEPWISE is set, then what follows (R83, R86, R88). -/
def afterPiece (c : Ctx) (kind : Nat) (p : Piece) (s : State) : State :=
  let x := s.restoreCtx c
  if x.stepwise then stepAnswer c (pieceAnswer x kind p) s else continueRestore c s

/-- A piece is mapped onto target segments, cut where R82 cuts it, and waits at the gate (notes/assumptions/25.md). -/
def mapPiece (c : Ctx) (p : Piece) (rest : List Piece) (s : State) : State :=
  let x := s.restoreCtx c
  let segs := x.segments p
  let k := runsLen segs
  let s1 := s.setRestoreCtx c { x with
    phase := .copying
    plan := if k < p.len then p.rest k :: rest else rest
    flight := some ⟨{ p with len := k }, segs, false⟩ }
  s1.setRu { s1.ru with gateOrder := s1.ru.gateOrder ++ [c] }

/-- A HOLE piece is passed over (R83). -/
def skipHole (c : Ctx) (p : Piece) (rest : List Piece) (s : State) : State :=
  let x := s.restoreCtx c
  afterPiece c 2 p (s.setRestoreCtx c { x with phase := .copying, plan := rest, pos := x.pos + p.len })

/-- The context may take the front piece of its plan (R82, R88). -/
def RestoreCtx.mayMap (x : RestoreCtx) : Bool :=
  x.running && !x.probe && x.flight.isNone && !x.stepDue && !x.acceptedDue && !x.cancel

/-- The target offset of a piece (4.4). -/
def RestoreCtx.targetOffset (x : RestoreCtx) (p : Piece) : Nat := x.tgtOffset + (p.offset - x.srcOffset)

/-- The record of one segment of a piece (R84). -/
def RestoreCtx.segRecord (x : RestoreCtx) (birth offset : Nat) (g : Run) : Extent :=
  ⟨x.volume, g.first, g.len, x.tgtObject, offset, x.owner, x.group, birth, none, true, none, none⟩

/-- The records of a piece's segments, whose offsets follow one another (R84). -/
def RestoreCtx.pieceRecords (x : RestoreCtx) (birth : Nat) : (offset : Nat) → List Run → List Extent
  | _, [] => []
  | o, g :: gs => x.segRecord birth o g :: x.pieceRecords birth (o + g.len) gs

/-- The claim without some runs (R78). -/
def claimMinus (claim segs : List Run) : List Run := segs.foldl (fun cs g => cs.flatMap fun r => r.minus g) claim

/-- The segments of a piece's unit (R85, Table 5-2). -/
def pieceSegment (v : Vol) (source : Option Nat) (g : Run) : Segment :=
  match source with
  | some b => ⟨.aperture v [⟨b, g.len⟩], .aperture v [g], g.len⟩
  | none => ⟨.zero, .aperture v [g], g.len⟩

/-- The unit of a piece (R85). -/
def pieceUnit (c : Ctx) (v : Vol) (f : Flight) : MoverUnit :=
  match f.segs with
  | [] => ⟨.restore, c, .nothing, .nothing, false, 0, 0, 0, false⟩
  | [g] => ⟨.restore, c, pieceSegment v f.piece.source g, .nothing, false, 0, 0, 0, false⟩
  | g :: h :: _ =>
    ⟨.restore, c, pieceSegment v f.piece.source g, pieceSegment v (f.piece.source.map (· + g.len)) h, false, 0, 0, 0, false⟩

/-- The update that makes a piece's records (R84). -/
def makePiece (c : Ctx) (f : Flight) (s : State) : State :=
  let x := s.restoreCtx c
  let s1 := (x.pieceRecords ((s.vol x.volume).epoch.getD 0) (x.targetOffset f.piece) f.segs).foldl (fun t e => t.addExtent e) s
  let s2 := (leaveGate c s1).setRestoreCtx c { x with
    claim := claimMinus x.claim f.segs
    pos := x.pos + f.piece.len
    flight := some { f with created := true } }
  onOwnerGroup (fun i => chargeAccount i (s.chargeOf x.volume f.piece.len) f.segs.length) x.owner x.group s2

/-- A piece whose records are made is undone (R87): its records leave, its blocks return to the claim, and its charge is refunded. -/
def undoPiece (c : Ctx) (f : Flight) (s : State) : State :=
  let x := s.restoreCtx c
  let s1 := f.segs.foldl (fun t g => t.removeExtent x.volume g.first) s
  let s2 := s1.setRestoreCtx c { x with claim := x.claim ++ f.segs, flight := none }
  gateLook x.volume
    (onOwnerGroup (fun i => refundAccount i (s.chargeOf x.volume f.piece.len) f.segs.length) x.owner x.group s2)

/-- A RESTORE ends FAULT, its piece undone when its records are made (R87). -/
def faultRestore (c : Ctx) (s : State) : State :=
  match (s.restoreCtx c).flight with
  | some f => endRestore c .fault 0 (if f.created then undoPiece c f s else s)
  | none => endRestore c .fault 0 s

/-- The first failing check of a piece that would make its records (R84): its status. -/
def pieceRefusal (x : RestoreCtx) (f : Flight) (s : State) : Option Status :=
  if (accountKindFault s x.owner x.group).isSome then some .accountKind
  else if s.tableRoom f.segs.length = false then some .tableFull
  else (twoAccountDecision s x.owner x.group (s.chargeOf x.volume f.piece.len)).map (·.status)

/-- A piece at an OPEN gate makes its records and asks for its unit, or ends the restore PARTIAL (R84, R85). -/
def createPiece (c : Ctx) (f : Flight) (s : State) : State :=
  let x := s.restoreCtx c
  match pieceRefusal x f s with
  | some st => endRestore c .partialEnd st.code s
  | none =>
    let s1 := makePiece c f s
    match askUnit (pieceUnit c x.volume f) s1 with
    | some t => t
    | none => faultRestore c s1

/-- The context is the one that has waited longest at its volume's gate (R50; notes/assumptions/25.md). -/
def State.firstAtGate (s : State) (c : Ctx) : Bool :=
  decide (s.ru.gateOrder.find? (fun d => decide ((s.restoreCtx d).volume = (s.restoreCtx c).volume)) = some c)

/-- A piece's unit completes (R86). -/
def pieceEnd (c : Ctx) (s : State) : State :=
  let x := s.restoreCtx c
  match x.flight with
  | none => s
  | some f =>
    let s1 := f.segs.foldl (fun t g => t.updateExtent x.volume g.first fun e => { e with filling := false }) s
    let s2 := s1.setRestoreCtx c { x with
      flight := none
      copied := if f.piece.source.isSome then x.copied + f.piece.len else x.copied
      zeroed := if f.piece.source.isSome then x.zeroed else x.zeroed + f.piece.len }
    afterPiece c (if f.piece.source.isSome then 0 else 1) f.piece (gateLook x.volume s2)

/-- The other contexts that run a RESTORE end FAULT (R87), in context number order, which R87 does not give (notes/assumptions/9.md, notes/assumptions/19.md). One whose step answer still
waits has its FAULT answer wait behind it, two of one operation, which R183 does not foresee (notes/assumptions/43.md). -/
def faultRestores (s : State) : State :=
  ctxList.foldl (fun t c => if (t.restoreCtx c).running && !(t.restoreCtx c).probe then faultRestore c t else t) s

/-! ### Requests -/

/-- The range checks of a RESTORE (R75). -/
def restoreOk (p : RestoreParams) : Bool :=
  volumeOk p.volume && decide (p.count ≠ 0) && decide (p.srcOffset + p.count ≤ Config.maxBlocks) && decide (p.tgtObject ≠ 0) &&
    decide (p.tgtOffset + p.count ≤ Config.maxBlocks) && accountOk p.owner && groupOk p.group && decide (1 ≤ p.runs) && decide (p.runs ≤ 8)

/-- The context that a RESTORE takes (R77). -/
def restoreContext (r : RingNo) (tag : Nat) (p : RestoreParams) (targets : List Run) (epoch : Nat) : RestoreCtx :=
  { phase := .claimed, probe := false, ring := r, tag := tag, volume := toVol p.volume, epoch := epoch, srcObject := p.srcObject
    srcOffset := p.srcOffset, count := p.count, tgtObject := p.tgtObject, tgtOffset := p.tgtOffset, owner := p.owner, group := p.group
    stepwise := p.stepwise, zeroHoles := p.zeroHoles, targets := targets, claim := targets, pos := 0, searchPos := p.srcOffset
    plan := [], flight := none, copied := 0, zeroed := 0, buffer := p.buffer, max := 0, written := 0, cancel := false
    acceptedDue := false, stepDue := false }

/-- The context that a PROBE takes (R91). -/
def probeContext (r : RingNo) (tag : Nat) (p : ProbeParams) (epoch : Nat) : RestoreCtx :=
  { phase := .claimed, probe := true, ring := r, tag := tag, volume := toVol p.volume, epoch := epoch, srcObject := p.srcObject
    srcOffset := p.srcOffset, count := p.count, tgtObject := 0, tgtOffset := 0, owner := 0, group := none
    stepwise := p.stepwise, zeroHoles := false, targets := [], claim := [], pos := 0, searchPos := p.srcOffset
    plan := [], flight := none, copied := 0, zeroed := 0, buffer := p.buffer, max := p.max, written := 0, cancel := false
    acceptedDue := false, stepDue := false }

/-- The ACCEPTED answer of a RESTORE or PROBE becomes due; the search waits for its handing on. R77 says so of a RESTORE; the model has a PROBE wait as well
(notes/assumptions/38.md). -/
def acceptedAnswer (c : Ctx) (s : State) : State :=
  let x := s.restoreCtx c
  let d := answerDue x.ring ⟨x.tag, x.kind, Status.accepted.code, c.val, x.epoch, 0⟩ (.accepted c) s
  if d.2 then d.1 else d.1.updateCtx c fun x => { x with acceptedDue := true }

/-- A context takes its request, and the snapshot its hold (R77, R91). -/
def takeContext (c : Ctx) (x : RestoreCtx) (s : State) : State :=
  acceptedAnswer c ((placeRestoreHold x.volume x.epoch s).setRestoreCtx c x)

/-- Checks 1 to 4 of Table 4-2, with the volume states that check 3 refuses. -/
def sourceChecks (s : State) (v : Vol) (label : Nat) (stateBad : Bool) : List (Bool × Status) :=
  [ (decide ((s.vol v).state = .undefined), .noVolume),
    (decide ((s.vol v).defn.role ≠ .primary), .volumeRole),
    (stateBad, .volumeState),
    ((s.activeLabelled v label).isNone, .noSnapshot) ]

/-- Checks 6 to 10 of Table 4-2. -/
def targetChecks (s : State) (v : Vol) (count : Nat) (targets : List Run) : List (Bool × Status) :=
  [ (decide (runsLen targets < count), .shortTarget),
    (targets.any (s.outOfRange v), .outOfRange),
    (anyOverlap targets || targets.any (s.taken v), .overlap),
    (s.faulted .restore, .faultHeld),
    (s.freeCtx.isNone, .busy) ]

/-- A RESTORE whose target runs have been read is checked and accepted (R75, R76, R77; notes/assumptions/15.md). -/
def restoreRead (r : RingNo) (tag : Nat) (p : RestoreParams) (targets : List Run) (s : State) : State :=
  let q := Request.restore p
  let v := toVol p.volume
  if targets.any (fun t => decide (t.len = 0)) then refuse r tag q .badRequest s
  else
    checked r tag q (firstFailure (sourceChecks s v p.label (decide ((s.vol v).state ≠ .online)))) (fun s =>
      match accountKindFault s p.owner p.group with
      | some i => reply r tag q .accountKind i 0 0 s
      | none =>
        checked r tag q (firstFailure (targetChecks s v p.count targets)) (fun s =>
          match s.freeCtx, s.activeLabelled v p.label with
          | some c, some x => takeContext c (restoreContext r tag p targets x.epoch) s
          | _, _ => s) s) s

/-- RESTORE (4.2), with the target runs that the RIU reads from the host buffer. -/
def reqRestore (r : RingNo) (tag : Nat) (p : RestoreParams) (targets : List Run) (s : State) : State :=
  gated r tag (.restore p) (restoreOk p) (restoreRead r tag p targets) s

/-- The range checks of a PROBE (R91). -/
def probeOk (p : ProbeParams) : Bool :=
  volumeOk p.volume && decide (p.count ≠ 0) && decide (p.srcOffset + p.count ≤ Config.maxBlocks) && decide (1 ≤ p.max) &&
    decide (p.max ≤ 4096)

/-- PROBE (R91). R91 names only "a FREE context"; the model takes the lowest-numbered, as R77 does for a RESTORE (notes/assumptions/38.md). -/
def reqProbe (r : RingNo) (tag : Nat) (p : ProbeParams) (s : State) : State :=
  let q := Request.probe p
  let v := toVol p.volume
  gated r tag q (probeOk p) (fun s =>
    checked r tag q (firstFailure (sourceChecks s v p.label (decide ((s.vol v).state = .defined)) ++
      [(s.faulted .restore, .faultHeld), (s.freeCtx.isNone, .busy)])) (fun s =>
        match s.freeCtx, s.activeLabelled v p.label with
        | some c, some x => takeContext c (probeContext r tag p x.epoch) s
        | _, _ => s) s) s

/-- A context matches a CANCEL_RESTORE (R90). -/
def RestoreCtx.matchesTag (x : RestoreCtx) (target : Nat) : Bool := x.running && decide (x.tag = target)

/-- A RESTORE ends at once on a cancel, unless its piece holds records or its step answer waits (R90). A PROBE ends once its write in progress has completed: a
write is in progress while its plan holds a piece (R92; notes/assumptions/24.md). -/
def RestoreCtx.endsAtOnce (x : RestoreCtx) : Bool :=
  if x.probe then x.plan.isEmpty && !x.stepDue
  else !x.stepDue && (match x.flight with | some f => !f.created | none => true)

/-- A matched context acts on its cancel (R90). -/
def cancelContext (c : Ctx) (s : State) : State :=
  let x := s.restoreCtx c
  if x.endsAtOnce then (if x.probe then endProbe c .cancelled s else endRestore c .cancelled 0 s)
  else s.setRestoreCtx c { x with cancel := true }

/-- CANCEL_RESTORE (R90; notes/assumptions/9.md). -/
def reqCancelRestore (r : RingNo) (tag : Nat) (target : Nat) (s : State) : State :=
  let q := Request.cancelRestore target
  gated r tag q true (fun s =>
    let cs := ctxList.filter fun c => (s.restoreCtx c).matchesTag target
    if cs.isEmpty then refuse r tag q .noOperation s
    else cs.foldl (fun t c => cancelContext c t) (reply r tag q .ok cs.length 0 0 s)) s

/-! ### The commands -/

/-- RESTORE. -/
def execRestore (ring : RingNo) (tag : Nat) (p : RestoreParams) (targets : List Run) (s : State) : Host.Outcome State Fault Refusal :=
  .next (reqRestore ring tag p targets s)
/-- PROBE. -/
def execProbe (ring : RingNo) (tag : Nat) (p : ProbeParams) (s : State) : Host.Outcome State Fault Refusal :=
  .next (reqProbe ring tag p s)
/-- CANCEL_RESTORE. -/
def execCancelRestore (ring : RingNo) (tag : Nat) (target : Nat) (s : State) : Host.Outcome State Fault Refusal :=
  .next (reqCancelRestore ring tag target s)

/-- SEARCH_STEP (R79, R80). -/
def execSearchStep (ctx : Ctx) (s : State) : Host.Outcome State Fault Refusal :=
  if (s.restoreCtx ctx).maySearch then .next (searchStep ctx s) else .next s

/-- PIECE_MAP (R82, R83; notes/assumptions/4.md). -/
def execPieceMap (ctx : Ctx) (s : State) : Host.Outcome State Fault Refusal :=
  let x := s.restoreCtx ctx
  match x.plan with
  | p :: rest =>
    if x.mayMap then
      if p.source.isNone && !x.zeroHoles then .next (skipHole ctx p rest s) else .next (mapPiece ctx p rest s)
    else .next s
  | [] => .next s

/-- PIECE_CREATE: the piece proceeds at an OPEN gate, in the order of waiting (R50, R84; notes/assumptions/25.md). -/
def execPieceCreate (ctx : Ctx) (s : State) : Host.Outcome State Fault Refusal :=
  match (s.restoreCtx ctx).flight with
  | some f =>
    if f.created = false ∧ (s.snapVol (s.restoreCtx ctx).volume).closing = false ∧ s.firstAtGate ctx = true then .next (createPiece ctx f s)
    else .next s
  | none => .next s

/-- The write of the front piece of a PROBE has completed (R92). -/
def probeWritten (c : Ctx) (p : Piece) (rest : List Piece) (s : State) : State :=
  let x := s.restoreCtx c
  let y := { x with plan := rest, written := x.written + 1 }
  let s1 := (s.writeBytes (x.buffer + 24 * x.written) (pieceBytes p)).setRestoreCtx c y
  if x.stepwise && decide (y.written % 256 = 0) then
    stepAnswer c ⟨x.tag, x.kind, Status.probeStep.code, y.written, y.searchPos, 0⟩ s1
  else continueProbe c s1

/-- PROBE_PIECE_WRITE (R92; notes/assumptions/24.md). -/
def execProbePieceWrite (ctx : Ctx) (s : State) : Host.Outcome State Fault Refusal :=
  let x := s.restoreCtx ctx
  match x.plan with
  | p :: rest =>
    if x.running && x.probe && !x.stepDue && !x.acceptedDue then .next (probeWritten ctx p rest s) else .next s
  | [] => .next s

end Sys2Proof.Machine
end

