-- ==== Sys2Proof/Machine/MoverSteps.lean ====
section
/-! DEFINITION. The data mover's steps, faults and requests (chapter 5). -/

namespace Sys2Proof.Machine

/-! ### Completion (R99 to R102) -/

/-- The handing over of a SHIP unit's last piece has been taken, so that it may complete (R100). -/
def MoverUnit.shipDone (s : State) (u : MoverUnit) : Bool := decide (u.cls ≠ .ship) || decide (u.shipBytes s ≤ u.handed)

/-- The BATCH_END of a batch is handed over (R122). -/
def handEnd (seq : Nat) (d : Digest) (s : State) : State :=
  match s.ds.active with
  | some x =>
    match x.peer with
    | some p => handBatch (runFrame x p .batchEnd seq d.toNat []) s
    | none => s
  | none => s

/-- A SHIP unit completes: the batch keeps its digest and moves to AWAITING, its BATCH_END handed over (R122). The outcome of an abandoned send is discarded
(R127, R130). The batch is AWAITING at once, also while the last piece still fills the transmit holding slot and its BATCH_END waits behind it (R100, R166; notes/assumptions/51.md). -/
def shipComplete (u : MoverUnit) (s : State) : State :=
  if u.discard then s
  else
    handEnd u.seq u.digest
      (s.setDs { s.ds with outstanding := updateBatch u.seq (fun b => { b with stage := .awaiting, digest := some u.digest, timer := none }) s.ds.outstanding })

/-- The requester of a unit is told of its completion (R99). -/
def tellComplete (u : MoverUnit) (s : State) : State :=
  match u.cls with
  | .restore => pieceEnd u.num s
  | .ship => shipComplete u s
  | .land => landComplete u.num s
  | .ring => s

/-- UNIT_COMPLETE: the last segment completes, the requester is told, and the engine is granted anew (R98, R99; notes/assumptions/4.md, notes/assumptions/19.md). -/
def execUnitComplete (s : State) : Host.Outcome State Fault Refusal :=
  match s.dm.engine with
  | some u =>
    if u.onLast ∧ u.shipDone s = true then .next (grantNext (tellComplete u (releaseEngine (moveSegment u.current s))))
    else .next s
  | none => .next s

/-- SEGMENT_COMPLETE: the primary segment completes and the second begins (R99). -/
def execSegmentComplete (s : State) : Host.Outcome State Fault Refusal :=
  match s.dm.engine with
  | some u =>
    if u.onLast then .next s
    else
      let t := moveSegment u.seg1 s
      .next (t.setDm { t.dm with engine := some { u with second := true } })
  | none => .next s

/-! ### Outbound payload (R100, R101) -/

/-- The next piece of a SHIP unit's payload: 8,192 bytes, or what is left (R100). Its reads see memory at the moment the piece is handed over (notes/assumptions/34.md). -/
def MoverUnit.piece (s : State) (u : MoverUnit) : List Byte :=
  (((u.seg1.reads s).drop (u.handed / 4096)).take 2).flatMap fun a => s.readBytes a 4096

/-- The unit after a piece has been taken, its words fed to the digest (R101). -/
def MoverUnit.afterPiece (u : MoverUnit) (bs : List Byte) : MoverUnit :=
  { u with handed := u.handed + bs.length, digest := digestFeed u.digest bs }

/-- The engine's unit becomes `u`. -/
def setUnit (u : MoverUnit) (s : State) : State := s.setDm { s.dm with engine := some u }

/-- A piece enters the transmit holding slot as a BATCH_DATA frame (R166). -/
def slotPiece (u : MoverUnit) (bs : List Byte) (s : State) : State :=
  match s.ds.active with
  | some x =>
    match x.peer with
    | some p => s.setLc { s.lc with slot := some (runFrame x p .batchData u.seq u.handed bs) }
    | none => s
  | none => s

/-- SHIP_PIECE_HANDOVER: the link takes the next piece; it waits while the slot is taken, and takes and discards it at once when the send is abandoned or the link
is DOWN (R100, R168). -/
def execShipPieceHandover (s : State) : Host.Outcome State Fault Refusal :=
  match s.dm.engine with
  | some u =>
    if u.cls = .ship ∧ u.handed < u.shipBytes s then
      if u.discard || !s.lc.up then .next (setUnit (u.afterPiece (u.piece s)) s)
      else if s.lc.slot.isNone ∧ s.ds.handover.isEmpty = true then
        .next (setUnit (u.afterPiece (u.piece s)) (slotPiece u (u.piece s) s))
      else .next s
    else .next s
  | none => .next s

/-! ### Faults (R103, R105) -/

/-- The volume of an aperture end. -/
def MoveEnd.volume : MoveEnd → Option Vol
  | .aperture v _ => some v
  | _ => none

/-- The address of the confirming read of a segment: the last block written (R97). -/
def Segment.confirmAddress (s : State) (g : Segment) : Option Nat :=
  match g.dest with
  | .aperture v rs => rs.getLast?.map fun r => s.blockAddr v (r.stop - 1)
  | _ => none

/-- The access of a fault is one that the segment in progress makes: its fault record, and how many accesses had been written (R97, R103). A SHIP unit reads a piece only
after the one before it has been taken (R100; notes/assumptions/20.md). -/
def MoverUnit.faultOf (s : State) (u : MoverUnit) (a : UnitAccess) : Option (FaultRec × Nat) :=
  match a with
  | .read n written =>
    match (u.current.reads s)[n]?, u.current.source.volume with
    | some x, some v =>
      if u.cls = .ship ∧ ¬(u.handed ≤ 4096 * n ∧ 4096 * n < u.handed + 8192) then none
      else some (⟨true, x, .read, .volume v, false⟩, min written n)
    | _, _ => none
  | .confirm =>
    match u.current.confirmAddress s, u.current.dest.volume with
    | some x, some v => some (⟨true, x, .confirm, .volume v, false⟩, (u.current.writes s).length)
    | _, _ => none

/-- The requesters of a class are told of its fault (R87, R105, R149). -/
def tellFault (u : MoverUnit) (s : State) : State :=
  match u.cls with
  | .restore => faultRestores (faultRestore u.num s)
  | .ship => endRun outboundMoverFault 0 true s
  | .land => abortAll inboundMoverFault true (landGone u.num s)
  | .ring => s

/-- A class is faulted (R103): its record, its entries in the waiting set, the notice, the engine, and its requesters (notes/assumptions/19.md). -/
def faultClass (u : MoverUnit) (f : FaultRec) (s : State) : State :=
  let s1 := s.setFaultRec u.cls f
  let s2 := s1.setDm { s1.dm with waiting := s1.dm.waiting.filter (fun w => decide (w.cls ≠ u.cls)), engine := none }
  grantNext (tellFault u (raise .moverFault u.cls.code 0 s2))

/-- MOVER_ACCESS_FAULT (R103). -/
def execMoverAccessFault (a : UnitAccess) (s : State) : Host.Outcome State Fault Refusal :=
  match s.dm.engine with
  | some u =>
    match u.faultOf s a with
    | some f => .next (faultClass u f.1 (moveAccesses u.current f.2 s))
    | none => .next s
  | none => .next s

/-! ### Requests (R107, R108) -/

/-- The classes by their codes. -/
def moverClasses : List MoverClass := [.restore, .ship, .land, .ring]

/-- The bits of a flag of the fault record, from bit `i` on (Table 11-8). -/
def faultBits (s : State) (p : FaultRec → Bool) (i : Nat) : Nat := (moverClasses.map fun k => flagBit (p (s.faultRec k)) (i + k.code)).sum

/-- A of QUERY_MOVER (Table 11-8). -/
def moverWord (s : State) : Nat :=
  faultBits s FaultRec.fault 0 + faultBits s FaultRec.further 4 +
    (match s.dm.engine with | some u => 256 + 512 * u.cls.code | none => 0) + 2048 * s.dm.pointer.code + 65536 * s.dm.waiting.length

/-- QUERY_MOVER (R107). -/
def reqQueryMover (r : RingNo) (tag : Nat) (cls : Nat) (s : State) : State :=
  let q := Request.queryMover cls
  gated r tag q (MoverClass.ofCode cls).isSome (fun s =>
    match MoverClass.ofCode cls with
    | none => refuse r tag q .badRequest s
    | some k =>
      let f := s.faultRec k
      if f.fault then reply r tag q .ok (moverWord s) f.address (f.access.code + 256 * f.target.code) s
      else reply r tag q .ok (moverWord s) 0 0 s) s

/-- The fault record of a class is cleared; the run queue is to be looked at when it is SHIP's (R108, R114). -/
def clearFault (k : MoverClass) (s : State) : State :=
  let s1 := s.setFaultRec k .clear
  if k = .ship then s1.setDs { s1.ds with lookDue := true } else s1

/-- FAULT_CLEAR (R108). -/
def reqFaultClear (r : RingNo) (tag : Nat) (cls : Nat) (s : State) : State :=
  let q := Request.faultClear cls
  gated r tag q (MoverClass.ofCode cls).isSome (fun s =>
    match MoverClass.ofCode cls with
    | none => refuse r tag q .badRequest s
    | some k => if s.faulted k then reply r tag q .ok 1 0 0 (clearFault k s) else reply r tag q .ok 0 0 0 s) s

/-- QUERY_MOVER. -/
def execQueryMover (ring : RingNo) (tag : Nat) (cls : Nat) (s : State) : Host.Outcome State Fault Refusal :=
  .next (reqQueryMover ring tag cls s)
/-- FAULT_CLEAR. -/
def execFaultClear (ring : RingNo) (tag : Nat) (cls : Nat) (s : State) : Host.Outcome State Fault Refusal :=
  .next (reqFaultClear ring tag cls s)

end Sys2Proof.Machine
end

