-- ==== Sys2Proof/Machine/Release.lean ====
section
/-! DEFINITION. TAKE_RELEASED and the retries of waiting producers (3.7). -/

namespace Sys2Proof.Machine

/-- A waiting commit scan retries its append (R66, R151). -/
def commitRetry (v : Vol) (c : Ctx) (s : State) : Option State :=
  match s.recordAt v (s.inCtx c).cursor with
  | some e => (commitRecord c e s).map (moveCursor c e.stop)
  | none => some s

/-- A waiting rollback scan retries its append (R66, R153). -/
def rollbackRetry (v : Vol) (c : Ctx) (s : State) : Option State :=
  match s.recordAt v (s.inCtx c).cursor with
  | some e => (rollbackRecord e s).map (moveCursor c e.stop)
  | none => some s

/-- A waiting REPLICA_RESET retries its append (R66, R154). -/
def resetRetry (v : Vol) (s : State) : Option State :=
  match (s.replVol v).reset with
  | some j => resetAppend v j s
  | none => some s

/-- A waiting producer retries; `none` when the list is full again (R66). -/
def retryProducer (v : Vol) (p : Producer) (s : State) : Option State :=
  match p with
  | .trim => trimRetry v s
  | .commit c => commitRetry v c s
  | .rollback c => rollbackRetry v c s
  | .reset => resetRetry v s

/-- A waiting producer retries: it leaves the waiting producers when its append succeeds, and keeps its place otherwise (R66; notes/assumptions/36.md). -/
def retryOne (v : Vol) (s : State) (p : Producer) : State :=
  match retryProducer v p s with
  | some t => producerLeave v p t
  | none => s

/-- The waiting producers retry in the order they began to wait (R66; notes/assumptions/36.md). -/
def retryProducers (v : Vol) (s : State) : State := (s.snapVol v).producers.foldl (retryOne v) s

/-- The range checks of TAKE_RELEASED (R67). -/
def takeReleasedOk (p : TakeReleasedParams) : Bool := volumeOk p.volume && decide (1 ≤ p.max) && decide (p.max ≤ 4096)

/-- TAKE_RELEASED is taken (R67): its writes begin, or an empty list is answered at once. -/
def reqTakeReleased (r : RingNo) (tag : Nat) (p : TakeReleasedParams) (s : State) : State :=
  let q := Request.takeReleased p
  let v := toVol p.volume
  gated r tag q (takeReleasedOk p) (fun s =>
    checked r tag q (firstFailure
      [ (decide ((s.vol v).state = .undefined), .noVolume),
        ((s.snapVol v).taking.isSome, .busy) ]) (fun s =>
      let x := s.snapVol v
      if x.release.isEmpty then reply r tag q .ok 0 0 0 s
      else s.setSnapVol v { x with taking := some ⟨r, tag, p.buffer, min p.max x.release.length⟩ }) s) s

/-- The writes of a TAKE_RELEASED complete (R67): the entries leave the list, the answer is due, and the waiting producers retry (notes/assumptions/9.md). -/
def takeComplete (v : Vol) (t : Taking) (s : State) : State :=
  let x := s.snapVol v
  let rs := x.release.take t.count
  let left := x.release.drop t.count
  let s1 := (s.writeBytes t.buffer (rs.flatMap runBytes)).setSnapVol v { x with release := left, taking := none }
  retryProducers v (answer t.ring ⟨t.tag, 0x22, Status.ok.code, rs.length, left.length, runsLen rs⟩ s1)

/-- TAKE_RELEASED: its taking, or the completion of its writes. -/
def execTakeReleased (t : TakeStep) (s : State) : Host.Outcome State Fault Refusal :=
  match t with
  | .request ring tag p => .next (reqTakeReleased ring tag p s)
  | .writesComplete volume =>
    match (s.snapVol volume).taking with
    | some t => .next (takeComplete volume t s)
    | none => .next s

end Sys2Proof.Machine
end

