-- ==== Sys2Proof/Machine/Records.lean ====
section
/-! DEFINITION. The 64-byte request record (Tables 11-1 to 11-3, R203): reading it, and writing the record of a request. -/

namespace Sys2Proof.Machine

/-- A flag bit of a number. -/
def bitOf (n i : Nat) : Bool := decide (n / 2 ^ i % 2 = 1)

/-- An optional field: present when its flag bit is set. -/
def optional (present : Bool) (n : Nat) : Option Nat := if present then some n else none

/-- The fields that CHARGE and LOAD_EXTENT share, from offset 10 on. -/
def readCharge (b : List Byte) : ChargeParams :=
  ⟨field b 10 1, field b 11 6, field b 17 2, field b 19 6, field b 25 6, field b 31 4, optional (bitOf (field b 9 1) 0) (field b 35 4)⟩

/-- The request that a record of this kind holds (R203): its parameters from offset 10 onward in the order its rule lists them, at the widths of Table 11-1; `none`
for a kind that Table 11-5 does not list. -/
def readRequest (b : List Byte) : Option Request :=
  let f := field b 9 1
  let n := fun o w => field b o w
  match field b 8 1 with
  | 0x01 => some (.charge (readCharge b))
  | 0x02 => some (.split ⟨n 10 1, n 11 6, n 17 2⟩)
  | 0x03 => some (.drop ⟨n 10 1, n 11 6⟩)
  | 0x04 => some (.queryExtent ⟨n 10 1, n 11 6, n 17 8⟩)
  | 0x05 => some (.queryVolume (n 10 1))
  | 0x06 => some (.loadSnapshot ⟨n 10 1, n 11 4, n 15 8, n 23 4, bitOf f 4⟩)
  | 0x07 => some (.loadExtent ⟨readCharge b, n 39 4, optional (bitOf f 1) (n 43 4), optional (bitOf f 2) (n 47 6)⟩)
  | 0x08 => some (.openVolume ⟨n 10 1, n 11 4⟩)
  | 0x09 => some (.sealVolume (n 10 1))
  | 0x0A => some (.unsealVolume (n 10 1))
  | 0x0B => some (.scanOut ⟨n 10 1, n 11 1, n 12 8, n 20 2, n 22 8⟩)
  | 0x10 => some (.setLimit ⟨n 10 4, n 14 6, n 20 1, n 21 4, bitOf f 4⟩)
  | 0x11 => some (.loadAccount ⟨n 10 4, n 14 1, n 15 6, n 21 1, n 22 4, bitOf f 4, optional (bitOf f 3) (n 26 4)⟩)
  | 0x12 => some (.dropAccount (n 10 4))
  | 0x13 => some (.queryAccount ⟨n 10 4, n 14 8⟩)
  | 0x14 => some (.setClock (n 10 4))
  | 0x20 => some (.snapshotCreate ⟨n 10 1, n 11 8⟩)
  | 0x21 => some (.snapshotRetire ⟨n 10 1, n 11 8⟩)
  | 0x22 => some (.takeReleased ⟨n 10 1, n 11 8, n 19 2⟩)
  | 0x30 => some (.restore ⟨n 10 1, n 11 8, n 19 6, n 25 6, n 31 4, n 35 6, n 41 6, n 47 4, optional (bitOf f 0) (n 51 4), n 55 8, n 63 1,
      bitOf f 4, bitOf f 5⟩)
  | 0x31 => some (.probe ⟨n 10 1, n 11 8, n 19 6, n 25 6, n 31 4, n 35 8, n 43 2, bitOf f 4⟩)
  | 0x32 => some (.cancelRestore (n 10 8))
  | 0x38 => some (.queryMover (n 10 1))
  | 0x39 => some (.faultClear (n 10 1))
  | 0x40 => some (.runStart ⟨n 10 1, n 11 8, bitOf f 4, bitOf f 5⟩)
  | 0x41 => some (.runCancel (n 10 1))
  | 0x42 => some (.queryRun (n 10 1))
  | 0x48 => some (.giveRuns ⟨n 10 1, n 11 8, n 19 2⟩)
  | 0x49 => some (.replicaReset (n 10 1))
  | 0x4A => some (.queryInbound (n 10 1))
  | 0x50 => some (.queryPeer (n 10 1))
  | 0x60 => some (.storeStage ⟨n 10 1, n 11 1, (b.drop 12).take 32⟩)
  | 0x61 => some (.storeCommit ⟨n 10 1, n 11 1⟩)
  | 0x62 => some .storeVerify
  | 0x63 => some (.storeRead ⟨n 10 1, n 11 8⟩)
  | 0x64 => some .applyDefinitions
  | 0x65 => some .format
  | _ => none

/-- The flags byte of a request (Table 11-3). -/
def requestFlags : Request → Nat
  | .charge p => flagBit p.group.isSome 0
  | .loadExtent p => flagBit p.charge.group.isSome 0 + flagBit p.death.isSome 1 + flagBit p.source.isSome 2
  | .loadSnapshot p => flagBit p.base 4
  | .setLimit p => flagBit p.privileged 4
  | .loadAccount p => flagBit p.deadline.isSome 3 + flagBit p.privileged 4
  | .restore p => flagBit p.group.isSome 0 + flagBit p.stepwise 4 + flagBit p.zeroHoles 5
  | .probe p => flagBit p.stepwise 4
  | .runStart p => flagBit p.newSnapshot 4 + flagBit p.full 5
  | _ => 0

/-- The packed fields of CHARGE (R203). -/
def chargeBytes (p : ChargeParams) : List Byte :=
  le 1 p.volume ++ le 6 p.first ++ le 2 p.len ++ le 6 p.object ++ le 6 p.offset ++ le 4 p.owner ++ le 4 (p.group.getD 0)

/-- The packed parameters of a request (R203). -/
def requestParams : Request → List Byte
  | .charge p => chargeBytes p
  | .split p => le 1 p.volume ++ le 6 p.first ++ le 2 p.k
  | .drop p => le 1 p.volume ++ le 6 p.first
  | .queryExtent p => le 1 p.volume ++ le 6 p.block ++ le 8 p.buffer
  | .queryVolume v => le 1 v
  | .loadSnapshot p => le 1 p.volume ++ le 4 p.epoch ++ le 8 p.label ++ le 4 p.createdAt
  | .loadExtent p => chargeBytes p.charge ++ le 4 p.birth ++ le 4 (p.death.getD 0) ++ le 6 (p.source.getD 0)
  | .openVolume p => le 1 p.volume ++ le 4 p.epoch
  | .sealVolume v => le 1 v
  | .unsealVolume v => le 1 v
  | .scanOut p => le 1 p.volume ++ le 1 p.what ++ le 8 p.buffer ++ le 2 p.max ++ le 8 p.key
  | .setLimit p => le 4 p.account ++ le 6 p.hard ++ le 1 p.margin ++ le 4 p.grace
  | .loadAccount p => le 4 p.account ++ le 1 p.kind ++ le 6 p.hard ++ le 1 p.margin ++ le 4 p.grace ++ le 4 (p.deadline.getD 0)
  | .dropAccount i => le 4 i
  | .queryAccount p => le 4 p.account ++ le 8 p.buffer
  | .setClock n => le 4 n
  | .snapshotCreate p => le 1 p.volume ++ le 8 p.label
  | .snapshotRetire p => le 1 p.volume ++ le 8 p.label
  | .takeReleased p => le 1 p.volume ++ le 8 p.buffer ++ le 2 p.max
  | .restore p =>
    le 1 p.volume ++ le 8 p.label ++ le 6 p.srcObject ++ le 6 p.srcOffset ++ le 4 p.count ++ le 6 p.tgtObject ++ le 6 p.tgtOffset ++
      le 4 p.owner ++ le 4 (p.group.getD 0) ++ le 8 p.buffer ++ le 1 p.runs
  | .probe p => le 1 p.volume ++ le 8 p.label ++ le 6 p.srcObject ++ le 6 p.srcOffset ++ le 4 p.count ++ le 8 p.buffer ++ le 2 p.max
  | .cancelRestore t => le 8 t
  | .queryMover c => le 1 c
  | .faultClear c => le 1 c
  | .runStart p => le 1 p.volume ++ le 8 p.label
  | .runCancel v => le 1 v
  | .queryRun v => le 1 v
  | .giveRuns p => le 1 p.volume ++ le 8 p.buffer ++ le 2 p.count
  | .replicaReset v => le 1 v
  | .queryInbound v => le 1 v
  | .queryPeer i => le 1 i
  | .storeStage p => le 1 p.offset ++ le 1 p.count ++ p.data
  | .storeCommit p => le 1 p.page ++ le 1 p.op
  | .storeVerify => []
  | .storeRead p => le 1 p.page ++ le 8 p.buffer
  | .applyDefinitions => []
  | .format => []

/-- The 64-byte record of a request (Table 11-2), with zeros after its last parameter. -/
def requestBytes (tag : Nat) (q : Request) : List Byte :=
  let head := le 8 tag ++ le 1 (kindCode q) ++ le 1 (requestFlags q) ++ requestParams q
  head ++ zeros (64 - head.length)

/-- The target run that 16 bytes of a RESTORE's buffer hold (Table 11-9). -/
def readTarget (b : List Byte) : Run := ⟨field b 0 8, field b 8 8⟩

/-- The target runs that the RIU reads for a RESTORE (R75, Table 11-9). -/
def State.targetRuns (s : State) (buffer n : Nat) : List Run := (cutRecords 16 n (s.readBytes buffer (16 * n))).map readTarget

/-- The runs that the RIU reads for a GIVE_RUNS (R145, Table 11-9). -/
def State.givenRuns (s : State) (buffer n : Nat) : List Run := (cutRecords 8 n (s.readBytes buffer (8 * n))).map readRun

end Sys2Proof.Machine
end

