-- ==== Sys2Proof/Machine/Store.lean ====
section
/-! DEFINITION. The Policy Store (chapter 10): pages, commits, verification, definitions and FORMAT. -/

namespace Sys2Proof.Machine

/-! ### Pages (R190, R191, R195) -/

/-- The byte of the store at place `a`: 256 times the page plus the place in it; an unlisted byte is 0xFF (R190). -/
def Ps.byte (x : Ps) (a : Nat) : Byte := sparseGet 0xFF x.pages a

/-- The byte as the part's own readers find it: a page under a commit reads as free bytes of the `n`-th open run (R194; notes/assumptions/5.md). -/
def Ps.seen (x : Ps) (n a : Nat) : Byte :=
  match x.commit with
  | some c => if a / 256 = c.page then Config.freeByte n (a % 256) else x.byte a
  | none => x.byte a

/-- The `k` bytes of the store from place `a` on, as the part's readers find them. -/
def Ps.bytes (x : Ps) (n a k : Nat) : List Byte := (List.range k).map fun i => x.seen n (a + i)

/-- The 256 bytes of a page. -/
def Ps.page (x : Ps) (n p : Nat) : List Byte := x.bytes n (256 * p) 256

/-- The computed CRC over pages 0 to 21 (R195). -/
def Ps.crc (x : Ps) (n : Nat) : Nat := crc16 (x.bytes n 0 5632)

/-- The stored CRC in page 22 (R195). -/
def Ps.storedCrc (x : Ps) (n : Nat) : Nat := ofLe (x.bytes n 5632 2)

/-- The store verifies (R195). -/
def Ps.verifies (x : Ps) (n : Nat) : Bool := decide (x.crc n = x.storedCrc n)

/-- The lock byte reads 0x00 (R191, Table 11-11). -/
def Ps.lockNow (x : Ps) : Bool := decide (x.byte 38 = 0)

/-- The staging byte at place `i` (R192). -/
def Ps.staged (x : Ps) (i : Nat) : Byte := sparseGet 0xFF x.staging i

/-- Bytes written into a sparse page table from place `a` on. -/
def putBytes (m : List Host.Cell) (a : Nat) : List Byte → List Host.Cell
  | [] => m
  | b :: bs => putBytes (sparseSet 0xFF m a b) (a + 1) bs

/-! ### Commits (R193, R194) -/

/-- The byte that an operation should give at place `i` of its page (R190, R194). -/
def commitByte (x : Ps) (c : Commit) (i : Nat) : Byte :=
  match c.op with
  | .erase => 0xFF
  | .program => x.byte (256 * c.page + i) &&& x.staged i
  | .eraseProgram => x.staged i

/-- The 256 bytes that an operation should give. -/
def commitBytes (x : Ps) (c : Commit) : List Byte := (List.range 256).map (commitByte x c)

/-- The bytes of a page as it reads back, given the places that do not read as they should. -/
def readBack (bs : List Byte) (misread : List (Nat × Byte)) : List Byte := misread.foldl (fun l m => l.set m.1 m.2) bs

/-- The bytes that did not read back as they should (R194). -/
def mismatches (a b : List Byte) : Nat := ((a.zip b).filter fun x => decide (x.1 ≠ x.2)).length

/-- The store after a commit's page has taken its bytes: the commit is over and the lock is set afresh (R191, R194). -/
def Ps.committed (x : Ps) (c : Commit) (bs : List Byte) : Ps :=
  let y := { x with pages := putBytes x.pages (256 * c.page) bs, commit := none }
  { y with locked := y.lockNow }

/-- The end of a commit (R194). -/
def commitOver (c : Commit) (misread : List (Nat × Byte)) (s : State) : State :=
  let good := commitBytes s.ps c
  let bs := readBack good misread
  let x := s.ps.committed c bs
  answerIf c.answer (fun tag => ⟨tag, 0x61, Status.done.code, mismatches good bs, x.crc 0, x.storedCrc 0⟩) (s.setPs x)

/-- STORE_COMMIT_END: the operation ends and the page is read back (R194). -/
def execStoreCommitEnd (misread : List (Nat × Byte)) (s : State) : Host.Outcome State Fault Refusal :=
  match s.ps.commit with
  | some c => .next (commitOver c misread s)
  | none => .next s

/-! ### Definitions (R197) -/

/-- The role a page's code names. -/
def roleOf (n : Nat) : Role := if n = 1 then .primary else if n = 2 then .replica else .unused

/-- The fields of a PRIMARY or REPLICA page are good (R197); the landing fields of a PRIMARY page are not used (notes/assumptions/23.md). -/
def volumePageOk (b : List Byte) : Bool :=
  let k := field b 1 1
  [4, 8, 16, 32, 64].contains k && decide (1 ≤ field b 8 8) && decide (field b 8 8 ≤ Config.maxBlocks) &&
    decide (field b 16 8 % (k * 1024) = 0) && decide (field b 24 8 ≤ Config.max48) && decide (field b 3 1 ≤ 7) &&
    (decide (roleOf (field b 0 1) ≠ .replica) || (decide (field b 32 8 ≤ Config.max48) && decide (field b 4 1 ≤ 7)))

/-- The definition that a volume page holds (R197, Table 11-11). -/
def volumeDefOf (b : List Byte) : VolumeDef :=
  let role := roleOf (field b 0 1)
  let peerOk := decide (role = .primary) && decide (field b 5 1 ≤ 3) && decide (field b 6 1 ≤ 15)
  if role = .unused ∨ volumePageOk b = false then .unused
  else
    { role := role, blockKiB := field b 1 1, blockCount := field b 8 8, aperture := field b 16 8, reserveLimit := field b 24 8
      reserveMargin := field b 3 1, autoTrim := decide (field b 2 1 = 1)
      peer := if peerOk then some (field b 5 1) else none
      remote := if peerOk then some (field b 6 1) else none
      landingLimit := if role = .replica then field b 32 8 else 0
      landingMargin := if role = .replica then field b 4 1 else 0 }

/-- The definition of volume `v` in the store. -/
def Ps.volumeDef (x : Ps) (n : Nat) (v : Vol) : VolumeDef := volumeDefOf (x.page n (1 + v.val))

/-- The peer entry that a peer page holds (R197). -/
def peerOf (b : List Byte) : Peer := ⟨field b 0 6, field b 6 4, decide (field b 10 1 = 1), false⟩

/-- A timeout limited to its range (R171). -/
def limitTo (lo hi n : Nat) : Nat := max lo (min n hi)

/-- The duplication settings that page 21 holds (R171, R197). -/
def settingsOf (b : List Byte) : Settings :=
  let hoursOk := decide (field b 4 1 ≤ 23) && decide (field b 5 1 ≤ 23)
  { pDay := field b 0 2, pNight := field b 2 2
    nightStart := if hoursOk then field b 4 1 else 0
    nightEnd := if hoursOk then field b 5 1 else 0
    receiptTimeout := limitTo 5 600 (field b 6 2)
    idleTimeout := limitTo 30 3600 (field b 8 2) }

/-- The accounts that a definition gives its volume (R23). -/
def definedAccount (k : AccountKind) (hard margin : Nat) : Account := ⟨k, 0, hard, margin, 0, none, .under, false, 0⟩

/-- Accounts v and v+16 follow a definition (R23). -/
def setVolumeAccounts (v : Vol) (d : VolumeDef) (s : State) : State :=
  match d.role with
  | .unused => (s.setAccount (reserveIndex v) .none).setAccount (landingIndex v) .none
  | .primary =>
    (s.setAccount (reserveIndex v) (definedAccount .reserve d.reserveLimit d.reserveMargin)).setAccount (landingIndex v) .none
  | .replica =>
    (s.setAccount (reserveIndex v) (definedAccount .reserve d.reserveLimit d.reserveMargin)).setAccount (landingIndex v)
      (definedAccount .landing d.landingLimit d.landingMargin)

/-- The volume record that a definition gives (R5, R22). -/
def VolumeDef.record (d : VolumeDef) : Volume := if d.role = .unused then .undefined else ⟨.defined, d, none, none, none⟩

/-- A landing pool is emptied by a change of definition (R198). -/
def VolumeDef.repools (d old : VolumeDef) : Bool :=
  decide (d.role ≠ old.role) || decide (d.blockKiB ≠ old.blockKiB) || decide (d.blockCount ≠ old.blockCount)

/-- A volume takes a definition (R23, R198). -/
def takeDefinition (v : Vol) (d : VolumeDef) (s : State) : State :=
  let s1 := if d.repools (s.vol v).defn then s.setReplVol v { s.replVol v with pool := [], takeMark := 0 } else s
  setVolumeAccounts v d (s1.setVol v d.record)

/-- A volume that takes definitions: UNDEFINED, or DEFINED and empty (R5, R198). -/
def State.takesDefinition (s : State) (v : Vol) : Bool :=
  decide ((s.vol v).state = .undefined) || (decide ((s.vol v).state = .defined) && s.volumeEmpty v)

/-- A peer entry takes its decoded values; its frame-error flag is cleared when its address or peer id changes (R161, R198). -/
def takePeer (old new : Peer) : Peer :=
  { new with frameError := decide (old.address = new.address) && decide (old.id = new.id) && old.frameError }

/-- The peer table, the local peer id and the EtherType take the store's values; `keep` keeps unchanged entries' frame-error flags (R161, R173, R198). -/
def takeLink (keep : Bool) (x : Ps) (n : Nat) (s : State) : State :=
  s.setLc { s.lc with
    peers := Vector.ofFn fun i : Fin 4 =>
      let new := peerOf (x.page n (17 + i.val))
      if keep then takePeer s.lc.peers[i] new else new
    localId := field (x.page n 0) 32 4
    etherType := field (x.page n 0) 36 2 }

/-- Page 21's values take effect (R124, R171, R198). -/
def takeSettings (x : Ps) (n : Nat) (s : State) : State := reexamine (s.setDs { s.ds with settings := settingsOf (x.page n 21) })

/-- Every definition of a store that verifies takes effect (R200 step 3, R202). -/
def takeAllDefinitions (n : Nat) (s : State) : State :=
  let s1 := volList.foldl (fun t v => takeDefinition v (s.ps.volumeDef n v) t) s
  takeSettings s.ps n (takeLink false s.ps n s1)

/-! ### Requests (R192 to R198) -/

/-- The range checks of STORE_STAGE (R192). -/
def storeStageOk (p : StoreStageParams) : Bool := decide (1 ≤ p.count) && decide (p.count ≤ 32) && decide (p.offset + p.count ≤ 256)

/-- STORE_STAGE (R192). -/
def reqStoreStage (r : RingNo) (tag : Nat) (p : StoreStageParams) (s : State) : State :=
  let q := Request.storeStage p
  gated r tag q (storeStageOk p) (fun s =>
    if s.ps.commit.isSome then refuse r tag q .busy s
    else
      reply r tag q .ok (p.offset + p.count) 0 0
        (s.setPs { s.ps with staging := putBytes s.ps.staging p.offset (p.data.take p.count) })) s

/-- The checks of STORE_COMMIT after its form (R193). -/
def storeCommitRefusal (p : StoreCommitParams) (op : CommitOp) (s : State) : Option Status :=
  let erases0 := decide (op ≠ .program) && decide (p.page = 0)
  firstFailure
    [ (s.ps.commit.isSome, .busy),
      (erases0 && !s.strap, .serviceRequired),
      (s.ps.locked && decide (p.page ≤ 22) && !erases0, .locked) ]

/-- STORE_COMMIT (R193). -/
def reqStoreCommit (r : RingNo) (tag : Nat) (p : StoreCommitParams) (s : State) : State :=
  let q := Request.storeCommit p
  gated r tag q (decide (p.page ≤ 63) && (CommitOp.ofCode p.op).isSome) (fun s =>
    match CommitOp.ofCode p.op with
    | none => refuse r tag q .badRequest s
    | some op =>
      checked r tag q (storeCommitRefusal p op s) (fun s =>
        reply r tag q .accepted 0 0 0 (s.setPs { s.ps with commit := some ⟨p.page, op, some (r, tag)⟩ })) s) s

/-- STORE_VERIFY (R195). -/
def reqStoreVerify (r : RingNo) (tag : Nat) (s : State) : State :=
  let q := Request.storeVerify
  gated r tag q true (fun s =>
    if s.ps.commit.isSome then refuse r tag q .busy s
    else reply r tag q (if s.ps.verifies 0 then .good else .bad) 0 (s.ps.crc 0) (s.ps.storedCrc 0) s) s

/-- The bytes that a STORE_READ writes, or its refusal (R196). -/
def storeReadFound (p : StoreReadParams) (s : State) : Status ⊕ List Byte :=
  if s.ps.commit.map Commit.page = some p.page then .inl .busy
  else if p.page = 64 then .inr ((List.range 256).map s.ps.staged)
  else .inr (s.ps.page 0 p.page)

/-- STORE_READ (R196). -/
def reqStoreRead (r : RingNo) (tag : Nat) (p : StoreReadParams) (s : State) : State :=
  let q := Request.storeRead p
  gated r tag q (decide (p.page ≤ 64)) (fun s =>
    match storeReadFound p s with
    | .inl st => refuse r tag q st s
    | .inr bs =>
      reply r tag q .ok p.page (if s.ps.locked then 1 else 0) (if s.ps.safe then 1 else 0) (s.writeBytes p.buffer bs)) s

/-- A 16-bit mask of volumes, bit v for volume v (R198). -/
def volumeMask (p : Vol → Bool) : Nat := (volList.map fun v => flagBit (p v) v.val).sum

/-- The acceptance of APPLY_DEFINITIONS (R198). -/
def applyAccept (s : State) : State :=
  let s1 := volList.foldl (fun t v => if s.takesDefinition v then takeDefinition v (s.ps.volumeDef 0 v) t else t) s
  takeSettings s.ps 0 (takeLink true s.ps 0 s1)

/-- The refusals of APPLY_DEFINITIONS in their order (R198); the store is verified first, in a FORMAT as well (notes/assumptions/48.md), a page under a
commit reading as free bytes (R194; notes/assumptions/22.md). -/
def applyRefusal (s : State) : Option Status :=
  firstFailure
    [ (!s.ps.verifies s.free, .storeBad),
      (s.ps.commit.isSome || s.ps.format.isSome, .busy) ]

/-- APPLY_DEFINITIONS (R198; notes/assumptions/22.md). -/
def reqApplyDefinitions (r : RingNo) (tag : Nat) (s : State) : State :=
  let q := Request.applyDefinitions
  gated r tag q true (fun s =>
    match applyRefusal s with
    | some st => refuse r tag q st (if s.ps.commit.isSome then s.setFree (s.free + 1) else s)
    | none =>
      reply r tag q .ok (volList.filter s.takesDefinition).length (volumeMask s.takesDefinition)
        (volumeMask fun v => !s.takesDefinition v && decide (s.ps.volumeDef 0 v ≠ (s.vol v).defn)) (applyAccept s)) s

/-! ### FORMAT (R201, R202) -/

/-- The cases in which FORMAT is refused BUSY (R201). The engine is not among them, so the SHIP unit of an ended run may still hold it, which R109 leaves out; the unit then runs on
(notes/assumptions/42.md). -/
def State.formatBusy (s : State) : Bool :=
  s.ps.format.isSome || ctxList.any (fun c => decide ((s.restoreCtx c).phase ≠ .free)) || s.ds.active.isSome ||
    ctxList.any (fun c => decide ((s.inCtx c).state ≠ .free)) || volList.any (fun v => (s.replVol v).reset.isSome) ||
    volList.any (fun v => !(s.snapVol v).retire.isEmpty) || volList.any (fun v => (s.snapVol v).taking.isSome)

/-- Every queued run ends as RUN_CANCEL would end it (R134). -/
def cancelQueued (s : State) : State :=
  s.ds.queue.foldl (fun t x => answer x.ring (cancelledAnswer x) (releaseQueued x t)) (s.setDs { s.ds with queue := [] })

/-- A volume record after FORMAT (R22). -/
def Volume.formatted (x : Volume) : Volume :=
  { x with state := if x.state = .undefined then .undefined else .defined, epoch := none, baseLabel := none, seen := none }

/-- The account table after FORMAT: accounts 0 to 31 as R23 gives from the definition each volume holds, every other NONE (R46). -/
def formatAccounts (s : State) : State :=
  volList.foldl (fun t v => setVolumeAccounts v (if (t.vol v).state = .undefined then .unused else (t.vol v).defn) t)
    (s.setQu { s.qu with accounts := [], timers := [] })

/-- The acceptance of a FORMAT, as one update (R201). -/
def formatAccept (r : RingNo) (tag : Nat) (s : State) : State :=
  let records := s.extents.length
  let snaps := (volList.map fun v => (s.snapVol v).snaps.length).sum
  let s1 := cancelQueued s
  let s2 := s1.setEtu ⟨[], s1.etu.vols.map Volume.formatted⟩
  let s3 := s2.setSu ⟨Vector.replicate 16 .empty⟩
  let s4 := s3.setDr { s3.dr with vols := Vector.replicate 16 .empty }
  let s5 := formatAccounts s4
  s5.setPs { s5.ps with format := some ⟨some (r, tag), records, snaps⟩ }

/-- FORMAT (R201; notes/assumptions/9.md). -/
def reqFormat (r : RingNo) (tag : Nat) (s : State) : State :=
  let q := Request.format
  gated r tag q true (fun s =>
    if s.strap = false then refuse r tag q .serviceRequired s
    else if s.formatBusy then refuse r tag q .busy s
    else reply r tag q .accepted 0 0 0 (formatAccept r tag s)) s

/-- FORMAT brings a part in SAFE state up when its store verifies (R202; notes/assumptions/22.md). -/
def leaveSafe (s : State) : State :=
  if s.ps.safe then
    let s1 := if s.ps.commit.isSome then s.setFree (s.free + 1) else s
    if s.ps.verifies s.free then
      let t := takeAllDefinitions s.free s1
      t.setPs { t.ps with safe := false }
    else s1
  else s

/-- FORMAT_END: the reclaiming ends (R202). -/
def execFormatEnd (s : State) : Host.Outcome State Fault Refusal :=
  match s.ps.format with
  | some j =>
    let t := leaveSafe (s.setPs { s.ps with format := none })
    .next (answerIf j.answer (fun tag => ⟨tag, 0x65, Status.done.code, if t.ps.safe then 1 else 0, j.records, j.snaps⟩) t)
  | none => .next s

/-! ### The commands -/

/-- STORE_STAGE. -/
def execStoreStage (ring : RingNo) (tag : Nat) (p : StoreStageParams) (s : State) : Host.Outcome State Fault Refusal :=
  .next (reqStoreStage ring tag p s)
/-- STORE_COMMIT. -/
def execStoreCommit (ring : RingNo) (tag : Nat) (p : StoreCommitParams) (s : State) : Host.Outcome State Fault Refusal :=
  .next (reqStoreCommit ring tag p s)
/-- STORE_VERIFY. -/
def execStoreVerify (ring : RingNo) (tag : Nat) (s : State) : Host.Outcome State Fault Refusal :=
  .next (reqStoreVerify ring tag s)
/-- STORE_READ. -/
def execStoreRead (ring : RingNo) (tag : Nat) (p : StoreReadParams) (s : State) : Host.Outcome State Fault Refusal :=
  .next (reqStoreRead ring tag p s)
/-- APPLY_DEFINITIONS. -/
def execApplyDefinitions (ring : RingNo) (tag : Nat) (s : State) : Host.Outcome State Fault Refusal :=
  .next (reqApplyDefinitions ring tag s)
/-- FORMAT. -/
def execFormat (ring : RingNo) (tag : Nat) (s : State) : Host.Outcome State Fault Refusal :=
  .next (reqFormat ring tag s)

end Sys2Proof.Machine
end

