-- ==== Sys2Proof/Machine/Rings.lean ====
section
/-! DEFINITION. The request rings, answers and notices (chapter 9): the register window, ring states, intake, the drain of a ring, notices, and the faults of
RING-class accesses. -/

namespace Sys2Proof.Machine

/-! ### Handing on (R184, R185) -/

/-- The owner of a waiting answer is released (R73, R88, R110). -/
def releaseOwner (o : AnswerOwner) (s : State) : State :=
  match o with
  | .none => s
  | .runEnd => runHandedOn s
  | o => ctxReleased o s

/-- A ring enters a state in which answers are discarded: its holder is emptied and each waiting answer counts as handed on (R176, R177, R185). -/
def quietRing (r : RingNo) (st : RingState) (cause : RingCause) (s : State) : State :=
  let g := s.ring r
  g.waiting.foldl (fun t d => releaseOwner d.owner t) (s.setRing r { g with state := st, cause := cause, holder := [], waiting := [] })

/-- A ring becomes FAULTED with a cause; a FAULTED ring keeps its first cause, and a DISABLED ring stays as it is (R177). -/
def faultRing (r : RingNo) (cause : RingCause) (s : State) : State :=
  match (s.ring r).state with
  | .disabled => s
  | .faulted => s
  | _ => quietRing r .faulted cause s

/-! ### Setup (R174 to R176) -/

/-- A ring size is a power of two from 16 to 4,096 (R175). -/
def sizeOk (n : Nat) : Bool := [16, 32, 64, 128, 256, 512, 1024, 2048, 4096].contains n

/-- The four setup values are good (R175). -/
def RingSetup.ok (x : RingSetup) : Bool :=
  sizeOk x.reqSize && sizeOk x.ansSize && decide (x.reqBase % 64 = 0) && decide (x.ansBase % 32 = 0)

/-- A ring right after a setup act that passes its checks (R175). -/
def Ring.enabledWith (x : RingSetup) : Ring :=
  { stored := x, setup := x, tail := 0, head := 0, consumed := 0, posted := 0, phase := true, state := .enabled, cause := .none
    stallSeen := false, holder := [], waiting := [] }

/-- A write of answer size (R174, R175). -/
def writeAnswerSize (r : RingNo) (size : Nat) (s : State) : State :=
  let g := s.ring r
  let x := { g.stored with ansSize := size }
  match g.state with
  | .enabled => s.setRing r { g with stored := x }
  | .stalled => s.setRing r { g with stored := x }
  | _ => if x.ok then s.setRing r (.enabledWith x) else s.setRing r { g with stored := x, state := .disabled, cause := .setup }

/-- A write of 0 to request size (R176). -/
def disableRing (r : RingNo) (s : State) : State :=
  let g := s.ring r
  quietRing r .disabled g.cause (s.setRing r { g with stored := { g.stored with reqSize := 0 } })

/-- A write of request size (R174, R176). -/
def writeRequestSize (r : RingNo) (size : Nat) (s : State) : State :=
  if size = 0 then disableRing r s
  else s.setRing r { s.ring r with stored := { (s.ring r).stored with reqSize := size } }

/-- RING_SETUP: a write of answer size. -/
def execRingSetup (ring : RingNo) (size : Nat) (s : State) : Host.Outcome State Fault Refusal := .next (writeAnswerSize ring size s)

/-- RING_DISABLE: a write of 0 to request size. -/
def execRingDisable (ring : RingNo) (s : State) : Host.Outcome State Fault Refusal := .next (disableRing ring s)

/-! ### Pointers and the drain (R177, R178, R184) -/

/-- A write of request tail (R177, R178). -/
def writeTail (r : RingNo) (value : Nat) (s : State) : State :=
  let g := s.ring r
  if g.state = .disabled then s
  else if value < g.setup.reqSize then s.setRing r { g with tail := value }
  else faultRing r .tailRange s

/-- One move of a drain (R184): the oldest waiting answer moves into a holder with space and is handed on, or the oldest answer of the holder is written. -/
def drainMove (r : RingNo) (s : State) : Option State :=
  let g := s.ring r
  match g.waiting with
  | d :: rest =>
    if g.holder.length < Config.maxHolder then
      some (releaseOwner d.owner (s.setRing r { g with holder := g.holder ++ [d.answer], waiting := rest }))
    else writeHeld g
  | [] => writeHeld g
where
  /-- The oldest answer of the holder is written when the ring has room. -/
  writeHeld (g : Ring) : Option State :=
    match g.holder with
    | a :: rest => if g.room then some (writeAnswer r a (s.setRing r { g with holder := rest })) else none
    | [] => none

/-- Moves of a drain, at most `fuel` of them. -/
def drainMoves : (fuel : Nat) → RingNo → State → State
  | 0, _, s => s
  | fuel + 1, r, s =>
    match drainMove r s with
    | some t => drainMoves fuel r t
    | none => s

/-- A ring drains, and a STALLED ring that holds nothing more becomes ENABLED (R184). Each waiting answer moves twice, and its release makes at most one more
answer due, so the moves are bounded. -/
def drain (r : RingNo) (s : State) : State :=
  let t := drainMoves (4 * ((s.ring r).holder.length + (s.ring r).waiting.length) + 8) r s
  let g := t.ring r
  if g.state = .stalled ∧ g.holder.isEmpty = true ∧ g.waiting.isEmpty = true then t.setRing r { g with state := .enabled } else t

/-- A write of answer consumed (R177, R184). -/
def writeConsumed (r : RingNo) (value : Nat) (s : State) : State :=
  let g := s.ring r
  if g.state = .disabled then s
  else if value < g.setup.ansSize then
    let t := s.setRing r { g with consumed := value }
    if (t.ring r).room ∧ g.state ≠ .faulted then drain r t else t
  else faultRing r .consumedRange s

/-- A write to the stall-seen flag: 1 clears it (R174; notes/assumptions/27.md). -/
def writeStallSeen (r : RingNo) (value : Nat) (s : State) : State :=
  if value % 2 = 1 then s.setRing r { s.ring r with stallSeen := false } else s

/-- REQUEST_TAIL_WRITE. -/
def execRequestTailWrite (ring : RingNo) (value : Nat) (s : State) : Host.Outcome State Fault Refusal := .next (writeTail ring value s)

/-- ANSWER_CONSUMED_WRITE. -/
def execAnswerConsumedWrite (ring : RingNo) (value : Nat) (s : State) : Host.Outcome State Fault Refusal := .next (writeConsumed ring value s)

/-- STALL_SEEN_CLEAR. -/
def execStallSeenClear (ring : RingNo) (value : Nat) (s : State) : Host.Outcome State Fault Refusal := .next (writeStallSeen ring value s)

/-! ### The register window (R174, Table 11-12) -/

/-- The ring and the register place that a window offset names. -/
def ringPlace (offset : Nat) : Option (RingNo × Nat) :=
  if 0x100 ≤ offset ∧ offset < 0x200 then some (Fin.ofNat 4 ((offset - 0x100) / 0x40), (offset - 0x100) % 0x40) else none

/-- A host write of the window: a register that the host does not write, and an offset that Table 11-12 does not list, ignore it (R174, R203). The whole
value, of 8 bytes at most, goes into the one register, also where the register has 4 bytes (notes/assumptions/27.md). -/
def windowWrite (offset value : Nat) (s : State) : State :=
  match ringPlace offset with
  | none => s
  | some (r, o) =>
    let g := s.ring r
    if o = 0x00 then s.setRing r { g with stored := { g.stored with reqBase := value } }
    else if o = 0x08 then s.setRing r { g with stored := { g.stored with ansBase := value } }
    else if o = 0x10 then writeRequestSize r value s
    else if o = 0x14 then writeAnswerSize r value s
    else if o = 0x18 then writeTail r value s
    else if o = 0x20 then writeConsumed r value s
    else if o = 0x2C then writeStallSeen r value s
    else s

/-- REGISTER_WRITE: a host write of one whole register. -/
def execRegisterWrite (offset value : Nat) (s : State) : Host.Outcome State Fault Refusal := .next (windowWrite offset value s)

/-- A host read of a ring's register. -/
def ringRead (g : Ring) (o : Nat) : Nat :=
  if o = 0x00 then g.stored.reqBase
  else if o = 0x08 then g.stored.ansBase
  else if o = 0x10 then g.stored.reqSize
  else if o = 0x14 then g.stored.ansSize
  else if o = 0x18 then g.tail
  else if o = 0x1C then g.head
  else if o = 0x20 then g.consumed
  else if o = 0x24 then g.posted
  else if o = 0x28 then g.state.code + 256 * g.cause.code
  else if o = 0x2C then flagBit g.stallSeen 0
  else 0

/-- What a host read of the register at a window offset returns; it changes nothing (R174, Table 11-12; notes/assumptions/27.md). -/
def windowRead (s : State) (offset : Nat) : Nat :=
  if offset = 0x000 then 0x57A2
  else if offset = 0x002 then 0x4120
  else if offset = 0x004 then 0x01
  else if offset = 0x008 then flagBit s.strap 0 + flagBit s.lc.up 1
  else
    match ringPlace offset with
    | some (r, o) => ringRead (s.ring r) o
    | none => 0

/-! ### Intake (R178 to R180) -/

/-- A record whose kind is not one of Table 9-5 is answered BAD_REQUEST with the kind read (R180). -/
def refuseUnknown (r : RingNo) (tag kind : Nat) (s : State) : State := answer r ⟨tag, kind, Status.badRequest.code, 0, 0, 0⟩ s

/-- The request kind codes of Table 11-5. -/
def kindCodes : List Nat :=
  [0x01, 0x02, 0x03, 0x04, 0x05, 0x06, 0x07, 0x08, 0x09, 0x0A, 0x0B, 0x10, 0x11, 0x12, 0x13, 0x14, 0x20, 0x21, 0x22, 0x30, 0x31, 0x32, 0x38, 0x39,
    0x40, 0x41, 0x42, 0x48, 0x49, 0x4A, 0x50, 0x60, 0x61, 0x62, 0x63, 0x64, 0x65]

/-- UNKNOWN_REQUEST: a record of a kind that no unit owns (R180). -/
def execUnknownRequest (ring : RingNo) (tag : Nat) (kind : Nat) (s : State) : Host.Outcome State Fault Refusal :=
  if kindCodes.contains kind then .next s else .next (refuseUnknown ring tag kind s)

/-- The field checks that the owning rules make before any other check (R180). -/
def formOk : Request → Bool
  | .charge p => chargeOk p
  | .split p => volumeOk p.volume
  | .drop p => volumeOk p.volume
  | .queryExtent p => volumeOk p.volume
  | .queryVolume v => volumeOk v
  | .loadSnapshot p => volumeOk p.volume && decide (p.epoch ≠ 0)
  | .loadExtent p => chargeOk p.charge && decide (p.birth ≠ 0) && decide (p.death ≠ some 0)
  | .openVolume p => volumeOk p.volume && decide (p.epoch ≠ 0)
  | .sealVolume v => volumeOk v
  | .unsealVolume v => volumeOk v
  | .scanOut p => scanOutOk p
  | .setLimit p => termsOk p.account p.hard p.margin p.grace
  | .loadAccount p => hostAccount p.account && termsOk p.account p.hard p.margin p.grace && (AccountKind.ofHostCode p.kind).isSome
  | .dropAccount i => hostAccount i
  | .queryAccount p => accountOk p.account
  | .setClock n => decide (n ≤ Config.max32)
  | .snapshotCreate p => volumeOk p.volume
  | .snapshotRetire p => volumeOk p.volume
  | .takeReleased p => takeReleasedOk p
  | .restore p => restoreOk p
  | .probe p => probeOk p
  | .cancelRestore _ => true
  | .queryMover c => (MoverClass.ofCode c).isSome
  | .faultClear c => (MoverClass.ofCode c).isSome
  | .runStart p => volumeOk p.volume
  | .runCancel v => volumeOk v
  | .queryRun v => volumeOk v
  | .giveRuns p => giveRunsOk p
  | .replicaReset v => volumeOk v
  | .queryInbound v => volumeOk v
  | .queryPeer i => decide (i ≤ 4)
  | .storeStage p => storeStageOk p
  | .storeCommit p => decide (p.page ≤ 63) && (CommitOp.ofCode p.op).isSome
  | .storeVerify => true
  | .storeRead p => decide (p.page ≤ 64)
  | .applyDefinitions => true
  | .format => true

/-- A request is handed to the unit that owns its kind (R178); the RIU reads the host buffers of RESTORE and GIVE_RUNS (notes/assumptions/30.md). -/
def handOver (r : RingNo) (tag : Nat) (q : Request) (s : State) : State :=
  match q with
  | .charge p => reqCharge r tag p s
  | .split p => reqSplit r tag p s
  | .drop p => reqDrop r tag p s
  | .queryExtent p => reqQueryExtent r tag p s
  | .queryVolume v => reqQueryVolume r tag v s
  | .loadSnapshot p => reqLoadSnapshot r tag p s
  | .loadExtent p => reqLoadExtent r tag p s
  | .openVolume p => reqOpenVolume r tag p s
  | .sealVolume v => reqSealVolume r tag v s
  | .unsealVolume v => reqUnsealVolume r tag v s
  | .scanOut p => reqScanOut r tag p s
  | .setLimit p => reqSetLimit r tag p s
  | .loadAccount p => reqLoadAccount r tag p s
  | .dropAccount i => reqDropAccount r tag i s
  | .queryAccount p => reqQueryAccount r tag p s
  | .setClock n => reqSetClock r tag n s
  | .snapshotCreate p => reqSnapshotCreate r tag p s
  | .snapshotRetire p => reqSnapshotRetire r tag p s
  | .takeReleased p => reqTakeReleased r tag p s
  | .restore p => reqRestore r tag p (s.targetRuns p.buffer p.runs) s
  | .probe p => reqProbe r tag p s
  | .cancelRestore t => reqCancelRestore r tag t s
  | .queryMover c => reqQueryMover r tag c s
  | .faultClear c => reqFaultClear r tag c s
  | .runStart p => reqRunStart r tag p s
  | .runCancel v => reqRunCancel r tag v s
  | .queryRun v => reqQueryRun r tag v s
  | .giveRuns p => reqGiveRuns r tag p (s.givenRuns p.buffer p.count) s
  | .replicaReset v => reqReplicaReset r tag v s
  | .queryInbound v => reqQueryInbound r tag v s
  | .queryPeer i => reqQueryPeer r tag i s
  | .storeStage p => reqStoreStage r tag p s
  | .storeCommit p => reqStoreCommit r tag p s
  | .storeVerify => reqStoreVerify r tag s
  | .storeRead p => reqStoreRead r tag p s
  | .applyDefinitions => reqApplyDefinitions r tag s
  | .format => reqFormat r tag s

/-- The record at the head of a ring (R178). -/
def State.headRecord (s : State) (r : RingNo) : List Byte := s.readBytes ((s.ring r).setup.reqBase + 64 * (s.ring r).head) 64

/-- The head rises by one, passing from the size less one to 0 (R178). -/
def Ring.taken (g : Ring) : Ring := { g with head := if g.head + 1 < g.setup.reqSize then g.head + 1 else 0 }

/-- A SCAN_OUT or TAKE_RELEASED taken from the ring has not ended, so its taking is not yet whole (R179). -/
def State.takingFrom (s : State) (r : RingNo) : Bool :=
  (s.scanOf r).isSome || volList.any fun v => match (s.snapVol v).taking with | some t => decide (t.ring = r) | none => false

/-- The ring may take its next request (R178, R179). -/
def State.mayTake (s : State) (r : RingNo) : Bool :=
  decide ((s.ring r).state = .enabled) && decide (0 < (s.ring r).requests) && !s.takingFrom r

/-- The request at the head of a ring is taken and handed over (R178, R180; notes/assumptions/30.md). -/
def takeRequest (r : RingNo) (s : State) : State :=
  let b := s.headRecord r
  let t := s.setRing r (s.ring r).taken
  match readRequest b with
  | some q => handOver r (field b 0 8) q t
  | none => refuseUnknown r (field b 0 8) (field b 8 1) t

/-- REQUEST_INTAKE. -/
def execRequestIntake (ring : RingNo) (s : State) : Host.Outcome State Fault Refusal :=
  if s.mayTake ring then .next (takeRequest ring s) else .next s

/-! ### Notices (R187, R188) -/

/-- Ring 0 can take a notice (R187). -/
def Ring.takesNotice (g : Ring) : Bool := decide (g.state = .enabled) && g.room && g.holder.isEmpty && g.waiting.isEmpty

/-- The answer of a notice (R186). -/
def Notice.answer (n : Notice) : Answer := ⟨0, noticeKindByte, n.kind.code, n.count, n.b, n.c⟩

/-- NOTICE_POST: the overflow answer when the overflow condition is set, else the oldest entry of the set (R187, R188). -/
def execNoticePost (s : State) : Host.Outcome State Fault Refusal :=
  if (s.ring 0).takesNotice then
    if s.riu.overflow then
      .next (writeAnswer 0 ⟨0, noticeKindByte, noticeOverflowCode, s.riu.lost, 0, 0⟩ (s.setRiu { s.riu with overflow := false, lost := 0 }))
    else
      match s.riu.notices with
      | n :: rest => .next (writeAnswer 0 n.answer (s.setRiu { s.riu with notices := rest }))
      | [] => .next s
  else .next s

/-! ### Faults of RING-class accesses (R106, R177) -/

/-- A RING-class access at an address returns a completion error: the fault is recorded and the ring becomes FAULTED (R106, R177). -/
def ringFault (r : RingNo) (address : Nat) (s : State) : State := faultRing r .access (recordRingFault address s)

/-- The host-buffer transfer that a request makes as it stands: its address, its length, and the bytes it writes (none for a read); `none` when the request is refused
before it (R14, R40, R75, R145, R196). -/
def transferOf (q : Request) (s : State) : Option (Nat × Nat × List Byte) :=
  match q with
  | .queryExtent p =>
    match s.gateRefusal q (volumeOk p.volume), queryExtentFound p s with
    | none, .inr e => some (p.buffer, 64, extentBytes e)
    | _, _ => none
  | .queryAccount p =>
    match s.gateRefusal q (accountOk p.account) with
    | none => some (p.buffer, 32, accountBytes p.account (s.account p.account))
    | some _ => none
  | .storeRead p =>
    match s.gateRefusal q (decide (p.page ≤ 64)), storeReadFound p s with
    | none, .inr bs => some (p.buffer, 256, bs)
    | _, _ => none
  | .restore p =>
    match s.gateRefusal q (restoreOk p) with
    | none => some (p.buffer, 16 * p.runs, [])
    | some _ => none
  | .giveRuns p =>
    match s.gateRefusal q (giveRunsOk p), firstFailure (s.replicaChecks (toVol p.volume)) with
    | none, none => some (p.buffer, 8 * p.count, [])
    | _, _ => none
  | _ => none

/-- The host-buffer transfer of a request meets a completion error after `moved` bytes: those bytes stay, and no answer is posted (R106; notes/assumptions/20.md). -/
def bufferFault (r : RingNo) (q : Request) (moved : Nat) (s : State) : State :=
  match transferOf q s with
  | some (a, n, bs) => if moved < n then ringFault r (a + moved) (s.writeBytes a (bs.take moved)) else s
  | none => s

/-- The 32 bytes of an answer whose write failed are left open (R182): free bytes (notes/assumptions/5.md, notes/assumptions/20.md). -/
def answerLost (r : RingNo) (place : Nat) (s : State) : State :=
  (s.writeBytes ((s.ring r).setup.ansBase + 32 * place) ((List.range 32).map (Config.freeByte s.free))).setFree (s.free + 1)

/-- The writes of a TAKE_RELEASED end with a completion error: no answer, and its entries stay (R68; notes/assumptions/20.md). -/
def takeFault (v : Vol) (moved : Nat) (s : State) : State :=
  let x := s.snapVol v
  match x.taking with
  | some t =>
    let bs := (x.release.take t.count).flatMap runBytes
    if moved < bs.length then
      ringFault t.ring (t.buffer + moved) ((s.writeBytes t.buffer (bs.take moved)).setSnapVol v { x with taking := none })
    else s
  | none => s

/-- A record write of a SCAN_OUT ends with a completion error: the call is not answered, and the records already written stay (R21; notes/assumptions/20.md). -/
def exportFault (r : RingNo) (moved : Nat) (s : State) : State :=
  match s.scanOf r with
  | some x =>
    match x.visits s with
    | some (bs, _) =>
      if moved < bs.length then ringFault r (x.place + moved) ((s.writeBytes x.place (bs.take moved)).setScan r none) else s
    | none => s
  | none => s

/-- The piece write of a PROBE ends with a completion error: the probe ends with no answer (R92; notes/assumptions/20.md). -/
def probeFault (c : Ctx) (moved : Nat) (s : State) : State :=
  let x := s.restoreCtx c
  match x.plan with
  | p :: _ =>
    if x.running && x.probe && !x.stepDue && !x.acceptedDue && decide (moved < 24) then
      let a := x.buffer + 24 * x.written
      ringFault x.ring (a + moved) (freeContext c (endCtx c (s.writeBytes a ((pieceBytes p).take moved))))
    else s
  | [] => s

/-- RING_ACCESS_FAULT (R106). The head of a ring moves only for a request whose transfer the error meets (R178; notes/assumptions/20.md). -/
def execRingAccessFault (a : RingAccess) (s : State) : Host.Outcome State Fault Refusal :=
  match a with
  | .requestRead r =>
    if s.mayTake r then .next (ringFault r ((s.ring r).setup.reqBase + 64 * (s.ring r).head) s) else .next s
  | .answerWrite r place =>
    if place < (s.ring r).setup.ansSize then .next (ringFault r ((s.ring r).setup.ansBase + 32 * place) (answerLost r place s)) else .next s
  | .bufferAtHead r moved =>
    if s.mayTake r then
      match readRequest (s.headRecord r) with
      | some q =>
        match transferOf q s with
        | some (_, n, _) => if moved < n then .next (bufferFault r q moved (s.setRing r (s.ring r).taken)) else .next s
        | none => .next s
      | none => .next s
    else .next s
  | .buffer r q moved => .next (bufferFault r q moved s)
  | .takeReleased v moved => .next (takeFault v moved s)
  | .scanOut r moved => .next (exportFault r moved s)
  | .probeWrite c moved => .next (probeFault c moved s)

end Sys2Proof.Machine
end

