-- ==== Sys2Proof/Machine/Start.lean ====
section
/-! DEFINITION. Cold start and function reset, each as one update over every block (R22, R46, R70, R71, R93, R94, R109, R134, R157, R173, R189, R200). -/

namespace Sys2Proof.Machine

/-- The unit that the engine serves is cut short: the first `written` accesses of its segment in progress stay written (R109). -/
def cutUnit (written : Nat) (s : State) : State :=
  match s.dm.engine with
  | some u => moveAccesses u.current written s
  | none => s

/-! ### Cold start (R200) -/

/-- The bytes of the store after a loss of power: the page under a commit is left with free bytes (notes/assumptions/5.md). -/
def Ps.unpowered (x : Ps) (n : Nat) : List Host.Cell :=
  match x.commit with
  | some c => putBytes x.pages (256 * c.page) ((List.range 256).map (Config.freeByte n))
  | none => x.pages

/-- The policy store as a cold start finds it, before it is verified: the staging page reads 0xFF, no commit or FORMAT is in progress, and the lock is set from page 0
(R191, R192, R200). -/
def Ps.start (pages : List Host.Cell) : Ps :=
  let x : Ps := ⟨pages, [], false, none, true, none⟩
  { x with locked := x.lockNow }

/-- The part with every block at its cold-start value for a store that does not verify; what power does not keep in the part, or what stands outside it, is taken from
`s` (R200 step 4; notes/assumptions/1.md, notes/assumptions/33.md). -/
def coldBase (strap : Bool) (s : State) : State :=
  { State.reset with
    pending := s.pending
    mem := s.mem
    strap := strap
    free := s.free + 1
    lc := { State.reset.lc with station := s.lc.station }
    ps := .start (s.ps.unpowered s.free) }

/-- COLD_START: the unit under way is cut, every block comes up, and a store that verifies gives its definitions (R200). -/
def execColdStart (strap : Bool) (written : Nat) (s : State) : Host.Outcome State Fault Refusal :=
  let t := coldBase strap (cutUnit written s)
  if t.ps.verifies 0 then .next (takeAllDefinitions 0 (t.setPs { t.ps with safe := false })) else .next t

/-! ### Function reset -/

/-- A retire-queue entry at a function reset: its end is reported by notice (R71). -/
def RetireEntry.silenced (x : RetireEntry) : RetireEntry :=
  { x with origin := match x.origin with | .host _ _ => .hostSilent | o => o }

/-- What a function reset does to a volume's snapshot state: waiting creates are withdrawn, and a TAKE_RELEASED ends without an answer (R68, R71). -/
def SnapVol.functionReset (x : SnapVol) : SnapVol := { x with gate := [], retire := x.retire.map RetireEntry.silenced, taking := none }

/-- A function reset ends the request of a restore context: FILLING clears on its piece's records, its claim goes, its hold is released, and it is FREE (R94). -/
def resetRestore (c : Ctx) (s : State) : State :=
  let x := s.restoreCtx c
  if x.phase = .free then s
  else
    let segs := match x.flight with
      | some f => if f.created then f.segs else []
      | none => []
    let s1 := segs.foldl (fun t g => t.updateExtent x.volume g.first fun e => { e with filling := false }) s
    let s2 := s1.setRestoreCtx c .free
    if x.phase = .ending then s2 else releaseRestoreHold x.volume x.epoch s2

/-- A function reset on the sending side (R134): the queue is emptied without answers, and the active run is cancelled without one (notes/assumptions/16.md). -/
def resetSender (s : State) : State :=
  let s1 : State := s.ds.queue.foldl (fun t x => releaseQueued x t) (s.setDs { s.ds with queue := [], lookDue := false })
  let s2 :=
    match s1.ds.active with
    | some x => if x.state = RunState.ended then s1 else endRunCore outboundCancelled 0 true s1
    | none => s1
  let s3 := s2.setDs { s2.ds with active := none, handover := [] }
  s3.setLc { s3.lc with slot := none }

/-- A REPLICA_RESET loses its answer (R154). -/
def ReplVol.silenced (x : ReplVol) : ReplVol := { x with reset := x.reset.map fun j => { j with answer := none } }

/-- A function reset on the receiving side (R157): a LAND unit that held the engine is gone, OPEN contexts abort, and REPLICA_RESETs lose their answers (notes/assumptions/16.md). -/
def resetReceiver (unit : Option MoverUnit) (s : State) : State :=
  let s1 :=
    match unit with
    | some u => if u.cls = .land then landGone u.num s else s
    | none => s
  let s2 := abortAll inboundFunctionReset true s1
  s2.setDr { s2.dr with vols := s2.dr.vols.map ReplVol.silenced }

/-- A commit and a FORMAT in progress lose their answers (R194, R202). -/
def Ps.silenced (x : Ps) : Ps :=
  { x with commit := x.commit.map fun c => { c with answer := none }, format := x.format.map fun j => { j with answer := none } }

/-- FUNCTION_RESET, block by block (notes/assumptions/16.md, notes/assumptions/33.md). R189 says both that the pointers read 0 and that the request head keeps the value it had
before a request being taken: the head reads 0 here, and that request is not acted on (notes/assumptions/16.md). -/
def functionResetState (written : Nat) (s : State) : State :=
  let s1 := ((cutUnit written s).setDm .start).setRiu .start
  let s2 := s1.setSu { s1.su with vols := s1.su.vols.map SnapVol.functionReset }
  let s3 := ctxList.foldl (fun t c => resetRestore c t) (s2.setRu { s2.ru with gateOrder := [] })
  let s4 := resetReceiver s.dm.engine (resetSender s3)
  s4.setPs s4.ps.silenced

/-- FUNCTION_RESET. -/
def execFunctionReset (written : Nat) (s : State) : Host.Outcome State Fault Refusal := .next (functionResetState written s)

end Sys2Proof.Machine
end

