-- ==== Sys2Proof/Machine/Dispatch.lean ====
section
/-! DEFINITION. One arm per command of the table. -/

namespace Sys2Proof.Machine

/-- The effect of one command on everything but the queue. -/
def exec (i : Instr) (s : State) : Host.Outcome State Fault Refusal :=
  match i with
  | .charge ring tag p => Sys2Proof.Machine.execCharge ring tag p s
  | .split ring tag p => Sys2Proof.Machine.execSplit ring tag p s
  | .drop ring tag p => Sys2Proof.Machine.execDrop ring tag p s
  | .queryExtent ring tag p => Sys2Proof.Machine.execQueryExtent ring tag p s
  | .queryVolume ring tag volume => Sys2Proof.Machine.execQueryVolume ring tag volume s
  | .loadSnapshot ring tag p => Sys2Proof.Machine.execLoadSnapshot ring tag p s
  | .loadExtent ring tag p => Sys2Proof.Machine.execLoadExtent ring tag p s
  | .openVolume ring tag p => Sys2Proof.Machine.execOpenVolume ring tag p s
  | .sealVolume ring tag volume => Sys2Proof.Machine.execSealVolume ring tag volume s
  | .unsealVolume ring tag volume => Sys2Proof.Machine.execUnsealVolume ring tag volume s
  | .scanOut ring tag t => Sys2Proof.Machine.execScanOut ring tag t s
  | .setLimit ring tag p => Sys2Proof.Machine.execSetLimit ring tag p s
  | .loadAccount ring tag p => Sys2Proof.Machine.execLoadAccount ring tag p s
  | .dropAccount ring tag account => Sys2Proof.Machine.execDropAccount ring tag account s
  | .queryAccount ring tag p => Sys2Proof.Machine.execQueryAccount ring tag p s
  | .setClock ring tag value => Sys2Proof.Machine.execSetClock ring tag value s
  | .clockAdvance => Sys2Proof.Machine.execClockAdvance s
  | .graceExpiry => Sys2Proof.Machine.execGraceExpiry s
  | .snapshotCreate ring tag p => Sys2Proof.Machine.execSnapshotCreate ring tag p s
  | .snapshotRetire ring tag p => Sys2Proof.Machine.execSnapshotRetire ring tag p s
  | .trimScanStep volume => Sys2Proof.Machine.execTrimScanStep volume s
  | .takeReleased t => Sys2Proof.Machine.execTakeReleased t s
  | .restore ring tag p targets => Sys2Proof.Machine.execRestore ring tag p targets s
  | .probe ring tag p => Sys2Proof.Machine.execProbe ring tag p s
  | .cancelRestore ring tag target => Sys2Proof.Machine.execCancelRestore ring tag target s
  | .searchStep ctx => Sys2Proof.Machine.execSearchStep ctx s
  | .pieceMap ctx => Sys2Proof.Machine.execPieceMap ctx s
  | .pieceCreate ctx => Sys2Proof.Machine.execPieceCreate ctx s
  | .probePieceWrite ctx => Sys2Proof.Machine.execProbePieceWrite ctx s
  | .queryMover ring tag cls => Sys2Proof.Machine.execQueryMover ring tag cls s
  | .faultClear ring tag cls => Sys2Proof.Machine.execFaultClear ring tag cls s
  | .segmentComplete => Sys2Proof.Machine.execSegmentComplete s
  | .unitComplete => Sys2Proof.Machine.execUnitComplete s
  | .shipPieceHandover => Sys2Proof.Machine.execShipPieceHandover s
  | .moverAccessFault a => Sys2Proof.Machine.execMoverAccessFault a s
  | .ringAccessFault a => Sys2Proof.Machine.execRingAccessFault a s
  | .runStart ring tag p => Sys2Proof.Machine.execRunStart ring tag p s
  | .runCancel ring tag volume => Sys2Proof.Machine.execRunCancel ring tag volume s
  | .queryRun ring tag volume => Sys2Proof.Machine.execQueryRun ring tag volume s
  | .runDequeue => Sys2Proof.Machine.execRunDequeue s
  | .deltaScanStep => Sys2Proof.Machine.execDeltaScanStep s
  | .batchTransmitStart => Sys2Proof.Machine.execBatchTransmitStart s
  | .resendStart => Sys2Proof.Machine.execResendStart s
  | .exchangeTimerExpiry => Sys2Proof.Machine.execExchangeTimerExpiry s
  | .receiptTimerExpiry seq => Sys2Proof.Machine.execReceiptTimerExpiry seq s
  | .busyWaitEnd => Sys2Proof.Machine.execBusyWaitEnd s
  | .pacerInterval => Sys2Proof.Machine.execPacerInterval s
  | .offer f => Sys2Proof.Machine.execOffer f s
  | .accept f => Sys2Proof.Machine.execAccept f s
  | .decline f => Sys2Proof.Machine.execDecline f s
  | .batchHead f => Sys2Proof.Machine.execBatchHead f s
  | .batchData f => Sys2Proof.Machine.execBatchData f s
  | .batchEnd f => Sys2Proof.Machine.execBatchEnd f s
  | .receipt f => Sys2Proof.Machine.execReceipt f s
  | .close f => Sys2Proof.Machine.execClose f s
  | .closed f => Sys2Proof.Machine.execClosed f s
  | .abort f => Sys2Proof.Machine.execAbort f s
  | .frameRejected f => Sys2Proof.Machine.execFrameRejected f s
  | .frameTransmit => Sys2Proof.Machine.execFrameTransmit s
  | .carrierUp => Sys2Proof.Machine.execCarrierUp s
  | .carrierDown => Sys2Proof.Machine.execCarrierDown s
  | .idleTimerExpiry ctx => Sys2Proof.Machine.execIdleTimerExpiry ctx s
  | .commitScanStep ctx => Sys2Proof.Machine.execCommitScanStep ctx s
  | .rollbackScanStep ctx => Sys2Proof.Machine.execRollbackScanStep ctx s
  | .giveRuns ring tag p runs => Sys2Proof.Machine.execGiveRuns ring tag p runs s
  | .replicaReset ring tag volume => Sys2Proof.Machine.execReplicaReset ring tag volume s
  | .replicaResetEmpty volume => Sys2Proof.Machine.execReplicaResetEmpty volume s
  | .replicaResetAppend volume => Sys2Proof.Machine.execReplicaResetAppend volume s
  | .queryInbound ring tag volume => Sys2Proof.Machine.execQueryInbound ring tag volume s
  | .queryPeer ring tag index => Sys2Proof.Machine.execQueryPeer ring tag index s
  | .storeStage ring tag p => Sys2Proof.Machine.execStoreStage ring tag p s
  | .storeCommit ring tag p => Sys2Proof.Machine.execStoreCommit ring tag p s
  | .storeCommitEnd misread => Sys2Proof.Machine.execStoreCommitEnd misread s
  | .storeVerify ring tag => Sys2Proof.Machine.execStoreVerify ring tag s
  | .storeRead ring tag p => Sys2Proof.Machine.execStoreRead ring tag p s
  | .applyDefinitions ring tag => Sys2Proof.Machine.execApplyDefinitions ring tag s
  | .format ring tag => Sys2Proof.Machine.execFormat ring tag s
  | .formatEnd => Sys2Proof.Machine.execFormatEnd s
  | .unknownRequest ring tag kind => Sys2Proof.Machine.execUnknownRequest ring tag kind s
  | .ringSetup ring size => Sys2Proof.Machine.execRingSetup ring size s
  | .ringDisable ring => Sys2Proof.Machine.execRingDisable ring s
  | .requestTailWrite ring value => Sys2Proof.Machine.execRequestTailWrite ring value s
  | .answerConsumedWrite ring value => Sys2Proof.Machine.execAnswerConsumedWrite ring value s
  | .stallSeenClear ring value => Sys2Proof.Machine.execStallSeenClear ring value s
  | .registerWrite offset value => Sys2Proof.Machine.execRegisterWrite offset value s
  | .requestIntake ring => Sys2Proof.Machine.execRequestIntake ring s
  | .noticePost => Sys2Proof.Machine.execNoticePost s
  | .coldStart strap written => Sys2Proof.Machine.execColdStart strap written s
  | .functionReset written => Sys2Proof.Machine.execFunctionReset written s

end Sys2Proof.Machine
end

