-- ==== Sys2Proof/Laws/State.lean ====
section
/-! SUPPORT. One lemma per field of State per block update, each true by unfolding, so that no later proof unfolds a record
update; and the same for the register-file updates (rings, volumes, contexts) that stand on them. -/

namespace Sys2Proof.Machine

@[simp] theorem State.setMem_mem (s : State) (x : List Host.Cell) : (s.setMem x).mem = x := rfl
@[simp] theorem State.setMem_strap (s : State) (x : List Host.Cell) : (s.setMem x).strap = s.strap := rfl
@[simp] theorem State.setMem_free (s : State) (x : List Host.Cell) : (s.setMem x).free = s.free := rfl
@[simp] theorem State.setMem_riu (s : State) (x : List Host.Cell) : (s.setMem x).riu = s.riu := rfl
@[simp] theorem State.setMem_etu (s : State) (x : List Host.Cell) : (s.setMem x).etu = s.etu := rfl
@[simp] theorem State.setMem_qu (s : State) (x : List Host.Cell) : (s.setMem x).qu = s.qu := rfl
@[simp] theorem State.setMem_su (s : State) (x : List Host.Cell) : (s.setMem x).su = s.su := rfl
@[simp] theorem State.setMem_ru (s : State) (x : List Host.Cell) : (s.setMem x).ru = s.ru := rfl
@[simp] theorem State.setMem_dm (s : State) (x : List Host.Cell) : (s.setMem x).dm = s.dm := rfl
@[simp] theorem State.setMem_ds (s : State) (x : List Host.Cell) : (s.setMem x).ds = s.ds := rfl
@[simp] theorem State.setMem_dr (s : State) (x : List Host.Cell) : (s.setMem x).dr = s.dr := rfl
@[simp] theorem State.setMem_lc (s : State) (x : List Host.Cell) : (s.setMem x).lc = s.lc := rfl
@[simp] theorem State.setMem_ps (s : State) (x : List Host.Cell) : (s.setMem x).ps = s.ps := rfl
@[simp] theorem State.setMem_pending (s : State) (x : List Host.Cell) : (s.setMem x).pending = s.pending := rfl
@[simp] theorem State.setStrap_mem (s : State) (x : Bool) : (s.setStrap x).mem = s.mem := rfl
@[simp] theorem State.setStrap_strap (s : State) (x : Bool) : (s.setStrap x).strap = x := rfl
@[simp] theorem State.setStrap_free (s : State) (x : Bool) : (s.setStrap x).free = s.free := rfl
@[simp] theorem State.setStrap_riu (s : State) (x : Bool) : (s.setStrap x).riu = s.riu := rfl
@[simp] theorem State.setStrap_etu (s : State) (x : Bool) : (s.setStrap x).etu = s.etu := rfl
@[simp] theorem State.setStrap_qu (s : State) (x : Bool) : (s.setStrap x).qu = s.qu := rfl
@[simp] theorem State.setStrap_su (s : State) (x : Bool) : (s.setStrap x).su = s.su := rfl
@[simp] theorem State.setStrap_ru (s : State) (x : Bool) : (s.setStrap x).ru = s.ru := rfl
@[simp] theorem State.setStrap_dm (s : State) (x : Bool) : (s.setStrap x).dm = s.dm := rfl
@[simp] theorem State.setStrap_ds (s : State) (x : Bool) : (s.setStrap x).ds = s.ds := rfl
@[simp] theorem State.setStrap_dr (s : State) (x : Bool) : (s.setStrap x).dr = s.dr := rfl
@[simp] theorem State.setStrap_lc (s : State) (x : Bool) : (s.setStrap x).lc = s.lc := rfl
@[simp] theorem State.setStrap_ps (s : State) (x : Bool) : (s.setStrap x).ps = s.ps := rfl
@[simp] theorem State.setStrap_pending (s : State) (x : Bool) : (s.setStrap x).pending = s.pending := rfl
@[simp] theorem State.setFree_mem (s : State) (x : Nat) : (s.setFree x).mem = s.mem := rfl
@[simp] theorem State.setFree_strap (s : State) (x : Nat) : (s.setFree x).strap = s.strap := rfl
@[simp] theorem State.setFree_free (s : State) (x : Nat) : (s.setFree x).free = x := rfl
@[simp] theorem State.setFree_riu (s : State) (x : Nat) : (s.setFree x).riu = s.riu := rfl
@[simp] theorem State.setFree_etu (s : State) (x : Nat) : (s.setFree x).etu = s.etu := rfl
@[simp] theorem State.setFree_qu (s : State) (x : Nat) : (s.setFree x).qu = s.qu := rfl
@[simp] theorem State.setFree_su (s : State) (x : Nat) : (s.setFree x).su = s.su := rfl
@[simp] theorem State.setFree_ru (s : State) (x : Nat) : (s.setFree x).ru = s.ru := rfl
@[simp] theorem State.setFree_dm (s : State) (x : Nat) : (s.setFree x).dm = s.dm := rfl
@[simp] theorem State.setFree_ds (s : State) (x : Nat) : (s.setFree x).ds = s.ds := rfl
@[simp] theorem State.setFree_dr (s : State) (x : Nat) : (s.setFree x).dr = s.dr := rfl
@[simp] theorem State.setFree_lc (s : State) (x : Nat) : (s.setFree x).lc = s.lc := rfl
@[simp] theorem State.setFree_ps (s : State) (x : Nat) : (s.setFree x).ps = s.ps := rfl
@[simp] theorem State.setFree_pending (s : State) (x : Nat) : (s.setFree x).pending = s.pending := rfl
@[simp] theorem State.setRiu_mem (s : State) (x : Riu) : (s.setRiu x).mem = s.mem := rfl
@[simp] theorem State.setRiu_strap (s : State) (x : Riu) : (s.setRiu x).strap = s.strap := rfl
@[simp] theorem State.setRiu_free (s : State) (x : Riu) : (s.setRiu x).free = s.free := rfl
@[simp] theorem State.setRiu_riu (s : State) (x : Riu) : (s.setRiu x).riu = x := rfl
@[simp] theorem State.setRiu_etu (s : State) (x : Riu) : (s.setRiu x).etu = s.etu := rfl
@[simp] theorem State.setRiu_qu (s : State) (x : Riu) : (s.setRiu x).qu = s.qu := rfl
@[simp] theorem State.setRiu_su (s : State) (x : Riu) : (s.setRiu x).su = s.su := rfl
@[simp] theorem State.setRiu_ru (s : State) (x : Riu) : (s.setRiu x).ru = s.ru := rfl
@[simp] theorem State.setRiu_dm (s : State) (x : Riu) : (s.setRiu x).dm = s.dm := rfl
@[simp] theorem State.setRiu_ds (s : State) (x : Riu) : (s.setRiu x).ds = s.ds := rfl
@[simp] theorem State.setRiu_dr (s : State) (x : Riu) : (s.setRiu x).dr = s.dr := rfl
@[simp] theorem State.setRiu_lc (s : State) (x : Riu) : (s.setRiu x).lc = s.lc := rfl
@[simp] theorem State.setRiu_ps (s : State) (x : Riu) : (s.setRiu x).ps = s.ps := rfl
@[simp] theorem State.setRiu_pending (s : State) (x : Riu) : (s.setRiu x).pending = s.pending := rfl
@[simp] theorem State.setEtu_mem (s : State) (x : Etu) : (s.setEtu x).mem = s.mem := rfl
@[simp] theorem State.setEtu_strap (s : State) (x : Etu) : (s.setEtu x).strap = s.strap := rfl
@[simp] theorem State.setEtu_free (s : State) (x : Etu) : (s.setEtu x).free = s.free := rfl
@[simp] theorem State.setEtu_riu (s : State) (x : Etu) : (s.setEtu x).riu = s.riu := rfl
@[simp] theorem State.setEtu_etu (s : State) (x : Etu) : (s.setEtu x).etu = x := rfl
@[simp] theorem State.setEtu_qu (s : State) (x : Etu) : (s.setEtu x).qu = s.qu := rfl
@[simp] theorem State.setEtu_su (s : State) (x : Etu) : (s.setEtu x).su = s.su := rfl
@[simp] theorem State.setEtu_ru (s : State) (x : Etu) : (s.setEtu x).ru = s.ru := rfl
@[simp] theorem State.setEtu_dm (s : State) (x : Etu) : (s.setEtu x).dm = s.dm := rfl
@[simp] theorem State.setEtu_ds (s : State) (x : Etu) : (s.setEtu x).ds = s.ds := rfl
@[simp] theorem State.setEtu_dr (s : State) (x : Etu) : (s.setEtu x).dr = s.dr := rfl
@[simp] theorem State.setEtu_lc (s : State) (x : Etu) : (s.setEtu x).lc = s.lc := rfl
@[simp] theorem State.setEtu_ps (s : State) (x : Etu) : (s.setEtu x).ps = s.ps := rfl
@[simp] theorem State.setEtu_pending (s : State) (x : Etu) : (s.setEtu x).pending = s.pending := rfl
@[simp] theorem State.setQu_mem (s : State) (x : Qu) : (s.setQu x).mem = s.mem := rfl
@[simp] theorem State.setQu_strap (s : State) (x : Qu) : (s.setQu x).strap = s.strap := rfl
@[simp] theorem State.setQu_free (s : State) (x : Qu) : (s.setQu x).free = s.free := rfl
@[simp] theorem State.setQu_riu (s : State) (x : Qu) : (s.setQu x).riu = s.riu := rfl
@[simp] theorem State.setQu_etu (s : State) (x : Qu) : (s.setQu x).etu = s.etu := rfl
@[simp] theorem State.setQu_qu (s : State) (x : Qu) : (s.setQu x).qu = x := rfl
@[simp] theorem State.setQu_su (s : State) (x : Qu) : (s.setQu x).su = s.su := rfl
@[simp] theorem State.setQu_ru (s : State) (x : Qu) : (s.setQu x).ru = s.ru := rfl
@[simp] theorem State.setQu_dm (s : State) (x : Qu) : (s.setQu x).dm = s.dm := rfl
@[simp] theorem State.setQu_ds (s : State) (x : Qu) : (s.setQu x).ds = s.ds := rfl
@[simp] theorem State.setQu_dr (s : State) (x : Qu) : (s.setQu x).dr = s.dr := rfl
@[simp] theorem State.setQu_lc (s : State) (x : Qu) : (s.setQu x).lc = s.lc := rfl
@[simp] theorem State.setQu_ps (s : State) (x : Qu) : (s.setQu x).ps = s.ps := rfl
@[simp] theorem State.setQu_pending (s : State) (x : Qu) : (s.setQu x).pending = s.pending := rfl
@[simp] theorem State.setSu_mem (s : State) (x : Su) : (s.setSu x).mem = s.mem := rfl
@[simp] theorem State.setSu_strap (s : State) (x : Su) : (s.setSu x).strap = s.strap := rfl
@[simp] theorem State.setSu_free (s : State) (x : Su) : (s.setSu x).free = s.free := rfl
@[simp] theorem State.setSu_riu (s : State) (x : Su) : (s.setSu x).riu = s.riu := rfl
@[simp] theorem State.setSu_etu (s : State) (x : Su) : (s.setSu x).etu = s.etu := rfl
@[simp] theorem State.setSu_qu (s : State) (x : Su) : (s.setSu x).qu = s.qu := rfl
@[simp] theorem State.setSu_su (s : State) (x : Su) : (s.setSu x).su = x := rfl
@[simp] theorem State.setSu_ru (s : State) (x : Su) : (s.setSu x).ru = s.ru := rfl
@[simp] theorem State.setSu_dm (s : State) (x : Su) : (s.setSu x).dm = s.dm := rfl
@[simp] theorem State.setSu_ds (s : State) (x : Su) : (s.setSu x).ds = s.ds := rfl
@[simp] theorem State.setSu_dr (s : State) (x : Su) : (s.setSu x).dr = s.dr := rfl
@[simp] theorem State.setSu_lc (s : State) (x : Su) : (s.setSu x).lc = s.lc := rfl
@[simp] theorem State.setSu_ps (s : State) (x : Su) : (s.setSu x).ps = s.ps := rfl
@[simp] theorem State.setSu_pending (s : State) (x : Su) : (s.setSu x).pending = s.pending := rfl
@[simp] theorem State.setRu_mem (s : State) (x : Ru) : (s.setRu x).mem = s.mem := rfl
@[simp] theorem State.setRu_strap (s : State) (x : Ru) : (s.setRu x).strap = s.strap := rfl
@[simp] theorem State.setRu_free (s : State) (x : Ru) : (s.setRu x).free = s.free := rfl
@[simp] theorem State.setRu_riu (s : State) (x : Ru) : (s.setRu x).riu = s.riu := rfl
@[simp] theorem State.setRu_etu (s : State) (x : Ru) : (s.setRu x).etu = s.etu := rfl
@[simp] theorem State.setRu_qu (s : State) (x : Ru) : (s.setRu x).qu = s.qu := rfl
@[simp] theorem State.setRu_su (s : State) (x : Ru) : (s.setRu x).su = s.su := rfl
@[simp] theorem State.setRu_ru (s : State) (x : Ru) : (s.setRu x).ru = x := rfl
@[simp] theorem State.setRu_dm (s : State) (x : Ru) : (s.setRu x).dm = s.dm := rfl
@[simp] theorem State.setRu_ds (s : State) (x : Ru) : (s.setRu x).ds = s.ds := rfl
@[simp] theorem State.setRu_dr (s : State) (x : Ru) : (s.setRu x).dr = s.dr := rfl
@[simp] theorem State.setRu_lc (s : State) (x : Ru) : (s.setRu x).lc = s.lc := rfl
@[simp] theorem State.setRu_ps (s : State) (x : Ru) : (s.setRu x).ps = s.ps := rfl
@[simp] theorem State.setRu_pending (s : State) (x : Ru) : (s.setRu x).pending = s.pending := rfl
@[simp] theorem State.setDm_mem (s : State) (x : Dm) : (s.setDm x).mem = s.mem := rfl
@[simp] theorem State.setDm_strap (s : State) (x : Dm) : (s.setDm x).strap = s.strap := rfl
@[simp] theorem State.setDm_free (s : State) (x : Dm) : (s.setDm x).free = s.free := rfl
@[simp] theorem State.setDm_riu (s : State) (x : Dm) : (s.setDm x).riu = s.riu := rfl
@[simp] theorem State.setDm_etu (s : State) (x : Dm) : (s.setDm x).etu = s.etu := rfl
@[simp] theorem State.setDm_qu (s : State) (x : Dm) : (s.setDm x).qu = s.qu := rfl
@[simp] theorem State.setDm_su (s : State) (x : Dm) : (s.setDm x).su = s.su := rfl
@[simp] theorem State.setDm_ru (s : State) (x : Dm) : (s.setDm x).ru = s.ru := rfl
@[simp] theorem State.setDm_dm (s : State) (x : Dm) : (s.setDm x).dm = x := rfl
@[simp] theorem State.setDm_ds (s : State) (x : Dm) : (s.setDm x).ds = s.ds := rfl
@[simp] theorem State.setDm_dr (s : State) (x : Dm) : (s.setDm x).dr = s.dr := rfl
@[simp] theorem State.setDm_lc (s : State) (x : Dm) : (s.setDm x).lc = s.lc := rfl
@[simp] theorem State.setDm_ps (s : State) (x : Dm) : (s.setDm x).ps = s.ps := rfl
@[simp] theorem State.setDm_pending (s : State) (x : Dm) : (s.setDm x).pending = s.pending := rfl
@[simp] theorem State.setDs_mem (s : State) (x : Ds) : (s.setDs x).mem = s.mem := rfl
@[simp] theorem State.setDs_strap (s : State) (x : Ds) : (s.setDs x).strap = s.strap := rfl
@[simp] theorem State.setDs_free (s : State) (x : Ds) : (s.setDs x).free = s.free := rfl
@[simp] theorem State.setDs_riu (s : State) (x : Ds) : (s.setDs x).riu = s.riu := rfl
@[simp] theorem State.setDs_etu (s : State) (x : Ds) : (s.setDs x).etu = s.etu := rfl
@[simp] theorem State.setDs_qu (s : State) (x : Ds) : (s.setDs x).qu = s.qu := rfl
@[simp] theorem State.setDs_su (s : State) (x : Ds) : (s.setDs x).su = s.su := rfl
@[simp] theorem State.setDs_ru (s : State) (x : Ds) : (s.setDs x).ru = s.ru := rfl
@[simp] theorem State.setDs_dm (s : State) (x : Ds) : (s.setDs x).dm = s.dm := rfl
@[simp] theorem State.setDs_ds (s : State) (x : Ds) : (s.setDs x).ds = x := rfl
@[simp] theorem State.setDs_dr (s : State) (x : Ds) : (s.setDs x).dr = s.dr := rfl
@[simp] theorem State.setDs_lc (s : State) (x : Ds) : (s.setDs x).lc = s.lc := rfl
@[simp] theorem State.setDs_ps (s : State) (x : Ds) : (s.setDs x).ps = s.ps := rfl
@[simp] theorem State.setDs_pending (s : State) (x : Ds) : (s.setDs x).pending = s.pending := rfl
@[simp] theorem State.setDr_mem (s : State) (x : Dr) : (s.setDr x).mem = s.mem := rfl
@[simp] theorem State.setDr_strap (s : State) (x : Dr) : (s.setDr x).strap = s.strap := rfl
@[simp] theorem State.setDr_free (s : State) (x : Dr) : (s.setDr x).free = s.free := rfl
@[simp] theorem State.setDr_riu (s : State) (x : Dr) : (s.setDr x).riu = s.riu := rfl
@[simp] theorem State.setDr_etu (s : State) (x : Dr) : (s.setDr x).etu = s.etu := rfl
@[simp] theorem State.setDr_qu (s : State) (x : Dr) : (s.setDr x).qu = s.qu := rfl
@[simp] theorem State.setDr_su (s : State) (x : Dr) : (s.setDr x).su = s.su := rfl
@[simp] theorem State.setDr_ru (s : State) (x : Dr) : (s.setDr x).ru = s.ru := rfl
@[simp] theorem State.setDr_dm (s : State) (x : Dr) : (s.setDr x).dm = s.dm := rfl
@[simp] theorem State.setDr_ds (s : State) (x : Dr) : (s.setDr x).ds = s.ds := rfl
@[simp] theorem State.setDr_dr (s : State) (x : Dr) : (s.setDr x).dr = x := rfl
@[simp] theorem State.setDr_lc (s : State) (x : Dr) : (s.setDr x).lc = s.lc := rfl
@[simp] theorem State.setDr_ps (s : State) (x : Dr) : (s.setDr x).ps = s.ps := rfl
@[simp] theorem State.setDr_pending (s : State) (x : Dr) : (s.setDr x).pending = s.pending := rfl
@[simp] theorem State.setLc_mem (s : State) (x : Lc) : (s.setLc x).mem = s.mem := rfl
@[simp] theorem State.setLc_strap (s : State) (x : Lc) : (s.setLc x).strap = s.strap := rfl
@[simp] theorem State.setLc_free (s : State) (x : Lc) : (s.setLc x).free = s.free := rfl
@[simp] theorem State.setLc_riu (s : State) (x : Lc) : (s.setLc x).riu = s.riu := rfl
@[simp] theorem State.setLc_etu (s : State) (x : Lc) : (s.setLc x).etu = s.etu := rfl
@[simp] theorem State.setLc_qu (s : State) (x : Lc) : (s.setLc x).qu = s.qu := rfl
@[simp] theorem State.setLc_su (s : State) (x : Lc) : (s.setLc x).su = s.su := rfl
@[simp] theorem State.setLc_ru (s : State) (x : Lc) : (s.setLc x).ru = s.ru := rfl
@[simp] theorem State.setLc_dm (s : State) (x : Lc) : (s.setLc x).dm = s.dm := rfl
@[simp] theorem State.setLc_ds (s : State) (x : Lc) : (s.setLc x).ds = s.ds := rfl
@[simp] theorem State.setLc_dr (s : State) (x : Lc) : (s.setLc x).dr = s.dr := rfl
@[simp] theorem State.setLc_lc (s : State) (x : Lc) : (s.setLc x).lc = x := rfl
@[simp] theorem State.setLc_ps (s : State) (x : Lc) : (s.setLc x).ps = s.ps := rfl
@[simp] theorem State.setLc_pending (s : State) (x : Lc) : (s.setLc x).pending = s.pending := rfl
@[simp] theorem State.setPs_mem (s : State) (x : Ps) : (s.setPs x).mem = s.mem := rfl
@[simp] theorem State.setPs_strap (s : State) (x : Ps) : (s.setPs x).strap = s.strap := rfl
@[simp] theorem State.setPs_free (s : State) (x : Ps) : (s.setPs x).free = s.free := rfl
@[simp] theorem State.setPs_riu (s : State) (x : Ps) : (s.setPs x).riu = s.riu := rfl
@[simp] theorem State.setPs_etu (s : State) (x : Ps) : (s.setPs x).etu = s.etu := rfl
@[simp] theorem State.setPs_qu (s : State) (x : Ps) : (s.setPs x).qu = s.qu := rfl
@[simp] theorem State.setPs_su (s : State) (x : Ps) : (s.setPs x).su = s.su := rfl
@[simp] theorem State.setPs_ru (s : State) (x : Ps) : (s.setPs x).ru = s.ru := rfl
@[simp] theorem State.setPs_dm (s : State) (x : Ps) : (s.setPs x).dm = s.dm := rfl
@[simp] theorem State.setPs_ds (s : State) (x : Ps) : (s.setPs x).ds = s.ds := rfl
@[simp] theorem State.setPs_dr (s : State) (x : Ps) : (s.setPs x).dr = s.dr := rfl
@[simp] theorem State.setPs_lc (s : State) (x : Ps) : (s.setPs x).lc = s.lc := rfl
@[simp] theorem State.setPs_ps (s : State) (x : Ps) : (s.setPs x).ps = x := rfl
@[simp] theorem State.setPs_pending (s : State) (x : Ps) : (s.setPs x).pending = s.pending := rfl
@[simp] theorem State.setPending_mem (s : State) (x : List Instr) : (s.setPending x).mem = s.mem := rfl
@[simp] theorem State.setPending_strap (s : State) (x : List Instr) : (s.setPending x).strap = s.strap := rfl
@[simp] theorem State.setPending_free (s : State) (x : List Instr) : (s.setPending x).free = s.free := rfl
@[simp] theorem State.setPending_riu (s : State) (x : List Instr) : (s.setPending x).riu = s.riu := rfl
@[simp] theorem State.setPending_etu (s : State) (x : List Instr) : (s.setPending x).etu = s.etu := rfl
@[simp] theorem State.setPending_qu (s : State) (x : List Instr) : (s.setPending x).qu = s.qu := rfl
@[simp] theorem State.setPending_su (s : State) (x : List Instr) : (s.setPending x).su = s.su := rfl
@[simp] theorem State.setPending_ru (s : State) (x : List Instr) : (s.setPending x).ru = s.ru := rfl
@[simp] theorem State.setPending_dm (s : State) (x : List Instr) : (s.setPending x).dm = s.dm := rfl
@[simp] theorem State.setPending_ds (s : State) (x : List Instr) : (s.setPending x).ds = s.ds := rfl
@[simp] theorem State.setPending_dr (s : State) (x : List Instr) : (s.setPending x).dr = s.dr := rfl
@[simp] theorem State.setPending_lc (s : State) (x : List Instr) : (s.setPending x).lc = s.lc := rfl
@[simp] theorem State.setPending_ps (s : State) (x : List Instr) : (s.setPending x).ps = s.ps := rfl
@[simp] theorem State.setPending_pending (s : State) (x : List Instr) : (s.setPending x).pending = x := rfl
@[simp] theorem State.setRing_mem (s : State) (r : RingNo) (x : Ring) : (s.setRing r x).mem = s.mem := rfl
@[simp] theorem State.setRing_strap (s : State) (r : RingNo) (x : Ring) : (s.setRing r x).strap = s.strap := rfl
@[simp] theorem State.setRing_free (s : State) (r : RingNo) (x : Ring) : (s.setRing r x).free = s.free := rfl
@[simp] theorem State.setRing_etu (s : State) (r : RingNo) (x : Ring) : (s.setRing r x).etu = s.etu := rfl
@[simp] theorem State.setRing_qu (s : State) (r : RingNo) (x : Ring) : (s.setRing r x).qu = s.qu := rfl
@[simp] theorem State.setRing_su (s : State) (r : RingNo) (x : Ring) : (s.setRing r x).su = s.su := rfl
@[simp] theorem State.setRing_ru (s : State) (r : RingNo) (x : Ring) : (s.setRing r x).ru = s.ru := rfl
@[simp] theorem State.setRing_dm (s : State) (r : RingNo) (x : Ring) : (s.setRing r x).dm = s.dm := rfl
@[simp] theorem State.setRing_ds (s : State) (r : RingNo) (x : Ring) : (s.setRing r x).ds = s.ds := rfl
@[simp] theorem State.setRing_dr (s : State) (r : RingNo) (x : Ring) : (s.setRing r x).dr = s.dr := rfl
@[simp] theorem State.setRing_lc (s : State) (r : RingNo) (x : Ring) : (s.setRing r x).lc = s.lc := rfl
@[simp] theorem State.setRing_ps (s : State) (r : RingNo) (x : Ring) : (s.setRing r x).ps = s.ps := rfl
@[simp] theorem State.setRing_pending (s : State) (r : RingNo) (x : Ring) : (s.setRing r x).pending = s.pending := rfl
@[simp] theorem State.setVol_mem (s : State) (v : Vol) (x : Volume) : (s.setVol v x).mem = s.mem := rfl
@[simp] theorem State.setVol_strap (s : State) (v : Vol) (x : Volume) : (s.setVol v x).strap = s.strap := rfl
@[simp] theorem State.setVol_free (s : State) (v : Vol) (x : Volume) : (s.setVol v x).free = s.free := rfl
@[simp] theorem State.setVol_riu (s : State) (v : Vol) (x : Volume) : (s.setVol v x).riu = s.riu := rfl
@[simp] theorem State.setVol_qu (s : State) (v : Vol) (x : Volume) : (s.setVol v x).qu = s.qu := rfl
@[simp] theorem State.setVol_su (s : State) (v : Vol) (x : Volume) : (s.setVol v x).su = s.su := rfl
@[simp] theorem State.setVol_ru (s : State) (v : Vol) (x : Volume) : (s.setVol v x).ru = s.ru := rfl
@[simp] theorem State.setVol_dm (s : State) (v : Vol) (x : Volume) : (s.setVol v x).dm = s.dm := rfl
@[simp] theorem State.setVol_ds (s : State) (v : Vol) (x : Volume) : (s.setVol v x).ds = s.ds := rfl
@[simp] theorem State.setVol_dr (s : State) (v : Vol) (x : Volume) : (s.setVol v x).dr = s.dr := rfl
@[simp] theorem State.setVol_lc (s : State) (v : Vol) (x : Volume) : (s.setVol v x).lc = s.lc := rfl
@[simp] theorem State.setVol_ps (s : State) (v : Vol) (x : Volume) : (s.setVol v x).ps = s.ps := rfl
@[simp] theorem State.setVol_pending (s : State) (v : Vol) (x : Volume) : (s.setVol v x).pending = s.pending := rfl
@[simp] theorem State.setSnapVol_mem (s : State) (v : Vol) (x : SnapVol) : (s.setSnapVol v x).mem = s.mem := rfl
@[simp] theorem State.setSnapVol_strap (s : State) (v : Vol) (x : SnapVol) : (s.setSnapVol v x).strap = s.strap := rfl
@[simp] theorem State.setSnapVol_free (s : State) (v : Vol) (x : SnapVol) : (s.setSnapVol v x).free = s.free := rfl
@[simp] theorem State.setSnapVol_riu (s : State) (v : Vol) (x : SnapVol) : (s.setSnapVol v x).riu = s.riu := rfl
@[simp] theorem State.setSnapVol_etu (s : State) (v : Vol) (x : SnapVol) : (s.setSnapVol v x).etu = s.etu := rfl
@[simp] theorem State.setSnapVol_qu (s : State) (v : Vol) (x : SnapVol) : (s.setSnapVol v x).qu = s.qu := rfl
@[simp] theorem State.setSnapVol_ru (s : State) (v : Vol) (x : SnapVol) : (s.setSnapVol v x).ru = s.ru := rfl
@[simp] theorem State.setSnapVol_dm (s : State) (v : Vol) (x : SnapVol) : (s.setSnapVol v x).dm = s.dm := rfl
@[simp] theorem State.setSnapVol_ds (s : State) (v : Vol) (x : SnapVol) : (s.setSnapVol v x).ds = s.ds := rfl
@[simp] theorem State.setSnapVol_dr (s : State) (v : Vol) (x : SnapVol) : (s.setSnapVol v x).dr = s.dr := rfl
@[simp] theorem State.setSnapVol_lc (s : State) (v : Vol) (x : SnapVol) : (s.setSnapVol v x).lc = s.lc := rfl
@[simp] theorem State.setSnapVol_ps (s : State) (v : Vol) (x : SnapVol) : (s.setSnapVol v x).ps = s.ps := rfl
@[simp] theorem State.setSnapVol_pending (s : State) (v : Vol) (x : SnapVol) : (s.setSnapVol v x).pending = s.pending := rfl
@[simp] theorem State.setRestoreCtx_mem (s : State) (c : Ctx) (x : RestoreCtx) : (s.setRestoreCtx c x).mem = s.mem := rfl
@[simp] theorem State.setRestoreCtx_strap (s : State) (c : Ctx) (x : RestoreCtx) : (s.setRestoreCtx c x).strap = s.strap := rfl
@[simp] theorem State.setRestoreCtx_free (s : State) (c : Ctx) (x : RestoreCtx) : (s.setRestoreCtx c x).free = s.free := rfl
@[simp] theorem State.setRestoreCtx_riu (s : State) (c : Ctx) (x : RestoreCtx) : (s.setRestoreCtx c x).riu = s.riu := rfl
@[simp] theorem State.setRestoreCtx_etu (s : State) (c : Ctx) (x : RestoreCtx) : (s.setRestoreCtx c x).etu = s.etu := rfl
@[simp] theorem State.setRestoreCtx_qu (s : State) (c : Ctx) (x : RestoreCtx) : (s.setRestoreCtx c x).qu = s.qu := rfl
@[simp] theorem State.setRestoreCtx_su (s : State) (c : Ctx) (x : RestoreCtx) : (s.setRestoreCtx c x).su = s.su := rfl
@[simp] theorem State.setRestoreCtx_dm (s : State) (c : Ctx) (x : RestoreCtx) : (s.setRestoreCtx c x).dm = s.dm := rfl
@[simp] theorem State.setRestoreCtx_ds (s : State) (c : Ctx) (x : RestoreCtx) : (s.setRestoreCtx c x).ds = s.ds := rfl
@[simp] theorem State.setRestoreCtx_dr (s : State) (c : Ctx) (x : RestoreCtx) : (s.setRestoreCtx c x).dr = s.dr := rfl
@[simp] theorem State.setRestoreCtx_lc (s : State) (c : Ctx) (x : RestoreCtx) : (s.setRestoreCtx c x).lc = s.lc := rfl
@[simp] theorem State.setRestoreCtx_ps (s : State) (c : Ctx) (x : RestoreCtx) : (s.setRestoreCtx c x).ps = s.ps := rfl
@[simp] theorem State.setRestoreCtx_pending (s : State) (c : Ctx) (x : RestoreCtx) : (s.setRestoreCtx c x).pending = s.pending := rfl
@[simp] theorem State.setInCtx_mem (s : State) (c : Ctx) (x : InCtx) : (s.setInCtx c x).mem = s.mem := rfl
@[simp] theorem State.setInCtx_strap (s : State) (c : Ctx) (x : InCtx) : (s.setInCtx c x).strap = s.strap := rfl
@[simp] theorem State.setInCtx_free (s : State) (c : Ctx) (x : InCtx) : (s.setInCtx c x).free = s.free := rfl
@[simp] theorem State.setInCtx_riu (s : State) (c : Ctx) (x : InCtx) : (s.setInCtx c x).riu = s.riu := rfl
@[simp] theorem State.setInCtx_etu (s : State) (c : Ctx) (x : InCtx) : (s.setInCtx c x).etu = s.etu := rfl
@[simp] theorem State.setInCtx_qu (s : State) (c : Ctx) (x : InCtx) : (s.setInCtx c x).qu = s.qu := rfl
@[simp] theorem State.setInCtx_su (s : State) (c : Ctx) (x : InCtx) : (s.setInCtx c x).su = s.su := rfl
@[simp] theorem State.setInCtx_ru (s : State) (c : Ctx) (x : InCtx) : (s.setInCtx c x).ru = s.ru := rfl
@[simp] theorem State.setInCtx_dm (s : State) (c : Ctx) (x : InCtx) : (s.setInCtx c x).dm = s.dm := rfl
@[simp] theorem State.setInCtx_ds (s : State) (c : Ctx) (x : InCtx) : (s.setInCtx c x).ds = s.ds := rfl
@[simp] theorem State.setInCtx_lc (s : State) (c : Ctx) (x : InCtx) : (s.setInCtx c x).lc = s.lc := rfl
@[simp] theorem State.setInCtx_ps (s : State) (c : Ctx) (x : InCtx) : (s.setInCtx c x).ps = s.ps := rfl
@[simp] theorem State.setInCtx_pending (s : State) (c : Ctx) (x : InCtx) : (s.setInCtx c x).pending = s.pending := rfl
@[simp] theorem State.setReplVol_mem (s : State) (v : Vol) (x : ReplVol) : (s.setReplVol v x).mem = s.mem := rfl
@[simp] theorem State.setReplVol_strap (s : State) (v : Vol) (x : ReplVol) : (s.setReplVol v x).strap = s.strap := rfl
@[simp] theorem State.setReplVol_free (s : State) (v : Vol) (x : ReplVol) : (s.setReplVol v x).free = s.free := rfl
@[simp] theorem State.setReplVol_riu (s : State) (v : Vol) (x : ReplVol) : (s.setReplVol v x).riu = s.riu := rfl
@[simp] theorem State.setReplVol_etu (s : State) (v : Vol) (x : ReplVol) : (s.setReplVol v x).etu = s.etu := rfl
@[simp] theorem State.setReplVol_qu (s : State) (v : Vol) (x : ReplVol) : (s.setReplVol v x).qu = s.qu := rfl
@[simp] theorem State.setReplVol_su (s : State) (v : Vol) (x : ReplVol) : (s.setReplVol v x).su = s.su := rfl
@[simp] theorem State.setReplVol_ru (s : State) (v : Vol) (x : ReplVol) : (s.setReplVol v x).ru = s.ru := rfl
@[simp] theorem State.setReplVol_dm (s : State) (v : Vol) (x : ReplVol) : (s.setReplVol v x).dm = s.dm := rfl
@[simp] theorem State.setReplVol_ds (s : State) (v : Vol) (x : ReplVol) : (s.setReplVol v x).ds = s.ds := rfl
@[simp] theorem State.setReplVol_lc (s : State) (v : Vol) (x : ReplVol) : (s.setReplVol v x).lc = s.lc := rfl
@[simp] theorem State.setReplVol_ps (s : State) (v : Vol) (x : ReplVol) : (s.setReplVol v x).ps = s.ps := rfl
@[simp] theorem State.setReplVol_pending (s : State) (v : Vol) (x : ReplVol) : (s.setReplVol v x).pending = s.pending := rfl
@[simp] theorem State.setExtents_mem (s : State) (x : List Extent) : (s.setExtents x).mem = s.mem := rfl
@[simp] theorem State.setExtents_strap (s : State) (x : List Extent) : (s.setExtents x).strap = s.strap := rfl
@[simp] theorem State.setExtents_free (s : State) (x : List Extent) : (s.setExtents x).free = s.free := rfl
@[simp] theorem State.setExtents_riu (s : State) (x : List Extent) : (s.setExtents x).riu = s.riu := rfl
@[simp] theorem State.setExtents_qu (s : State) (x : List Extent) : (s.setExtents x).qu = s.qu := rfl
@[simp] theorem State.setExtents_su (s : State) (x : List Extent) : (s.setExtents x).su = s.su := rfl
@[simp] theorem State.setExtents_ru (s : State) (x : List Extent) : (s.setExtents x).ru = s.ru := rfl
@[simp] theorem State.setExtents_dm (s : State) (x : List Extent) : (s.setExtents x).dm = s.dm := rfl
@[simp] theorem State.setExtents_ds (s : State) (x : List Extent) : (s.setExtents x).ds = s.ds := rfl
@[simp] theorem State.setExtents_dr (s : State) (x : List Extent) : (s.setExtents x).dr = s.dr := rfl
@[simp] theorem State.setExtents_lc (s : State) (x : List Extent) : (s.setExtents x).lc = s.lc := rfl
@[simp] theorem State.setExtents_ps (s : State) (x : List Extent) : (s.setExtents x).ps = s.ps := rfl
@[simp] theorem State.setExtents_pending (s : State) (x : List Extent) : (s.setExtents x).pending = s.pending := rfl

/-! ### Reading what an update wrote -/

@[simp] theorem State.ring_setRing (s : State) (r q : RingNo) (x : Ring) :
    (s.setRing r x).ring q = if r = q then x else s.ring q := by
  simp only [State.ring, State.setRing, State.setRiu, Fin.getElem_fin, Vector.getElem_set, Fin.ext_iff]

@[simp] theorem State.scanOf_setScan (s : State) (r q : RingNo) (x : Option Scan) :
    (s.setScan r x).scanOf q = if r = q then x else s.scanOf q := by
  simp only [State.scanOf, State.setScan, State.setRiu, Fin.getElem_fin, Vector.getElem_set, Fin.ext_iff]

@[simp] theorem State.vol_setVol (s : State) (v w : Vol) (x : Volume) :
    (s.setVol v x).vol w = if v = w then x else s.vol w := by
  simp only [State.vol, State.setVol, State.setEtu, Fin.getElem_fin, Vector.getElem_set, Fin.ext_iff]

@[simp] theorem State.snapVol_setSnapVol (s : State) (v w : Vol) (x : SnapVol) :
    (s.setSnapVol v x).snapVol w = if v = w then x else s.snapVol w := by
  simp only [State.snapVol, State.setSnapVol, State.setSu, Fin.getElem_fin, Vector.getElem_set, Fin.ext_iff]

@[simp] theorem State.restoreCtx_setRestoreCtx (s : State) (c d : Ctx) (x : RestoreCtx) :
    (s.setRestoreCtx c x).restoreCtx d = if c = d then x else s.restoreCtx d := by
  simp only [State.restoreCtx, State.setRestoreCtx, State.setRu, Fin.getElem_fin, Vector.getElem_set, Fin.ext_iff]

@[simp] theorem State.inCtx_setInCtx (s : State) (c d : Ctx) (x : InCtx) :
    (s.setInCtx c x).inCtx d = if c = d then x else s.inCtx d := by
  simp only [State.inCtx, State.setInCtx, State.setDr, Fin.getElem_fin, Vector.getElem_set, Fin.ext_iff]

@[simp] theorem State.replVol_setReplVol (s : State) (v w : Vol) (x : ReplVol) :
    (s.setReplVol v x).replVol w = if v = w then x else s.replVol w := by
  simp only [State.replVol, State.setReplVol, State.setDr, Fin.getElem_fin, Vector.getElem_set, Fin.ext_iff]

/-! ### Register files through a block update -/

@[simp] theorem State.setMem_ring (s : State) (x : List Host.Cell) (r : RingNo) : (s.setMem x).ring r = s.ring r := rfl
@[simp] theorem State.setStrap_ring (s : State) (x : Bool) (r : RingNo) : (s.setStrap x).ring r = s.ring r := rfl
@[simp] theorem State.setFree_ring (s : State) (x : Nat) (r : RingNo) : (s.setFree x).ring r = s.ring r := rfl
@[simp] theorem State.setEtu_ring (s : State) (x : Etu) (r : RingNo) : (s.setEtu x).ring r = s.ring r := rfl
@[simp] theorem State.setQu_ring (s : State) (x : Qu) (r : RingNo) : (s.setQu x).ring r = s.ring r := rfl
@[simp] theorem State.setSu_ring (s : State) (x : Su) (r : RingNo) : (s.setSu x).ring r = s.ring r := rfl
@[simp] theorem State.setRu_ring (s : State) (x : Ru) (r : RingNo) : (s.setRu x).ring r = s.ring r := rfl
@[simp] theorem State.setDm_ring (s : State) (x : Dm) (r : RingNo) : (s.setDm x).ring r = s.ring r := rfl
@[simp] theorem State.setDs_ring (s : State) (x : Ds) (r : RingNo) : (s.setDs x).ring r = s.ring r := rfl
@[simp] theorem State.setDr_ring (s : State) (x : Dr) (r : RingNo) : (s.setDr x).ring r = s.ring r := rfl
@[simp] theorem State.setLc_ring (s : State) (x : Lc) (r : RingNo) : (s.setLc x).ring r = s.ring r := rfl
@[simp] theorem State.setPs_ring (s : State) (x : Ps) (r : RingNo) : (s.setPs x).ring r = s.ring r := rfl
@[simp] theorem State.setPending_ring (s : State) (x : List Instr) (r : RingNo) : (s.setPending x).ring r = s.ring r := rfl
@[simp] theorem State.setVol_ring (s : State) (v : Vol) (y : Volume) (r : RingNo) : (s.setVol v y).ring r = s.ring r := rfl
@[simp] theorem State.setSnapVol_ring (s : State) (v : Vol) (y : SnapVol) (r : RingNo) : (s.setSnapVol v y).ring r = s.ring r := rfl
@[simp] theorem State.setRestoreCtx_ring (s : State) (c : Ctx) (y : RestoreCtx) (r : RingNo) : (s.setRestoreCtx c y).ring r = s.ring r := rfl
@[simp] theorem State.setInCtx_ring (s : State) (c : Ctx) (y : InCtx) (r : RingNo) : (s.setInCtx c y).ring r = s.ring r := rfl
@[simp] theorem State.setReplVol_ring (s : State) (v : Vol) (y : ReplVol) (r : RingNo) : (s.setReplVol v y).ring r = s.ring r := rfl
@[simp] theorem State.setExtents_ring (s : State) (y : List Extent) (r : RingNo) : (s.setExtents y).ring r = s.ring r := rfl
@[simp] theorem State.setMem_vol (s : State) (x : List Host.Cell) (r : Vol) : (s.setMem x).vol r = s.vol r := rfl
@[simp] theorem State.setStrap_vol (s : State) (x : Bool) (r : Vol) : (s.setStrap x).vol r = s.vol r := rfl
@[simp] theorem State.setFree_vol (s : State) (x : Nat) (r : Vol) : (s.setFree x).vol r = s.vol r := rfl
@[simp] theorem State.setRiu_vol (s : State) (x : Riu) (r : Vol) : (s.setRiu x).vol r = s.vol r := rfl
@[simp] theorem State.setQu_vol (s : State) (x : Qu) (r : Vol) : (s.setQu x).vol r = s.vol r := rfl
@[simp] theorem State.setSu_vol (s : State) (x : Su) (r : Vol) : (s.setSu x).vol r = s.vol r := rfl
@[simp] theorem State.setRu_vol (s : State) (x : Ru) (r : Vol) : (s.setRu x).vol r = s.vol r := rfl
@[simp] theorem State.setDm_vol (s : State) (x : Dm) (r : Vol) : (s.setDm x).vol r = s.vol r := rfl
@[simp] theorem State.setDs_vol (s : State) (x : Ds) (r : Vol) : (s.setDs x).vol r = s.vol r := rfl
@[simp] theorem State.setDr_vol (s : State) (x : Dr) (r : Vol) : (s.setDr x).vol r = s.vol r := rfl
@[simp] theorem State.setLc_vol (s : State) (x : Lc) (r : Vol) : (s.setLc x).vol r = s.vol r := rfl
@[simp] theorem State.setPs_vol (s : State) (x : Ps) (r : Vol) : (s.setPs x).vol r = s.vol r := rfl
@[simp] theorem State.setPending_vol (s : State) (x : List Instr) (r : Vol) : (s.setPending x).vol r = s.vol r := rfl
@[simp] theorem State.setRing_vol (s : State) (r2 : RingNo) (y : Ring) (r : Vol) : (s.setRing r2 y).vol r = s.vol r := rfl
@[simp] theorem State.setSnapVol_vol (s : State) (v : Vol) (y : SnapVol) (r : Vol) : (s.setSnapVol v y).vol r = s.vol r := rfl
@[simp] theorem State.setRestoreCtx_vol (s : State) (c : Ctx) (y : RestoreCtx) (r : Vol) : (s.setRestoreCtx c y).vol r = s.vol r := rfl
@[simp] theorem State.setInCtx_vol (s : State) (c : Ctx) (y : InCtx) (r : Vol) : (s.setInCtx c y).vol r = s.vol r := rfl
@[simp] theorem State.setReplVol_vol (s : State) (v : Vol) (y : ReplVol) (r : Vol) : (s.setReplVol v y).vol r = s.vol r := rfl
@[simp] theorem State.setExtents_vol (s : State) (y : List Extent) (r : Vol) : (s.setExtents y).vol r = s.vol r := rfl
@[simp] theorem State.setMem_snapVol (s : State) (x : List Host.Cell) (r : Vol) : (s.setMem x).snapVol r = s.snapVol r := rfl
@[simp] theorem State.setStrap_snapVol (s : State) (x : Bool) (r : Vol) : (s.setStrap x).snapVol r = s.snapVol r := rfl
@[simp] theorem State.setFree_snapVol (s : State) (x : Nat) (r : Vol) : (s.setFree x).snapVol r = s.snapVol r := rfl
@[simp] theorem State.setRiu_snapVol (s : State) (x : Riu) (r : Vol) : (s.setRiu x).snapVol r = s.snapVol r := rfl
@[simp] theorem State.setEtu_snapVol (s : State) (x : Etu) (r : Vol) : (s.setEtu x).snapVol r = s.snapVol r := rfl
@[simp] theorem State.setQu_snapVol (s : State) (x : Qu) (r : Vol) : (s.setQu x).snapVol r = s.snapVol r := rfl
@[simp] theorem State.setRu_snapVol (s : State) (x : Ru) (r : Vol) : (s.setRu x).snapVol r = s.snapVol r := rfl
@[simp] theorem State.setDm_snapVol (s : State) (x : Dm) (r : Vol) : (s.setDm x).snapVol r = s.snapVol r := rfl
@[simp] theorem State.setDs_snapVol (s : State) (x : Ds) (r : Vol) : (s.setDs x).snapVol r = s.snapVol r := rfl
@[simp] theorem State.setDr_snapVol (s : State) (x : Dr) (r : Vol) : (s.setDr x).snapVol r = s.snapVol r := rfl
@[simp] theorem State.setLc_snapVol (s : State) (x : Lc) (r : Vol) : (s.setLc x).snapVol r = s.snapVol r := rfl
@[simp] theorem State.setPs_snapVol (s : State) (x : Ps) (r : Vol) : (s.setPs x).snapVol r = s.snapVol r := rfl
@[simp] theorem State.setPending_snapVol (s : State) (x : List Instr) (r : Vol) : (s.setPending x).snapVol r = s.snapVol r := rfl
@[simp] theorem State.setRing_snapVol (s : State) (r2 : RingNo) (y : Ring) (r : Vol) : (s.setRing r2 y).snapVol r = s.snapVol r := rfl
@[simp] theorem State.setVol_snapVol (s : State) (v : Vol) (y : Volume) (r : Vol) : (s.setVol v y).snapVol r = s.snapVol r := rfl
@[simp] theorem State.setRestoreCtx_snapVol (s : State) (c : Ctx) (y : RestoreCtx) (r : Vol) : (s.setRestoreCtx c y).snapVol r = s.snapVol r := rfl
@[simp] theorem State.setInCtx_snapVol (s : State) (c : Ctx) (y : InCtx) (r : Vol) : (s.setInCtx c y).snapVol r = s.snapVol r := rfl
@[simp] theorem State.setReplVol_snapVol (s : State) (v : Vol) (y : ReplVol) (r : Vol) : (s.setReplVol v y).snapVol r = s.snapVol r := rfl
@[simp] theorem State.setExtents_snapVol (s : State) (y : List Extent) (r : Vol) : (s.setExtents y).snapVol r = s.snapVol r := rfl
@[simp] theorem State.setMem_restoreCtx (s : State) (x : List Host.Cell) (r : Ctx) : (s.setMem x).restoreCtx r = s.restoreCtx r := rfl
@[simp] theorem State.setStrap_restoreCtx (s : State) (x : Bool) (r : Ctx) : (s.setStrap x).restoreCtx r = s.restoreCtx r := rfl
@[simp] theorem State.setFree_restoreCtx (s : State) (x : Nat) (r : Ctx) : (s.setFree x).restoreCtx r = s.restoreCtx r := rfl
@[simp] theorem State.setRiu_restoreCtx (s : State) (x : Riu) (r : Ctx) : (s.setRiu x).restoreCtx r = s.restoreCtx r := rfl
@[simp] theorem State.setEtu_restoreCtx (s : State) (x : Etu) (r : Ctx) : (s.setEtu x).restoreCtx r = s.restoreCtx r := rfl
@[simp] theorem State.setQu_restoreCtx (s : State) (x : Qu) (r : Ctx) : (s.setQu x).restoreCtx r = s.restoreCtx r := rfl
@[simp] theorem State.setSu_restoreCtx (s : State) (x : Su) (r : Ctx) : (s.setSu x).restoreCtx r = s.restoreCtx r := rfl
@[simp] theorem State.setDm_restoreCtx (s : State) (x : Dm) (r : Ctx) : (s.setDm x).restoreCtx r = s.restoreCtx r := rfl
@[simp] theorem State.setDs_restoreCtx (s : State) (x : Ds) (r : Ctx) : (s.setDs x).restoreCtx r = s.restoreCtx r := rfl
@[simp] theorem State.setDr_restoreCtx (s : State) (x : Dr) (r : Ctx) : (s.setDr x).restoreCtx r = s.restoreCtx r := rfl
@[simp] theorem State.setLc_restoreCtx (s : State) (x : Lc) (r : Ctx) : (s.setLc x).restoreCtx r = s.restoreCtx r := rfl
@[simp] theorem State.setPs_restoreCtx (s : State) (x : Ps) (r : Ctx) : (s.setPs x).restoreCtx r = s.restoreCtx r := rfl
@[simp] theorem State.setPending_restoreCtx (s : State) (x : List Instr) (r : Ctx) : (s.setPending x).restoreCtx r = s.restoreCtx r := rfl
@[simp] theorem State.setRing_restoreCtx (s : State) (r2 : RingNo) (y : Ring) (r : Ctx) : (s.setRing r2 y).restoreCtx r = s.restoreCtx r := rfl
@[simp] theorem State.setVol_restoreCtx (s : State) (v : Vol) (y : Volume) (r : Ctx) : (s.setVol v y).restoreCtx r = s.restoreCtx r := rfl
@[simp] theorem State.setSnapVol_restoreCtx (s : State) (v : Vol) (y : SnapVol) (r : Ctx) : (s.setSnapVol v y).restoreCtx r = s.restoreCtx r := rfl
@[simp] theorem State.setInCtx_restoreCtx (s : State) (c : Ctx) (y : InCtx) (r : Ctx) : (s.setInCtx c y).restoreCtx r = s.restoreCtx r := rfl
@[simp] theorem State.setReplVol_restoreCtx (s : State) (v : Vol) (y : ReplVol) (r : Ctx) : (s.setReplVol v y).restoreCtx r = s.restoreCtx r := rfl
@[simp] theorem State.setExtents_restoreCtx (s : State) (y : List Extent) (r : Ctx) : (s.setExtents y).restoreCtx r = s.restoreCtx r := rfl
@[simp] theorem State.setMem_inCtx (s : State) (x : List Host.Cell) (r : Ctx) : (s.setMem x).inCtx r = s.inCtx r := rfl
@[simp] theorem State.setStrap_inCtx (s : State) (x : Bool) (r : Ctx) : (s.setStrap x).inCtx r = s.inCtx r := rfl
@[simp] theorem State.setFree_inCtx (s : State) (x : Nat) (r : Ctx) : (s.setFree x).inCtx r = s.inCtx r := rfl
@[simp] theorem State.setRiu_inCtx (s : State) (x : Riu) (r : Ctx) : (s.setRiu x).inCtx r = s.inCtx r := rfl
@[simp] theorem State.setEtu_inCtx (s : State) (x : Etu) (r : Ctx) : (s.setEtu x).inCtx r = s.inCtx r := rfl
@[simp] theorem State.setQu_inCtx (s : State) (x : Qu) (r : Ctx) : (s.setQu x).inCtx r = s.inCtx r := rfl
@[simp] theorem State.setSu_inCtx (s : State) (x : Su) (r : Ctx) : (s.setSu x).inCtx r = s.inCtx r := rfl
@[simp] theorem State.setRu_inCtx (s : State) (x : Ru) (r : Ctx) : (s.setRu x).inCtx r = s.inCtx r := rfl
@[simp] theorem State.setDm_inCtx (s : State) (x : Dm) (r : Ctx) : (s.setDm x).inCtx r = s.inCtx r := rfl
@[simp] theorem State.setDs_inCtx (s : State) (x : Ds) (r : Ctx) : (s.setDs x).inCtx r = s.inCtx r := rfl
@[simp] theorem State.setLc_inCtx (s : State) (x : Lc) (r : Ctx) : (s.setLc x).inCtx r = s.inCtx r := rfl
@[simp] theorem State.setPs_inCtx (s : State) (x : Ps) (r : Ctx) : (s.setPs x).inCtx r = s.inCtx r := rfl
@[simp] theorem State.setPending_inCtx (s : State) (x : List Instr) (r : Ctx) : (s.setPending x).inCtx r = s.inCtx r := rfl
@[simp] theorem State.setRing_inCtx (s : State) (r2 : RingNo) (y : Ring) (r : Ctx) : (s.setRing r2 y).inCtx r = s.inCtx r := rfl
@[simp] theorem State.setVol_inCtx (s : State) (v : Vol) (y : Volume) (r : Ctx) : (s.setVol v y).inCtx r = s.inCtx r := rfl
@[simp] theorem State.setSnapVol_inCtx (s : State) (v : Vol) (y : SnapVol) (r : Ctx) : (s.setSnapVol v y).inCtx r = s.inCtx r := rfl
@[simp] theorem State.setRestoreCtx_inCtx (s : State) (c : Ctx) (y : RestoreCtx) (r : Ctx) : (s.setRestoreCtx c y).inCtx r = s.inCtx r := rfl
@[simp] theorem State.setReplVol_inCtx (s : State) (v : Vol) (y : ReplVol) (r : Ctx) : (s.setReplVol v y).inCtx r = s.inCtx r := rfl
@[simp] theorem State.setExtents_inCtx (s : State) (y : List Extent) (r : Ctx) : (s.setExtents y).inCtx r = s.inCtx r := rfl
@[simp] theorem State.setMem_replVol (s : State) (x : List Host.Cell) (r : Vol) : (s.setMem x).replVol r = s.replVol r := rfl
@[simp] theorem State.setStrap_replVol (s : State) (x : Bool) (r : Vol) : (s.setStrap x).replVol r = s.replVol r := rfl
@[simp] theorem State.setFree_replVol (s : State) (x : Nat) (r : Vol) : (s.setFree x).replVol r = s.replVol r := rfl
@[simp] theorem State.setRiu_replVol (s : State) (x : Riu) (r : Vol) : (s.setRiu x).replVol r = s.replVol r := rfl
@[simp] theorem State.setEtu_replVol (s : State) (x : Etu) (r : Vol) : (s.setEtu x).replVol r = s.replVol r := rfl
@[simp] theorem State.setQu_replVol (s : State) (x : Qu) (r : Vol) : (s.setQu x).replVol r = s.replVol r := rfl
@[simp] theorem State.setSu_replVol (s : State) (x : Su) (r : Vol) : (s.setSu x).replVol r = s.replVol r := rfl
@[simp] theorem State.setRu_replVol (s : State) (x : Ru) (r : Vol) : (s.setRu x).replVol r = s.replVol r := rfl
@[simp] theorem State.setDm_replVol (s : State) (x : Dm) (r : Vol) : (s.setDm x).replVol r = s.replVol r := rfl
@[simp] theorem State.setDs_replVol (s : State) (x : Ds) (r : Vol) : (s.setDs x).replVol r = s.replVol r := rfl
@[simp] theorem State.setLc_replVol (s : State) (x : Lc) (r : Vol) : (s.setLc x).replVol r = s.replVol r := rfl
@[simp] theorem State.setPs_replVol (s : State) (x : Ps) (r : Vol) : (s.setPs x).replVol r = s.replVol r := rfl
@[simp] theorem State.setPending_replVol (s : State) (x : List Instr) (r : Vol) : (s.setPending x).replVol r = s.replVol r := rfl
@[simp] theorem State.setRing_replVol (s : State) (r2 : RingNo) (y : Ring) (r : Vol) : (s.setRing r2 y).replVol r = s.replVol r := rfl
@[simp] theorem State.setVol_replVol (s : State) (v : Vol) (y : Volume) (r : Vol) : (s.setVol v y).replVol r = s.replVol r := rfl
@[simp] theorem State.setSnapVol_replVol (s : State) (v : Vol) (y : SnapVol) (r : Vol) : (s.setSnapVol v y).replVol r = s.replVol r := rfl
@[simp] theorem State.setRestoreCtx_replVol (s : State) (c : Ctx) (y : RestoreCtx) (r : Vol) : (s.setRestoreCtx c y).replVol r = s.replVol r := rfl
@[simp] theorem State.setInCtx_replVol (s : State) (c : Ctx) (y : InCtx) (r : Vol) : (s.setInCtx c y).replVol r = s.replVol r := rfl
@[simp] theorem State.setExtents_replVol (s : State) (y : List Extent) (r : Vol) : (s.setExtents y).replVol r = s.replVol r := rfl
@[simp] theorem State.setMem_account (s : State) (x : List Host.Cell) (r : Nat) : (s.setMem x).account r = s.account r := rfl
@[simp] theorem State.setStrap_account (s : State) (x : Bool) (r : Nat) : (s.setStrap x).account r = s.account r := rfl
@[simp] theorem State.setFree_account (s : State) (x : Nat) (r : Nat) : (s.setFree x).account r = s.account r := rfl
@[simp] theorem State.setRiu_account (s : State) (x : Riu) (r : Nat) : (s.setRiu x).account r = s.account r := rfl
@[simp] theorem State.setEtu_account (s : State) (x : Etu) (r : Nat) : (s.setEtu x).account r = s.account r := rfl
@[simp] theorem State.setSu_account (s : State) (x : Su) (r : Nat) : (s.setSu x).account r = s.account r := rfl
@[simp] theorem State.setRu_account (s : State) (x : Ru) (r : Nat) : (s.setRu x).account r = s.account r := rfl
@[simp] theorem State.setDm_account (s : State) (x : Dm) (r : Nat) : (s.setDm x).account r = s.account r := rfl
@[simp] theorem State.setDs_account (s : State) (x : Ds) (r : Nat) : (s.setDs x).account r = s.account r := rfl
@[simp] theorem State.setDr_account (s : State) (x : Dr) (r : Nat) : (s.setDr x).account r = s.account r := rfl
@[simp] theorem State.setLc_account (s : State) (x : Lc) (r : Nat) : (s.setLc x).account r = s.account r := rfl
@[simp] theorem State.setPs_account (s : State) (x : Ps) (r : Nat) : (s.setPs x).account r = s.account r := rfl
@[simp] theorem State.setPending_account (s : State) (x : List Instr) (r : Nat) : (s.setPending x).account r = s.account r := rfl
@[simp] theorem State.setRing_account (s : State) (r2 : RingNo) (y : Ring) (r : Nat) : (s.setRing r2 y).account r = s.account r := rfl
@[simp] theorem State.setVol_account (s : State) (v : Vol) (y : Volume) (r : Nat) : (s.setVol v y).account r = s.account r := rfl
@[simp] theorem State.setSnapVol_account (s : State) (v : Vol) (y : SnapVol) (r : Nat) : (s.setSnapVol v y).account r = s.account r := rfl
@[simp] theorem State.setRestoreCtx_account (s : State) (c : Ctx) (y : RestoreCtx) (r : Nat) : (s.setRestoreCtx c y).account r = s.account r := rfl
@[simp] theorem State.setInCtx_account (s : State) (c : Ctx) (y : InCtx) (r : Nat) : (s.setInCtx c y).account r = s.account r := rfl
@[simp] theorem State.setReplVol_account (s : State) (v : Vol) (y : ReplVol) (r : Nat) : (s.setReplVol v y).account r = s.account r := rfl
@[simp] theorem State.setExtents_account (s : State) (y : List Extent) (r : Nat) : (s.setExtents y).account r = s.account r := rfl
@[simp] theorem State.setMem_extents (s : State) (x : List Host.Cell) : (s.setMem x).extents = s.extents := rfl
@[simp] theorem State.setStrap_extents (s : State) (x : Bool) : (s.setStrap x).extents = s.extents := rfl
@[simp] theorem State.setFree_extents (s : State) (x : Nat) : (s.setFree x).extents = s.extents := rfl
@[simp] theorem State.setRiu_extents (s : State) (x : Riu) : (s.setRiu x).extents = s.extents := rfl
@[simp] theorem State.setQu_extents (s : State) (x : Qu) : (s.setQu x).extents = s.extents := rfl
@[simp] theorem State.setSu_extents (s : State) (x : Su) : (s.setSu x).extents = s.extents := rfl
@[simp] theorem State.setRu_extents (s : State) (x : Ru) : (s.setRu x).extents = s.extents := rfl
@[simp] theorem State.setDm_extents (s : State) (x : Dm) : (s.setDm x).extents = s.extents := rfl
@[simp] theorem State.setDs_extents (s : State) (x : Ds) : (s.setDs x).extents = s.extents := rfl
@[simp] theorem State.setDr_extents (s : State) (x : Dr) : (s.setDr x).extents = s.extents := rfl
@[simp] theorem State.setLc_extents (s : State) (x : Lc) : (s.setLc x).extents = s.extents := rfl
@[simp] theorem State.setPs_extents (s : State) (x : Ps) : (s.setPs x).extents = s.extents := rfl
@[simp] theorem State.setPending_extents (s : State) (x : List Instr) : (s.setPending x).extents = s.extents := rfl
@[simp] theorem State.setRing_extents (s : State) (r2 : RingNo) (y : Ring) : (s.setRing r2 y).extents = s.extents := rfl
@[simp] theorem State.setVol_extents (s : State) (v : Vol) (y : Volume) : (s.setVol v y).extents = s.extents := rfl
@[simp] theorem State.setSnapVol_extents (s : State) (v : Vol) (y : SnapVol) : (s.setSnapVol v y).extents = s.extents := rfl
@[simp] theorem State.setRestoreCtx_extents (s : State) (c : Ctx) (y : RestoreCtx) : (s.setRestoreCtx c y).extents = s.extents := rfl
@[simp] theorem State.setInCtx_extents (s : State) (c : Ctx) (y : InCtx) : (s.setInCtx c y).extents = s.extents := rfl
@[simp] theorem State.setReplVol_extents (s : State) (v : Vol) (y : ReplVol) : (s.setReplVol v y).extents = s.extents := rfl


/-! ### The exports under way -/

@[simp] theorem State.setScan_mem (s : State) (r : RingNo) (x : Option Scan) : (s.setScan r x).mem = s.mem := rfl
@[simp] theorem State.setScan_strap (s : State) (r : RingNo) (x : Option Scan) : (s.setScan r x).strap = s.strap := rfl
@[simp] theorem State.setScan_free (s : State) (r : RingNo) (x : Option Scan) : (s.setScan r x).free = s.free := rfl
@[simp] theorem State.setScan_etu (s : State) (r : RingNo) (x : Option Scan) : (s.setScan r x).etu = s.etu := rfl
@[simp] theorem State.setScan_qu (s : State) (r : RingNo) (x : Option Scan) : (s.setScan r x).qu = s.qu := rfl
@[simp] theorem State.setScan_su (s : State) (r : RingNo) (x : Option Scan) : (s.setScan r x).su = s.su := rfl
@[simp] theorem State.setScan_ru (s : State) (r : RingNo) (x : Option Scan) : (s.setScan r x).ru = s.ru := rfl
@[simp] theorem State.setScan_dm (s : State) (r : RingNo) (x : Option Scan) : (s.setScan r x).dm = s.dm := rfl
@[simp] theorem State.setScan_ds (s : State) (r : RingNo) (x : Option Scan) : (s.setScan r x).ds = s.ds := rfl
@[simp] theorem State.setScan_dr (s : State) (r : RingNo) (x : Option Scan) : (s.setScan r x).dr = s.dr := rfl
@[simp] theorem State.setScan_lc (s : State) (r : RingNo) (x : Option Scan) : (s.setScan r x).lc = s.lc := rfl
@[simp] theorem State.setScan_ps (s : State) (r : RingNo) (x : Option Scan) : (s.setScan r x).ps = s.ps := rfl
@[simp] theorem State.setScan_pending (s : State) (r : RingNo) (x : Option Scan) : (s.setScan r x).pending = s.pending := rfl
@[simp] theorem State.setScan_vol (s : State) (r2 : RingNo) (y : Option Scan) (r : Vol) : (s.setScan r2 y).vol r = s.vol r := rfl
@[simp] theorem State.setScan_snapVol (s : State) (r2 : RingNo) (y : Option Scan) (r : Vol) : (s.setScan r2 y).snapVol r = s.snapVol r := rfl
@[simp] theorem State.setScan_restoreCtx (s : State) (r2 : RingNo) (y : Option Scan) (r : Ctx) : (s.setScan r2 y).restoreCtx r = s.restoreCtx r := rfl
@[simp] theorem State.setScan_inCtx (s : State) (r2 : RingNo) (y : Option Scan) (r : Ctx) : (s.setScan r2 y).inCtx r = s.inCtx r := rfl
@[simp] theorem State.setScan_replVol (s : State) (r2 : RingNo) (y : Option Scan) (r : Vol) : (s.setScan r2 y).replVol r = s.replVol r := rfl
@[simp] theorem State.setScan_account (s : State) (r2 : RingNo) (y : Option Scan) (r : Nat) : (s.setScan r2 y).account r = s.account r := rfl
@[simp] theorem State.setScan_extents (s : State) (r2 : RingNo) (y : Option Scan) : (s.setScan r2 y).extents = s.extents := rfl
@[simp] theorem State.setScan_ring (s : State) (r2 : RingNo) (y : Option Scan) (r : RingNo) : (s.setScan r2 y).ring r = s.ring r := rfl
@[simp] theorem State.setMem_scanOf (s : State) (x : List Host.Cell) (r : RingNo) : (s.setMem x).scanOf r = s.scanOf r := rfl
@[simp] theorem State.setStrap_scanOf (s : State) (x : Bool) (r : RingNo) : (s.setStrap x).scanOf r = s.scanOf r := rfl
@[simp] theorem State.setFree_scanOf (s : State) (x : Nat) (r : RingNo) : (s.setFree x).scanOf r = s.scanOf r := rfl
@[simp] theorem State.setEtu_scanOf (s : State) (x : Etu) (r : RingNo) : (s.setEtu x).scanOf r = s.scanOf r := rfl
@[simp] theorem State.setQu_scanOf (s : State) (x : Qu) (r : RingNo) : (s.setQu x).scanOf r = s.scanOf r := rfl
@[simp] theorem State.setSu_scanOf (s : State) (x : Su) (r : RingNo) : (s.setSu x).scanOf r = s.scanOf r := rfl
@[simp] theorem State.setRu_scanOf (s : State) (x : Ru) (r : RingNo) : (s.setRu x).scanOf r = s.scanOf r := rfl
@[simp] theorem State.setDm_scanOf (s : State) (x : Dm) (r : RingNo) : (s.setDm x).scanOf r = s.scanOf r := rfl
@[simp] theorem State.setDs_scanOf (s : State) (x : Ds) (r : RingNo) : (s.setDs x).scanOf r = s.scanOf r := rfl
@[simp] theorem State.setDr_scanOf (s : State) (x : Dr) (r : RingNo) : (s.setDr x).scanOf r = s.scanOf r := rfl
@[simp] theorem State.setLc_scanOf (s : State) (x : Lc) (r : RingNo) : (s.setLc x).scanOf r = s.scanOf r := rfl
@[simp] theorem State.setPs_scanOf (s : State) (x : Ps) (r : RingNo) : (s.setPs x).scanOf r = s.scanOf r := rfl
@[simp] theorem State.setPending_scanOf (s : State) (x : List Instr) (r : RingNo) : (s.setPending x).scanOf r = s.scanOf r := rfl
@[simp] theorem State.setVol_scanOf (s : State) (v : Vol) (y : Volume) (r : RingNo) : (s.setVol v y).scanOf r = s.scanOf r := rfl
@[simp] theorem State.setSnapVol_scanOf (s : State) (v : Vol) (y : SnapVol) (r : RingNo) : (s.setSnapVol v y).scanOf r = s.scanOf r := rfl
@[simp] theorem State.setRestoreCtx_scanOf (s : State) (c : Ctx) (y : RestoreCtx) (r : RingNo) : (s.setRestoreCtx c y).scanOf r = s.scanOf r := rfl
@[simp] theorem State.setInCtx_scanOf (s : State) (c : Ctx) (y : InCtx) (r : RingNo) : (s.setInCtx c y).scanOf r = s.scanOf r := rfl
@[simp] theorem State.setReplVol_scanOf (s : State) (v : Vol) (y : ReplVol) (r : RingNo) : (s.setReplVol v y).scanOf r = s.scanOf r := rfl
@[simp] theorem State.setExtents_scanOf (s : State) (y : List Extent) (r : RingNo) : (s.setExtents y).scanOf r = s.scanOf r := rfl
@[simp] theorem State.setRing_scanOf (s : State) (r2 : RingNo) (y : Ring) (r : RingNo) : (s.setRing r2 y).scanOf r = s.scanOf r := rfl

end Sys2Proof.Machine
end

