-- ==== Sys2Proof/Safety.lean ====
section
/-! DEFINITION. What the statements say of a state: that the part takes requests, and the laws of the device that every step keeps, block by block. -/

namespace Sys2Proof.Machine

/-- The part takes every request kind: it is not in SAFE state (R200), and no FORMAT is in progress (R202). -/
def State.up (s : State) : Prop := s.ps.safe = false ∧ s.ps.format = none

/-! ### Laws of the rings and the notice set -/

/-- A ring keeps its laws: the holder has at most two answers (R183), an ENABLED ring has none waiting (Table 9-2), a DISABLED or FAULTED ring holds nothing
(R185), and while a ring is not DISABLED its setup values have passed R175's checks and its pointers are in range (R177, R178, R182). -/
def Ring.ok (g : Ring) : Prop :=
  g.holder.length ≤ Config.maxHolder ∧ (g.state = .enabled → g.waiting = []) ∧
    (g.state = .disabled ∨ g.state = .faulted → g.holder = [] ∧ g.waiting = []) ∧
    (g.state ≠ .disabled → g.setup.ok = true ∧ g.tail < g.setup.reqSize ∧ g.head < g.setup.reqSize ∧
      g.consumed < g.setup.ansSize ∧ g.posted < g.setup.ansSize)

/-- Two notices have the same kind and subject (R186). -/
def Notice.same (a b : Notice) : Prop := a.kind = b.kind ∧ a.b = b.b ∧ a.c = b.c

/-- The Ring Interface Unit keeps its laws: those of its rings; at most 64 notices with repeat counts from 1 to 65,535, no two of one kind and subject (R186); and a
lost count that is above 0 exactly while the overflow condition is set (R188). -/
def Riu.ok (u : Riu) : Prop :=
  (∀ r : RingNo, u.rings[r].ok) ∧ u.notices.length ≤ Config.maxNotices ∧ (∀ n ∈ u.notices, 1 ≤ n.count ∧ n.count ≤ 65535) ∧
    u.notices.Pairwise (fun a b => ¬a.same b) ∧ (u.overflow = true ↔ u.lost ≠ 0) ∧ u.lost ≤ Config.max32

/-! ### Laws of the accounts -/

/-- The kinds that an account index admits (Table 2-1). -/
def kindAt (i : Nat) (k : AccountKind) : Prop :=
  if i < 16 then k = .reserve else if i < 32 then k = .landing else k = .user ∨ k = .group

/-- Usage above a limit that is not 0 (R28, R30, R35, R36). -/
def Account.above (a : Account) : Prop := a.hard ≠ 0 ∧ a.hard < a.usage

/-- A listed account keeps its laws: its kind is one that its index admits (Table 2-1), its state one that its kind admits (Table 2-2) and OVER_HARD, or OVER for a RESERVE
account, exactly while its usage is above a limit that is not 0 (R30, R35), and its deadline as Table 2-4 gives it; a RESERVE or LANDING account has no grace terms (R35, R36). -/
def Account.ok (i : Nat) (a : Account) : Prop :=
  kindAt i a.kind ∧
    (match a.kind with
    | .none => False
    | .user | .group =>
      a.state ≠ .over ∧ (a.state = .overHard ↔ a.above) ∧ (a.state = .under → a.deadline = Option.none) ∧
        (a.state = .grace ∨ a.state = .expired → a.deadline.isSome = true)
    | .reserve =>
      (a.state = .under ∨ a.state = .over) ∧ (a.state = .over ↔ a.above) ∧ a.grace = 0 ∧ a.deadline = Option.none ∧ a.privileged = false
    | .landing =>
      (a.state = .under ∨ a.state = .overHard) ∧ (a.state = .overHard ↔ a.above) ∧ a.grace = 0 ∧ a.deadline = Option.none ∧
        a.privileged = false)

/-- An entry of the grace timer list stands before another: ascending deadline, and ascending index among equal deadlines (R43). -/
def timerBefore (a b : Nat × Nat) : Prop := a.1 < b.1 ∨ (a.1 = b.1 ∧ a.2 < b.2)

/-- The Quota Unit keeps its laws: the accounts' table is canonical, every listed account keeps its own laws, and the grace timer list holds exactly the accounts in GRACE,
each at its deadline, in the order of R43 (R30). -/
def Qu.ok (q : Qu) : Prop :=
  sparseWf Account.none q.accounts = true ∧ (∀ e ∈ q.accounts, Account.ok e.1 e.2) ∧ q.clock ≤ Config.max32 ∧
    q.timers.Pairwise timerBefore ∧
    ∀ d i, (d, i) ∈ q.timers ↔
      (sparseGet Account.none q.accounts i).state = .grace ∧ (sparseGet Account.none q.accounts i).deadline = some d

/-! ### Canonical tables and capacities -/

/-- A sparse table is in its canonical form, with every key below a bound. -/
def canonical {α : Type} [DecidableEq α] (d : α) (bound : Nat) (m : List (Nat × α)) : Prop :=
  sparseWf d m = true ∧ ∀ e ∈ m, e.1 < bound

/-- PCI Express memory is in its canonical form, at 64-bit addresses (R97). -/
def memOk (m : List Host.Cell) : Prop := canonical 0 18446744073709551616 m

/-- The policy store keeps its form: the bytes of 64 pages of 256, and of one staging page, in canonical form (R190, R192), and a commit under way is of one of the 64 pages
(R193). -/
def Ps.ok (x : Ps) : Prop :=
  canonical 0xFF 16384 x.pages ∧ canonical 0xFF 256 x.staging ∧ ∀ c, x.commit = some c → c.page ≤ 63

/-- The extent table holds no more records than it can (R3). -/
def Etu.ok (x : Etu) : Prop := x.extents.length ≤ Config.maxExtents

/-- Every release list holds at most 4,096 entries (R65). -/
def Su.ok (x : Su) : Prop := ∀ v : Vol, x.vols[v].release.length ≤ Config.maxRelease

/-- Every plan holds at most 256 pieces (R79). -/
def Ru.ok (x : Ru) : Prop := ∀ c : Ctx, x.ctxs[c].plan.length ≤ Config.maxPlan

/-- Every landing pool holds at most 4,096 entries (R144). -/
def Dr.ok (x : Dr) : Prop := ∀ v : Vol, x.vols[v].pool.length ≤ Config.maxPool

/-- The control queue holds at most 16 frames (R166), and nothing waits for the wire while the link is DOWN (R160, R168). -/
def Lc.ok (x : Lc) : Prop := x.control.length ≤ Config.maxControl ∧ (x.up = false → x.control = [] ∧ x.slot = none)

/-- The pacer's bucket holds at most 64 credits (R123). -/
def Ds.ok (x : Ds) : Prop := x.bucket ≤ Config.maxCredits

/-- A state keeps every law above. -/
structure State.ok (s : State) : Prop where
  mem : memOk s.mem
  riu : s.riu.ok
  etu : s.etu.ok
  qu : s.qu.ok
  su : s.su.ok
  ru : s.ru.ok
  ds : s.ds.ok
  dr : s.dr.ok
  lc : s.lc.ok
  ps : s.ps.ok

/-! ### Laws of the waiting answers, the mover's units and the sender's batches -/

/-- The context that the owner of a waiting answer stands for. -/
def AnswerOwner.ctx : AnswerOwner → Option Ctx
  | .none => Option.none
  | .runEnd => Option.none
  | .accepted c => some c
  | .step c => some c
  | .restoreEnd c => some c

/-- A waiting answer that another follows on its ring: no owner waits twice, and nothing of a context follows its end (R73, R88, R110). -/
def Due.before (a b : Due) : Prop :=
  (a.owner ≠ .none → a.owner ≠ b.owner) ∧ ∀ c : Ctx, a.owner = .restoreEnd c → b.owner.ctx ≠ some c

/-- The owner of an answer that waits on ring `r` is in the state that waits for it: the active run is ENDED, or the context is held by its request, in ENDING for its end and
with its step answer due for a step (R73, R77, R88, R110). -/
def State.dueOk (s : State) (r : RingNo) (d : Due) : Prop :=
  match d.owner with
  | .none => True
  | .runEnd => ∃ x ∈ s.ds.active, x.state = .ended ∧ x.ring = r
  | .accepted c => (s.restoreCtx c).phase ≠ .free ∧ (s.restoreCtx c).ring = r
  | .step c =>
    (s.restoreCtx c).phase ≠ .free ∧ (s.restoreCtx c).ring = r ∧ ((s.restoreCtx c).phase ≠ .ending → (s.restoreCtx c).stepDue = true)
  | .restoreEnd c => (s.restoreCtx c).phase = .ending ∧ (s.restoreCtx c).ring = r

/-- The units the mover serves or has waiting. -/
def Dm.units (m : Dm) : List MoverUnit := m.engine.toList ++ m.waiting

/-- A piece in flight is a running RESTORE's, which has no step answer due, and a context with one that has not made its records waits at a gate, once (R50, R82). -/
def Ru.flightsOk (x : Ru) : Prop :=
  (∀ c : Ctx, x.ctxs[c].phase = .free → x.ctxs[c] = .free) ∧
    (∀ c : Ctx, x.ctxs[c].flight ≠ none → x.ctxs[c].running = true ∧ x.ctxs[c].probe = false ∧ x.ctxs[c].stepDue = false) ∧
    x.gateOrder.Nodup ∧ ∀ c : Ctx, c ∈ x.gateOrder ↔ ∃ f ∈ x.ctxs[c].flight, f.created = false

/-- The contexts of inbound runs and their slots: a FREE context holds nothing, only an OPEN one has a slot that is not EMPTY, at most one of its slots is LANDING, and a rollback that waits
with its walk ended is an aborting one (R135, R146, R149, R152, R153). -/
def Dr.slotsOk (x : Dr) : Prop :=
  ∀ c : Ctx, (x.ctxs[c].state = .free → x.ctxs[c] = .free) ∧
    (x.ctxs[c].state ≠ .open → ∀ i : Fin 2, x.ctxs[c].slots[i] = .clear) ∧
    ¬(x.ctxs[c].slots[(0 : Fin 2)].state = .landing ∧ x.ctxs[c].slots[(1 : Fin 2)].state = .landing) ∧
    (x.ctxs[c].walkDone = true → x.ctxs[c].state = .aborting)

/-- The units' laws (R95, R99, R104): none is of class RING or of a class that is faulted; no requester has two; a RESTORE unit is that of a piece whose records are made, and each such piece
has one; a LAND unit is that of a LANDING slot, and each such slot has one, but a unit in the engine may outlast its run's abort, and a rollback waits for it. -/
def State.unitsOk (s : State) : Prop :=
  (∀ u ∈ s.dm.units, u.cls ≠ .ring ∧ s.faulted u.cls = false) ∧
    s.dm.units.Pairwise (fun a b => ¬(a.cls = b.cls ∧ a.num = b.num)) ∧
    (∀ u ∈ s.dm.units, u.cls = .restore → ∃ f ∈ (s.restoreCtx u.num).flight, f.created = true) ∧
    (∀ c : Ctx, ∀ f ∈ (s.restoreCtx c).flight, f.created = true → ∃ u ∈ s.dm.units, u.isOf .restore c = true) ∧
    (∀ u ∈ s.dm.units, u.cls = .land → (∃ i : Fin 2, (s.inCtx u.num).slots[i].state = .landing) ∨ (u ∈ s.dm.engine ∧ (s.inCtx u.num).state = .aborting)) ∧
    (∀ c : Ctx, ∀ i : Fin 2, (s.inCtx c).slots[i].state = .landing → ∃ u ∈ s.dm.units, u.isOf .land c = true) ∧
    ∀ c : Ctx, (s.inCtx c).walkDone = true → s.holdsEngine .land c = true

/-- The SHIP units' laws (R95, R121, R127): they are numbered 0; and one that waits is for the held batch, with a place in the outstanding list for it, or for a batch of that list, of an active
run that has not ended. -/
def State.shipOk (s : State) : Prop :=
  (∀ u ∈ s.dm.units, u.cls = .ship → u.num = 0) ∧
    ∀ u ∈ s.dm.waiting, u.cls = .ship → (∃ x ∈ s.ds.active, x.state ≠ .ended) ∧
      ((∃ b ∈ s.ds.holding, b.seq = u.seq ∧ s.ds.outstanding.length < Config.maxOutstanding) ∨ ∃ b ∈ s.ds.outstanding, b.seq = u.seq)

/-- The batches of the active run that have closed, in their order: outstanding, held, and the one behind it (R120, R121). -/
def Ds.batches (d : Ds) : List Batch := d.outstanding ++ d.holding.toList ++ d.closed.toList

/-- No scan is under way and no batch is kept. -/
def Ds.atRest (d : Ds) : Prop :=
  d.scanning = none ∧ d.rest = none ∧ d.assembly = .empty ∧ d.closed = none ∧ d.holding = none ∧ d.outstanding = []

/-- The active run's fields go with its state (Table 6-2): before SHIPPING and after its end nothing is kept, in DRAINING every batch has entered the outstanding list, and in CLOSING that list is
empty. -/
def Ds.stateOk (d : Ds) : RunState → Prop
  | .offering => d.atRest
  | .shipping => True
  | .draining => d.allEntered = true
  | .closing => d.allEntered = true ∧ d.outstanding = []
  | .ended => d.atRest

/-- The Duplication Sender's laws: the queue holds at most 16 runs, no volume twice and not the active run's (R113); the outstanding list holds at most 8 batches, and the batches' seqs are
consecutive and end below the next seq (R121, R122); and what is kept goes with the active run's state (Table 6-2). -/
def Ds.lawful (d : Ds) : Prop :=
  (d.queue.map QueuedRun.volume).Nodup ∧ d.queue.length ≤ 16 ∧ (∀ x ∈ d.active, ∀ q ∈ d.queue, q.volume ≠ x.volume) ∧
    d.outstanding.length ≤ Config.maxOutstanding ∧ (d.closed ≠ none → d.holding ≠ none) ∧
    (d.active = none → d.atRest) ∧
    ∀ x ∈ d.active, d.batches.length < x.nextSeq ∧
      d.batches.map Batch.seq = (List.range d.batches.length).map (x.nextSeq - d.batches.length + ·) ∧ d.stateOk x.state

/-- What waits for what (R73, R88, R95, R104, R110, R113, R122): the waiting answers and their owners, the pieces in flight, the inbound slots, the mover's units, and the sender's queue and batches. -/
structure State.linked (s : State) : Prop where
  dues : ∀ r : RingNo, (∀ d ∈ (s.ring r).waiting, s.dueOk r d) ∧ (s.ring r).waiting.Pairwise Due.before
  flights : s.ru.flightsOk
  slots : s.dr.slotsOk
  units : s.unitsOk
  ship : s.shipOk
  sender : s.ds.lawful

/-! ### Laws of the volumes and snapshots -/

/-- A waiting create is the sender's (R50, R51). -/
def GateCreate.ofSender : GateCreate → Bool
  | .host _ _ _ => false
  | .sender _ => true

/-- The volume is ONLINE or SEALED. -/
def Volume.isOpen (x : Volume) : Prop := x.state = .online ∨ x.state = .sealed

/-- A volume's record and its snapshots' gate and places go with its state and role (R5, R7, R50, R52): an UNDEFINED volume has no snapshot, a volume has a current epoch exactly while it is
ONLINE or SEALED, and only such a PRIMARY volume has creates waiting, one at most from the host and one from the sender, and such a REPLICA volume a place reserved for a commit. -/
def volumeOkWith (x : Volume) (y : SnapVol) : Prop :=
  (x.state = .undefined ↔ x.defn.role = .unused) ∧ (x.state = .undefined → y.snaps = []) ∧ (x.epoch.isSome = true ↔ x.isOpen) ∧
    (y.gate ≠ [] → x.isOpen ∧ x.defn.role = .primary) ∧ (y.commitPlace ≠ none → x.isOpen ∧ x.defn.role = .replica) ∧
    (y.gate.filter fun g => !g.ofSender).length ≤ 1 ∧ (y.gate.filter (·.ofSender)).length ≤ 1

/-- A snapshot carries a hold. -/
def Snapshot.held (x : Snapshot) : Prop := x.replBase = true ∨ x.replTarget = true ∨ x.holds ≠ 0

/-- A volume's snapshot list keeps its laws: ascending epochs; no label twice, those of reserved places among them; at most 64 with those places (R47); each below the current epoch (R7), and
before OPEN_VOLUME at most the greatest epoch seen (R18); one with a hold is ACTIVE, and at most one carries REPL_BASE and at most one REPL_TARGET (R53). -/
def snapshotsOk (x : Volume) (y : SnapVol) : Prop :=
  y.snaps.Pairwise (fun a b => a.epoch < b.epoch) ∧ (y.snaps.map Snapshot.label ++ y.reserved).Nodup ∧
    y.snaps.length + y.reserved.length ≤ Config.maxSnapshots ∧
    (∀ e ∈ x.epoch, ∀ z ∈ y.snaps, z.epoch < e) ∧ (x.state = .defined → ∀ z ∈ y.snaps, ∃ m ∈ x.seen, z.epoch ≤ m) ∧
    (∀ z ∈ y.snaps, z.held → z.active = true) ∧ (y.snaps.filter (·.replBase)).length ≤ 1 ∧ (y.snaps.filter (·.replTarget)).length ≤ 1

/-- The retire queue holds each RETIRING snapshot once and nothing else, its scanner is IDLE exactly while it is empty, and one entry of it is auto-trim's while that is WORKING (R56, R62). -/
def retireOk (y : SnapVol) : Prop :=
  (y.retire.map RetireEntry.epoch).Nodup ∧ (∀ z ∈ y.snaps, z.active = false ↔ z.epoch ∈ y.retire.map RetireEntry.epoch) ∧
    (∀ e ∈ y.retire, ∃ z ∈ y.snaps, z.epoch = e.epoch) ∧ (y.trim = .idle ↔ y.retire = []) ∧
    (y.retire.filter fun e => decide (e.origin = .auto)).length = if y.auto = .working then 1 else 0

/-- The holds are those of the units that asked for them (Table 3-2): a snapshot's restore holds number the running contexts that read it; a queued run with a named target, and an active run
that knows its target, have REPL_TARGET on it; and no other snapshot carries it. -/
def State.holdsOk (s : State) : Prop :=
  (∀ v : Vol, ∀ z ∈ (s.snapVol v).snaps,
    z.holds = (ctxList.filter fun c => (s.restoreCtx c).running && decide ((s.restoreCtx c).volume = v) && decide ((s.restoreCtx c).epoch = z.epoch)).length ∧
      (z.replTarget = true → (∃ q ∈ s.ds.queue, q.volume = v ∧ q.newSnapshot = false ∧ q.label = z.label) ∨
        ∃ x ∈ s.ds.active, x.volume = v ∧ x.state ≠ .ended ∧ x.target = some z.epoch)) ∧
  (∀ c : Ctx, (s.restoreCtx c).running = true → (s.vol (s.restoreCtx c).volume).isOpen ∧ (s.vol (s.restoreCtx c).volume).defn.role = .primary ∧
    ∃ z ∈ (s.snapVol (s.restoreCtx c).volume).snaps, z.epoch = (s.restoreCtx c).epoch) ∧
  (∀ q ∈ s.ds.queue, (s.vol q.volume).isOpen ∧ (s.vol q.volume).defn.role = .primary ∧
    (q.newSnapshot = false → ∃ z ∈ (s.snapVol q.volume).snaps, z.label = q.label ∧ z.replTarget = true)) ∧
  ∀ x ∈ s.ds.active, x.state ≠ .ended → (s.vol x.volume).isOpen ∧ (s.vol x.volume).defn.role = .primary ∧
    ∀ t ∈ x.target, ∃ z ∈ (s.snapVol x.volume).snaps, z.epoch = t ∧ z.replTarget = true

/-- A create of the sender waits on a gate exactly while its run has no target yet (R51, R114). -/
def State.senderCreateOk (s : State) : Prop :=
  (∀ v : Vol, ∀ g ∈ (s.snapVol v).gate, g.ofSender = true → ∃ x ∈ s.ds.active, x.volume = v ∧ x.state = .offering ∧ x.target = none) ∧
    ∀ x ∈ s.ds.active, x.state ≠ .ended → x.target = none → ∃ g ∈ (s.snapVol x.volume).gate, g.ofSender = true

/-- The inbound runs' laws (R52, R135, R138, R154): no volume has two contexts; a context's volume is an open REPLICA whose snapshots lie below the run's target; a place is reserved for a commit
exactly while a context of the volume is COMMITTING, with its target as label; and a volume under REPLICA_RESET is an open REPLICA. -/
def State.inboundOk (s : State) : Prop :=
  (∀ c d : Ctx, c ≠ d → (s.inCtx c).state ≠ .free → (s.inCtx d).state ≠ .free → (s.inCtx c).volume ≠ (s.inCtx d).volume) ∧
    (∀ c : Ctx, (s.inCtx c).state ≠ .free → (s.vol (s.inCtx c).volume).isOpen ∧ (s.vol (s.inCtx c).volume).defn.role = .replica ∧
      ∀ z ∈ (s.snapVol (s.inCtx c).volume).snaps, z.epoch < (s.inCtx c).target) ∧
    (∀ c : Ctx, (s.inCtx c).state = .committing → (s.snapVol (s.inCtx c).volume).commitPlace = some (s.inCtx c).target) ∧
    (∀ v : Vol, (s.snapVol v).commitPlace ≠ none → ∃ c : Ctx, (s.inCtx c).state = .committing ∧ (s.inCtx c).volume = v) ∧
    ∀ v : Vol, (s.replVol v).reset ≠ none → (s.vol v).isOpen ∧ (s.vol v).defn.role = .replica

/-- The laws of the volumes, their snapshots and the holds on them (R5, R7, R47, R50 to R53, R56, R62, R135). In SAFE state every volume is UNDEFINED (R200). -/
structure State.snapsLawful (s : State) : Prop where
  volumes : ∀ v : Vol, volumeOkWith (s.vol v) (s.snapVol v)
  snapshots : ∀ v : Vol, snapshotsOk (s.vol v) (s.snapVol v)
  retire : ∀ v : Vol, retireOk (s.snapVol v)
  holds : s.holdsOk
  creates : s.senderCreateOk
  inbound : s.inboundOk
  safe : s.ps.safe = true → ∀ v : Vol, (s.vol v).state = .undefined

/-! ### Laws of the blocks -/

/-- Block `b` lies in a run of a list. -/
def covered (rs : List Run) (b : Nat) : Prop := ∃ r ∈ rs, r.first ≤ b ∧ b < r.stop

/-- No two runs of a list share a block. -/
def apart (rs : List Run) : Prop := rs.Pairwise fun a b => a.overlaps b = false

/-- The target runs that the restore contexts of a volume claim (R78). -/
def State.claimsOf (s : State) (v : Vol) : List Run :=
  ctxList.flatMap fun c => if (s.restoreCtx c).phase ≠ .free ∧ (s.restoreCtx c).volume = v then (s.restoreCtx c).claim else []

/-- The outgoing runs of a REPLICA_RESET, which count with the release list (R154). -/
def ReplVol.outgoing (x : ReplVol) : List Run := match x.reset with | some j => j.outgoing | none => []

/-- The runs that hold blocks of a volume: those of its records, its claims, its release list with a reset's outgoing runs, and its landing pool (R8). -/
def State.runsOf (s : State) (v : Vol) : List Run :=
  (s.records v).map Extent.run ++ s.claimsOf v ++ (s.snapVol v).release ++ (s.replVol v).outgoing ++ (s.replVol v).pool

/-- The extent table stands in its primary order, which no two records share (R3). -/
def Etu.ordered (x : Etu) : Prop := x.extents.Pairwise fun a b => a.volume < b.volume ∨ (a.volume = b.volume ∧ a.first < b.first)

/-- A RESTORE that runs holds the target blocks it has still to give to pieces; a piece in flight stands on one or two target segments, those that come next before its records are made, and after it
on its own FILLING records (R78, R82, R84). -/
def State.restoreOkAt (s : State) (x : RestoreCtx) : Prop :=
  (∀ g ∈ x.targets, 1 ≤ g.len) ∧ apart x.targets ∧
    (∀ g ∈ segmentsAt x.targets x.pos (runsLen x.targets), ∀ i < g.len, covered x.claim (g.first + i)) ∧
    ∀ f ∈ x.flight, runsLen f.segs = f.piece.len ∧ f.segs.length ≤ 2 ∧ apart f.segs ∧
      (f.created = false → f.segs = segmentsAt x.targets x.pos f.piece.len) ∧
      (f.created = true → ∀ g ∈ f.segs, ∃ e ∈ s.extents, e.volume = x.volume ∧ e.run = g ∧ e.filling = true)

/-- A FILLING record is LIVE, on a PRIMARY volume, and that of a piece whose unit the mover holds or has waiting (R74). -/
def State.fillingOk (s : State) (e : Extent) : Prop :=
  e.death = none ∧ (s.vol e.volume).defn.role = .primary ∧
    ∃ c : Ctx, (s.restoreCtx c).volume = e.volume ∧ ∃ f ∈ (s.restoreCtx c).flight, f.created = true ∧ e.run ∈ f.segs

/-- A slot that is not EMPTY holds entries and deletions of at least one block (R141). -/
def Slot.lensOk (y : Slot) : Prop := (∀ e ∈ y.entries, 1 ≤ e.len) ∧ ∀ d ∈ y.deletions, 1 ≤ d.len

/-- A LANDING slot's blocks are the first of its volume's pool, as many as the take mark (R144, R146). -/
def ReplVol.landingOk (x : ReplVol) (y : Slot) : Prop :=
  y.entries ≠ [] ∧ takeAll y.entries x.pool = some y.taken ∧ x.takeMark = y.blocks

/-- The laws of the blocks (R3, R8, R50, R74, R144): every block of a volume stands in one place at most; a RESTORE's pieces stand on its target blocks; a record is FILLING only for such a piece, and a
create waits on a gate only while one is; and a landing's blocks are the front of the pool. -/
structure State.blocksLawful (s : State) : Prop where
  order : s.etu.ordered
  exclusive : ∀ v : Vol, (∀ r ∈ s.runsOf v, 1 ≤ r.len) ∧ apart (s.runsOf v)
  restores : ∀ c : Ctx, (s.restoreCtx c).running = true → (s.restoreCtx c).probe = false → s.restoreOkAt (s.restoreCtx c)
  flightsApart : ∀ c d : Ctx, c ≠ d → (s.restoreCtx c).volume = (s.restoreCtx d).volume → ∀ f ∈ (s.restoreCtx c).flight, ∀ g ∈ (s.restoreCtx d).flight,
    f.created = true → g.created = true → ∀ a ∈ f.segs, ∀ b ∈ g.segs, a.overlaps b = false
  filling : ∀ e ∈ s.extents, e.filling = true → s.fillingOk e
  gates : ∀ v : Vol, (s.snapVol v).gate ≠ [] → s.anyFilling v = true
  slots : ∀ c : Ctx, ∀ i : Fin 2, (s.inCtx c).slots[i].lensOk
  landing : ∀ c : Ctx, ∀ i : Fin 2, (s.inCtx c).slots[i].state = .landing → (s.replVol (s.inCtx c).volume).landingOk (s.inCtx c).slots[i]
  marks : ∀ v : Vol, (s.replVol v).takeMark ≠ 0 → ∃ u ∈ s.dm.units, u.cls = .land ∧ (s.inCtx u.num).volume = v

/-! ### Laws of the epochs and marks -/

/-- A snapshot epoch lies from a record's birth up to, but not including, its death (R12, R60). -/
def Extent.spans (e : Extent) (t : Nat) : Prop := e.birth ≤ t ∧ ∀ d ∈ e.death, t < d

/-- What a record is goes with its volume (R1): the volume is defined; only on a REPLICA volume has it a source first block, and it always has; only there is it marked; it dies after its birth. -/
def State.recordOk (s : State) (e : Extent) : Prop :=
  (s.vol e.volume).state ≠ .undefined ∧ ((s.vol e.volume).defn.role = .replica ↔ e.source.isSome = true) ∧
    (e.mark ≠ none → (s.vol e.volume).defn.role = .replica) ∧ ∀ d ∈ e.death, e.birth < d

/-- A record's epochs are at most its volume's current epoch (R7), those of a provisional record apart; before OPEN_VOLUME they are at most the greatest epoch seen (R18). -/
def State.epochsOk (s : State) (e : Extent) : Prop :=
  (∀ n ∈ (s.vol e.volume).epoch, (e.mark.map Mark.kind ≠ some .provBirth → e.birth ≤ n) ∧ (e.mark = none → ∀ d ∈ e.death, d ≤ n)) ∧
    ((s.vol e.volume).state = .defined → ∃ m ∈ (s.vol e.volume).seen, e.birth ≤ m ∧ ∀ d ∈ e.death, d ≤ m)

/-- A provisional mark is that of a context of the record's volume (R136). A marked record is LIVE, but for one that a commit scan has held; a rollback scan leaves none behind its cursor. -/
def State.markOk (s : State) (e : Extent) (m : Mark) : Prop :=
  ∃ c : Ctx, (s.inCtx c).state ≠ .free ∧ (s.inCtx c).volume = e.volume ∧ (s.inCtx c).runId = m.runId ∧
    (e.death ≠ none → m.kind = .provDeath ∧ (s.inCtx c).state = .committing ∧ e.first < (s.inCtx c).cursor) ∧
    ((s.inCtx c).state = .aborting → (s.inCtx c).walkDone = false ∧ (s.inCtx c).cursor ≤ e.first)

/-- A producer that waits on a volume's release list stands at the record it has to remove, or has an outgoing run to append (R59, R66, R151, R153, R154). -/
def State.producerOk (s : State) (v : Vol) : Producer → Prop
  | .trim => ∃ e ∈ s.records v, (s.snapVol v).trim = .waiting e.first
  | .commit c => (s.inCtx c).state = .committing ∧ (s.inCtx c).volume = v ∧
      ∃ e ∈ s.records v, e.first = (s.inCtx c).cursor ∧ e.mark = some ⟨(s.inCtx c).runId, .provDeath⟩
  | .rollback c => (s.inCtx c).state = .aborting ∧ (s.inCtx c).volume = v ∧
      ∃ e ∈ s.records v, e.first = (s.inCtx c).cursor ∧ e.mark = some ⟨(s.inCtx c).runId, .provBirth⟩
  | .reset => ∃ j ∈ (s.replVol v).reset, j.emptied = true ∧ j.outgoing ≠ []

/-- Where a trim scan stands (R4, R59). -/
def TrimState.place : TrimState → Option Nat
  | .idle => none
  | .scanning n => some n
  | .waiting n => some n

/-- The trim scan of the front entry has left no HELD record behind its cursor that only its own snapshot spans (R57, R60). -/
def State.trimOk (s : State) (v : Vol) (t : RetireEntry) (cursor : Nat) : Prop :=
  ∀ e ∈ s.records v, e.death ≠ none → e.spans t.epoch → e.first < cursor → ∃ z ∈ (s.snapVol v).snaps, z.epoch ≠ t.epoch ∧ e.spans z.epoch

/-- An inbound run lands nothing born after its target (R141). -/
def Slot.birthsOk (y : Slot) (target : Nat) : Prop := ∀ p ∈ y.entries, p.birth ≤ target

/-- No record of an inbound run's volume is born or dies after the run's target (R138, R141, R151). -/
def Extent.within (e : Extent) (target : Nat) : Prop := e.birth ≤ target ∧ ∀ d ∈ e.death, d ≤ target

/-- The laws of the epochs and marks (R1, R7, R60, R66, R136). -/
structure State.epochsLawful (s : State) : Prop where
  records : ∀ e ∈ s.extents, s.recordOk e ∧ s.epochsOk e
  held : ∀ e ∈ s.extents, e.death ≠ none → ∃ z ∈ (s.snapVol e.volume).snaps, e.spans z.epoch
  trims : ∀ v : Vol, (s.snapVol v).retire ≠ [] → ∀ n, (s.snapVol v).trim = .waiting n →
    .trim ∈ (s.snapVol v).producers ∧ ∃ e ∈ s.records v, e.first = n ∧ e.death ≠ none
  marks : ∀ e ∈ s.extents, ∀ m ∈ e.mark, s.markOk e m
  inbound : ∀ c : Ctx, (s.inCtx c).state ≠ .free →
    (∀ e ∈ s.records (s.inCtx c).volume, e.within (s.inCtx c).target) ∧ ∀ i : Fin 2, (s.inCtx c).slots[i].birthsOk (s.inCtx c).target
  producers : ∀ v : Vol, (s.snapVol v).producers.Nodup ∧ ∀ p ∈ (s.snapVol v).producers, s.producerOk v p

/-- Every trim scan has left no HELD record behind its cursor that only its own snapshot spans (R57, R60). -/
def State.trimsLawful (s : State) : Prop :=
  ∀ v : Vol, ∀ t ∈ (s.snapVol v).retire.head?, ∀ n ∈ (s.snapVol v).trim.place, s.trimOk v t n

/-! ### Laws of the accounts' usage -/

/-- A record charges an account (Table 1-2). -/
def State.charges (s : State) (e : Extent) (i : Nat) : Bool :=
  if e.death.isSome then decide (i = reserveIndex e.volume)
  else if (s.vol e.volume).defn.role = .replica then decide (i = landingIndex e.volume)
  else decide (i = e.owner) || decide (e.group = some i)

/-- The accounts that a record charges have their kinds (R10, R23, Table 2-1). -/
def State.kindsOk (s : State) (e : Extent) : Prop :=
  e.death = none → (s.vol e.volume).defn.role = .primary → (s.account e.owner).kind = .user ∧ ∀ g ∈ e.group, (s.account g).kind = .group

/-- The laws of the accounts' usage (R23, R26): every account's usage is the sum of the charges of the records that charge it, and its record count their number; and a defined volume has its RESERVE
account, and a REPLICA volume its LANDING account. -/
structure State.usageLawful (s : State) : Prop where
  usage : ∀ i, (s.account i).usage = ((s.extents.filter (s.charges · i)).map fun e => s.chargeOf e.volume e.len).sum
  records : ∀ i, (s.account i).records = (s.extents.filter (s.charges · i)).length
  kinds : ∀ e ∈ s.extents, s.kindsOk e
  volumes : ∀ v : Vol, ((s.account (reserveIndex v)).kind = if (s.vol v).defn.role = .unused then .none else .reserve) ∧
    ((s.account (landingIndex v)).kind = if (s.vol v).defn.role = .replica then .landing else .none)

/-! ### What the statements say of a change -/

/-- `u` differs from `s` in the pending notice set at most (R186, R188): every other part of the state is the same. -/
def State.noticesOnly (s u : State) : Prop :=
  u = s.setRiu { s.riu with notices := u.riu.notices, overflow := u.riu.overflow, lost := u.riu.lost }

/-- The notices of accounts, each with its account, are raised in their order (R45). -/
def State.raising (ns : List (NoticeKind × Nat)) (s : State) : State := ns.foldl (fun t n => raise n.1 n.2 0 t) s

/-- `u` differs from `s` in the accounts, the grace timer list and the notices `ns`, raised in their order, at most; the clock and its examination are the same, and a grace timer list that
held exactly the accounts in GRACE still does (R28, R43, R45). -/
def State.accountsOnly (s u : State) (ns : List (NoticeKind × Nat)) : Prop :=
  u = (s.raising ns).setQu u.qu ∧ u.qu.clock = s.qu.clock ∧ u.qu.examining = s.qu.examining ∧ (s.qu.ok → u.qu.ok)

/-- A USER or GROUP account after a charge of `c`, re-rated, with the notices this raises (R26, R28). -/
def State.chargedUser (s : State) (c i : Nat) : Account × List NoticeKind :=
  rateUser s.qu.clock { s.account i with usage := (s.account i).usage + c, records := (s.account i).records + 1 }

/-- A USER or GROUP account after a refund of `c`, re-rated, with the notices this raises (R28, R33). -/
def State.refundedUser (s : State) (c i : Nat) : Account × List NoticeKind :=
  rateUser s.qu.clock { s.account i with usage := (s.account i).usage - c, records := (s.account i).records - 1 }

/-- The notices of an owner's account and then those of its group's, each with its account; the manual orders the notices of one account only (R45; notes/assumptions/19.md). -/
def ownerThenGroup (owner : Nat) (group : Option Nat) (f : Nat → Account × List NoticeKind) : List (NoticeKind × Nat) :=
  (f owner).2.map (·, owner) ++ (match group with | some g => (f g).2.map (·, g) | none => [])

/-- The state of a RESERVE account with limit `hard` and usage `usage` (R35). -/
def reserveState (hard usage : Nat) : AccountState := if hard ≠ 0 ∧ hard < usage then .over else .under

/-- The notice of a RESERVE account that enters OVER (R35). -/
def reserveNotice (v : Vol) (old new : AccountState) : List (NoticeKind × Nat) :=
  if old ≠ .over ∧ new = .over then [(.reserveOver, v.val)] else []

/-- Auto-trim after a RESERVE account's re-rating: one that enters OVER starts it where the volume's definition has it, and one that stays OVER lets a STALLED one look again (R35, R62, R64). One
that leaves OVER does neither, which is the model's choice (notes/assumptions/49.md). -/
def reserveTrim (v : Vol) (old new : AccountState) (s : State) : State :=
  if old ≠ .over ∧ new = .over then (if (s.vol v).defn.autoTrim then autoTrimStart v s else s)
  else if new = .over then autoTrimAgain v s else s

/-- The notices of a LANDING account whose usage passes from `old` to that of `a` (R36; notes/assumptions/19.md). -/
def landingNotices (i old : Nat) (a : Account) : List (NoticeKind × Nat) :=
  (if a.hard ≠ 0 ∧ a.hard < a.usage ∧ a.state ≠ .overHard then [(.hardExceeded, i)] else []) ++
    (if a.hard ≠ 0 ∧ old ≤ a.soft ∧ a.soft < a.usage then [(.softCrossed, i)] else [])

/-- Night applies at an hour of a window (R124). -/
def nightAt (start stop hour : Nat) : Prop := (start < stop ∧ start ≤ hour ∧ hour < stop) ∨ (stop < start ∧ (start ≤ hour ∨ hour < stop))

/-- The pacing values and timeouts are those of page 21 (R171, R197), and the P in use is the one they give at a clock value (R124). -/
def Ds.setBy (d : Ds) (page : List Byte) (clock : Nat) : Prop :=
  d.settings.pDay = field page 0 2 ∧ d.settings.pNight = field page 2 2 ∧
    (d.settings.nightStart, d.settings.nightEnd) = (if field page 4 1 ≤ 23 ∧ field page 5 1 ≤ 23 then (field page 4 1, field page 5 1) else (0, 0)) ∧
    d.settings.receiptTimeout = max 5 (min (field page 6 2) 600) ∧ d.settings.idleTimeout = max 30 (min (field page 8 2) 3600) ∧
    (nightAt d.settings.nightStart d.settings.nightEnd (clock % 86400 / 3600) → d.p = d.settings.pNight) ∧
    (¬nightAt d.settings.nightStart d.settings.nightEnd (clock % 86400 / 3600) → d.p = d.settings.pDay)

/-- The local peer id, the EtherType and the four peer entries, their frame-error flags apart, are those of pages 0 and 17 to 20 (R197). -/
def Lc.setBy (x : Lc) (page : Nat → List Byte) : Prop :=
  x.localId = field (page 0) 32 4 ∧ x.etherType = field (page 0) 36 2 ∧
    ∀ i : Ctx, x.peers[i].address = field (page (17 + i.val)) 0 6 ∧ x.peers[i].id = field (page (17 + i.val)) 6 4 ∧
      (x.peers[i].enabled = true ↔ field (page (17 + i.val)) 10 1 = 1)

/-- A volume and its two accounts are as a definition that takes effect leaves them (R5, R22, R23). -/
def State.setBy (s : State) (v : Vol) (d : VolumeDef) : Prop :=
  s.vol v = (if d.role = .unused then .undefined else ⟨.defined, d, none, none, none⟩) ∧
    s.account v.val = (if d.role = .unused then Account.none else ⟨.reserve, 0, d.reserveLimit, d.reserveMargin, 0, none, .under, false, 0⟩) ∧
    s.account (16 + v.val) = (if d.role = .replica then ⟨.landing, 0, d.landingLimit, d.landingMargin, 0, none, .under, false, 0⟩ else Account.none)

/-- The status code of the first check of a list that fails: the refusals of a rule, in its order. -/
def firstFailing (checks : List (Bool × Nat)) : Option Nat := (checks.find? (·.1)).map (·.2)

end Sys2Proof.Machine
end

