-- ==== Sys2Proof/WellFormed.lean ====
section
/-! DEFINITION. What a command must satisfy to be one that the part can be given: every field fits the width that Table 11-1 gives it, buffer operands have the
length the request names, and register values fit their registers. The range checks that the rules make are not here: a request that fails one is well formed
and is refused. -/

namespace Sys2Proof

/-- A value fits a field of `w` bytes (Table 11-1). -/
def fits (w n : Nat) : Bool := decide (n < 2 ^ (8 * w))

/-- An optional value fits its field. -/
def fitsOpt (w : Nat) : Option Nat → Bool
  | none => true
  | some n => fits w n

/-- The fields of a CHARGE fit (Table 11-1). -/
def ChargeParams.fits (p : ChargeParams) : Bool :=
  Sys2Proof.fits 1 p.volume && Sys2Proof.fits 6 p.first && Sys2Proof.fits 2 p.len && Sys2Proof.fits 6 p.object &&
    Sys2Proof.fits 6 p.offset && Sys2Proof.fits 4 p.owner && fitsOpt 4 p.group

/-- The fields of a request fit the record (Tables 11-1 and 11-2). -/
def Request.fits : Request → Bool
  | .charge p => p.fits
  | .split p => Sys2Proof.fits 1 p.volume && Sys2Proof.fits 6 p.first && Sys2Proof.fits 2 p.k
  | .drop p => Sys2Proof.fits 1 p.volume && Sys2Proof.fits 6 p.first
  | .queryExtent p => Sys2Proof.fits 1 p.volume && Sys2Proof.fits 6 p.block && Sys2Proof.fits 8 p.buffer
  | .queryVolume v => Sys2Proof.fits 1 v
  | .loadSnapshot p => Sys2Proof.fits 1 p.volume && Sys2Proof.fits 4 p.epoch && Sys2Proof.fits 8 p.label && Sys2Proof.fits 4 p.createdAt
  | .loadExtent p => p.charge.fits && Sys2Proof.fits 4 p.birth && fitsOpt 4 p.death && fitsOpt 6 p.source
  | .openVolume p => Sys2Proof.fits 1 p.volume && Sys2Proof.fits 4 p.epoch
  | .sealVolume v => Sys2Proof.fits 1 v
  | .unsealVolume v => Sys2Proof.fits 1 v
  | .scanOut p =>
    Sys2Proof.fits 1 p.volume && Sys2Proof.fits 1 p.what && Sys2Proof.fits 8 p.buffer && Sys2Proof.fits 2 p.max && Sys2Proof.fits 8 p.key
  | .setLimit p => Sys2Proof.fits 4 p.account && Sys2Proof.fits 6 p.hard && Sys2Proof.fits 1 p.margin && Sys2Proof.fits 4 p.grace
  | .loadAccount p =>
    Sys2Proof.fits 4 p.account && Sys2Proof.fits 1 p.kind && Sys2Proof.fits 6 p.hard && Sys2Proof.fits 1 p.margin &&
      Sys2Proof.fits 4 p.grace && fitsOpt 4 p.deadline
  | .dropAccount i => Sys2Proof.fits 4 i
  | .queryAccount p => Sys2Proof.fits 4 p.account && Sys2Proof.fits 8 p.buffer
  | .setClock n => Sys2Proof.fits 4 n
  | .snapshotCreate p => Sys2Proof.fits 1 p.volume && Sys2Proof.fits 8 p.label
  | .snapshotRetire p => Sys2Proof.fits 1 p.volume && Sys2Proof.fits 8 p.label
  | .takeReleased p => Sys2Proof.fits 1 p.volume && Sys2Proof.fits 8 p.buffer && Sys2Proof.fits 2 p.max
  | .restore p =>
    Sys2Proof.fits 1 p.volume && Sys2Proof.fits 8 p.label && Sys2Proof.fits 6 p.srcObject && Sys2Proof.fits 6 p.srcOffset &&
      Sys2Proof.fits 4 p.count && Sys2Proof.fits 6 p.tgtObject && Sys2Proof.fits 6 p.tgtOffset && Sys2Proof.fits 4 p.owner &&
      fitsOpt 4 p.group && Sys2Proof.fits 8 p.buffer && Sys2Proof.fits 1 p.runs
  | .probe p =>
    Sys2Proof.fits 1 p.volume && Sys2Proof.fits 8 p.label && Sys2Proof.fits 6 p.srcObject && Sys2Proof.fits 6 p.srcOffset &&
      Sys2Proof.fits 4 p.count && Sys2Proof.fits 8 p.buffer && Sys2Proof.fits 2 p.max
  | .cancelRestore t => Sys2Proof.fits 8 t
  | .queryMover c => Sys2Proof.fits 1 c
  | .faultClear c => Sys2Proof.fits 1 c
  | .runStart p => Sys2Proof.fits 1 p.volume && Sys2Proof.fits 8 p.label
  | .runCancel v => Sys2Proof.fits 1 v
  | .queryRun v => Sys2Proof.fits 1 v
  | .giveRuns p => Sys2Proof.fits 1 p.volume && Sys2Proof.fits 8 p.buffer && Sys2Proof.fits 2 p.count
  | .replicaReset v => Sys2Proof.fits 1 v
  | .queryInbound v => Sys2Proof.fits 1 v
  | .queryPeer i => Sys2Proof.fits 1 i
  | .storeStage p => Sys2Proof.fits 1 p.offset && Sys2Proof.fits 1 p.count && decide (p.data.length = 32)
  | .storeCommit p => Sys2Proof.fits 1 p.page && Sys2Proof.fits 1 p.op
  | .storeVerify => true
  | .storeRead p => Sys2Proof.fits 1 p.page && Sys2Proof.fits 8 p.buffer
  | .applyDefinitions => true
  | .format => true

/-- A list of runs of `n` records, whose fields have `a` and `b` bytes (Table 11-9). -/
def runsFit (a b n : Nat) (rs : List Run) : Bool := decide (rs.length = n) && rs.all fun r => fits a r.first && fits b r.len

/-- An Ethernet frame's addresses and EtherType fit (R158). -/
def EthFrame.fits (f : EthFrame) : Bool := Sys2Proof.fits 6 f.dest && Sys2Proof.fits 6 f.src && Sys2Proof.fits 2 f.etherType

/-- The ring, tag and request of a request command; none for the other commands. -/
def Instr.request : Instr → Option (RingNo × Nat × Request)
  | .charge r t p => some (r, t, .charge p)
  | .split r t p => some (r, t, .split p)
  | .drop r t p => some (r, t, .drop p)
  | .queryExtent r t p => some (r, t, .queryExtent p)
  | .queryVolume r t v => some (r, t, .queryVolume v)
  | .loadSnapshot r t p => some (r, t, .loadSnapshot p)
  | .loadExtent r t p => some (r, t, .loadExtent p)
  | .openVolume r t p => some (r, t, .openVolume p)
  | .sealVolume r t v => some (r, t, .sealVolume v)
  | .unsealVolume r t v => some (r, t, .unsealVolume v)
  | .scanOut r t (.request p) => some (r, t, .scanOut p)
  | .setLimit r t p => some (r, t, .setLimit p)
  | .loadAccount r t p => some (r, t, .loadAccount p)
  | .dropAccount r t i => some (r, t, .dropAccount i)
  | .queryAccount r t p => some (r, t, .queryAccount p)
  | .setClock r t n => some (r, t, .setClock n)
  | .snapshotCreate r t p => some (r, t, .snapshotCreate p)
  | .snapshotRetire r t p => some (r, t, .snapshotRetire p)
  | .takeReleased (.request r t p) => some (r, t, .takeReleased p)
  | .restore r t p _ => some (r, t, .restore p)
  | .probe r t p => some (r, t, .probe p)
  | .cancelRestore r t x => some (r, t, .cancelRestore x)
  | .queryMover r t c => some (r, t, .queryMover c)
  | .faultClear r t c => some (r, t, .faultClear c)
  | .runStart r t p => some (r, t, .runStart p)
  | .runCancel r t v => some (r, t, .runCancel v)
  | .queryRun r t v => some (r, t, .queryRun v)
  | .giveRuns r t p _ => some (r, t, .giveRuns p)
  | .replicaReset r t v => some (r, t, .replicaReset v)
  | .queryInbound r t v => some (r, t, .queryInbound v)
  | .queryPeer r t i => some (r, t, .queryPeer i)
  | .storeStage r t p => some (r, t, .storeStage p)
  | .storeCommit r t p => some (r, t, .storeCommit p)
  | .storeVerify r t => some (r, t, .storeVerify)
  | .storeRead r t p => some (r, t, .storeRead p)
  | .applyDefinitions r t => some (r, t, .applyDefinitions)
  | .format r t => some (r, t, .format)
  | _ => none

/-- What a command's other operands must satisfy: frames, registers, buffer operands and steps. -/
def Instr.operandsFit : Instr → Bool
  | .scanOut _ t .goOn => decide (t = 0)
  | .restore _ _ p rs => runsFit 8 8 p.runs rs
  | .giveRuns _ _ p rs => runsFit 6 2 p.count rs
  | .receiptTimerExpiry seq => fits 4 seq
  | .offer f | .accept f | .decline f | .batchHead f | .batchData f | .batchEnd f | .receipt f | .close f | .closed f | .abort f
  | .frameRejected f => f.fits
  | .storeCommitEnd ms => ms.all fun m => decide (m.1 < 256)
  | .unknownRequest _ t k => fits 8 t && fits 1 k
  | .ringSetup _ n => fits 4 n
  | .requestTailWrite _ n => fits 4 n
  | .answerConsumedWrite _ n => fits 4 n
  | .stallSeenClear _ n => fits 4 n
  | .registerWrite o n => decide (o < 4096) && fits 8 n
  | .ringAccessFault (.buffer _ q _) => q.fits
  | _ => true

/-- A command is well formed. -/
def Instr.wf (i : Instr) : Bool :=
  i.operandsFit && (match i.request with | some (_, t, q) => fits 8 t && q.fits | none => true)

end Sys2Proof
end

