-- ==== Sys2Proof/Certificates/Slice0/Obligations.lean ====
section
/-! DEFINITION. The statements for the provers: what the commands and the part's shared operations do, by the numbered rules of spec/. -/

open Sys2Proof Sys2Proof.Machine

/-! ### The queue, reset, and the laws every step keeps -/

/-- The command at the front of the queue is carried out on the state with the queue's rest; on an empty queue the part idles. The queue and its idling are the model's
choice (notes/assumptions/3.md). -/
def Obligations.StepRunsTheFrontCommand : Prop :=
  ∀ (s : State), (∀ c rest, s.pending = c :: rest → step s = exec c (s.setPending rest)) ∧ (s.pending = [] → step s = .next s)

/-- Every command answers a next state, and leaves the queue of waiting commands as it was. That no command stops the part is the model's reading of 0.2 and chapter 9: an error is
a status, a flag or a notice; the queue is its choice (notes/assumptions/3.md, notes/assumptions/4.md). -/
def Obligations.EveryCommandAnswersAndKeepsTheQueue : Prop :=
  ∀ (c : Instr) (s : State), ∃ t, exec c s = .next t ∧ t.pending = s.pending

/-- What a cold start leaves in each block (R22, R46, R70, R93, R109, R134, R157, R173, R189, R200 step 4) holds of State.reset, whose store is an erased one
(notes/assumptions/1.md), and State.reset keeps every law of the device, those of the statements below included. -/
def Obligations.ResetLeavesColdStartValues : Prop :=
  State.reset.ok ∧ State.reset.linked ∧ State.reset.snapsLawful ∧ State.reset.blocksLawful ∧ State.reset.epochsLawful ∧ State.reset.trimsLawful ∧
    State.reset.usageLawful ∧
    State.reset.extents = [] ∧ (∀ v, (State.reset.vol v).state = .undefined ∧ State.reset.snapVol v = .empty) ∧
    State.reset.qu.accounts = [] ∧ State.reset.qu.timers = [] ∧ State.reset.qu.clock = 0 ∧
    (∀ c, (State.reset.restoreCtx c).phase = .free ∧ (State.reset.inCtx c).state = .free) ∧
    State.reset.dm.engine = none ∧ State.reset.dm.waiting = [] ∧ State.reset.dm.pointer = .land ∧ (∀ k, State.reset.faultRec k = .clear) ∧
    State.reset.ds.queue = [] ∧ State.reset.ds.active = none ∧ State.reset.ds.nextRunId = 1 ∧ State.reset.ds.bucket = 0 ∧
    (∀ v, (State.reset.replVol v).pool = [] ∧ (State.reset.replVol v).last = none) ∧
    State.reset.lc.up = false ∧ (∀ i : Ctx, State.reset.lc.peers[i] = ⟨0, 0, false, false⟩) ∧
    (∀ r, (State.reset.ring r).state = .disabled ∧ (State.reset.ring r).cause = .none ∧ (State.reset.ring r).stallSeen = false ∧
      State.reset.scanOf r = none) ∧
    State.reset.riu.notices = [] ∧ State.reset.riu.overflow = false ∧ State.reset.riu.lost = 0 ∧
    State.reset.ps.safe = true ∧ State.reset.ps.verifies 0 = false

/-- Every step keeps PCI Express memory and the pages of the policy store in their canonical forms (R97, R190, R192), from every state that has them. -/
def Obligations.StepKeepsMemoryAndStoreForms : Prop :=
  ∀ s t : State, memOk s.mem → s.ps.ok → step s = .next t → memOk t.mem ∧ t.ps.ok

/-- Every step keeps the laws of the rings and of the pending notice set (R175, R177, R178, R182 to R186, R188), from every state that keeps them. -/
def Obligations.StepKeepsRingAndNoticeLaws : Prop :=
  ∀ s t : State, s.riu.ok → step s = .next t → t.riu.ok

/-- Every step keeps the laws of the accounts: the kinds an index admits (Table 2-1), the states a kind admits (Table 2-2), and a grace timer list that holds exactly the
accounts in GRACE by ascending deadline and index (R43), and R30's two laws: an account above a limit that is not 0 is OVER_HARD exactly then, and an account in GRACE is in the list with a
deadline; from every state that keeps them. -/
def Obligations.StepKeepsAccountAndGraceLaws : Prop :=
  ∀ s t : State, s.qu.ok → step s = .next t → t.qu.ok

/-- Every step keeps the capacities: 16,777,216 extent records (R3), 4,096 entries of each release list (R65) and landing pool (R144), 256 pieces of each plan
(R79), 16 control frames with none waiting while the link is DOWN (R160, R166, R168), and 64 credits (R123). The snapshot list's 64 places and the retire queue are among the snapshots'
laws, and the run queue's 16 and the outstanding list's 8 among the waiting laws. -/
def Obligations.StepKeepsCapacities : Prop :=
  ∀ s t : State, s.etu.ok → s.su.ok → s.ru.ok → s.dr.ok → s.lc.ok → s.ds.ok → step s = .next t →
    t.etu.ok ∧ t.su.ok ∧ t.ru.ok ∧ t.dr.ok ∧ t.lc.ok ∧ t.ds.ok

/-- Every step keeps the laws of what waits for what: the waiting answers and their owners (R73, R88, R110), the pieces in flight and their gate order (R50, R82), the inbound slots
(R135, R146, R149), the mover's units, of which no requester has two and none is of a faulted class (R95, R99, R104), the SHIP unit (R121, R127), the run queue, which holds at most 16
runs and no volume twice (R113), and the sender's batches, at most 8 outstanding, whose seqs are consecutive (R121, R122); from every state that keeps them and the rings' laws. -/
def Obligations.StepKeepsWaitingLaws : Prop :=
  ∀ s t : State, s.riu.ok → s.linked → step s = .next t → t.linked

/-- Every step keeps the laws of the volumes, their snapshots and the holds: the volume's record (R5), ascending epochs below the current epoch (R7), no label twice and at most 64
snapshots with the reserved places (R47), the gate (R50), the holds and who has them, a held snapshot ACTIVE and one REPL_BASE and one REPL_TARGET at most (R53, Table 3-2), the retire queue and auto-trim
(R56, R62), and the places and contexts of inbound runs (R52, R135, R138, R154); from every state that keeps them and the laws before. -/
def Obligations.StepKeepsSnapshotLaws : Prop :=
  ∀ s t : State, s.riu.ok → s.linked → s.snapsLawful → step s = .next t → t.snapsLawful

/-- Every step keeps the laws of the blocks: the extent table's order (R3); no block of a volume in two of its records, restore targets, release list, outgoing runs and landing pool (R8);
a FILLING record is that of a piece whose unit the mover has (R74), and a create waits only while one is (R50); and a landing stands on the front of the pool (R144, R146); from every state
that keeps them and the laws before. -/
def Obligations.StepKeepsBlockLaws : Prop :=
  ∀ s t : State, s.riu.ok → s.linked → s.snapsLawful → s.blocksLawful → step s = .next t → t.blocksLawful

/-- Every step keeps the laws of the epochs and marks: what a record is goes with its volume (R1), no epoch exceeds the volume's current epoch (R7, R18), every HELD record is spanned by a
snapshot (R60), a provisional mark is that of an inbound run of the volume (R136), and a producer waits at its record (R66); from every state that keeps them and the laws before. A trim scan
that would leave a HELD record with no snapshot, one loaded on a DEFINED volume behind its cursor, walks again, which is the model's choice (notes/assumptions/41.md). From a state in which no
DEFINED volume has a RETIRING snapshot, a step also keeps the law that a trim scan has left no such record behind its cursor. -/
def Obligations.StepKeepsEpochLaws : Prop :=
  ∀ s t : State, s.riu.ok → s.linked → s.snapsLawful → s.blocksLawful → s.epochsLawful → step s = .next t →
    t.epochsLawful ∧ ((∀ v, (s.vol v).state = .defined → (s.snapVol v).retire = []) → s.trimsLawful → t.trimsLawful)

/-- Every step keeps the laws of the accounts' usage: the usage of every account is the sum of the charges of the records that charge it, and its record count their number (R23, R26), and the
accounts that a record or a volume charges have their kinds (R10, Table 2-1); from every state that keeps them and the laws before. -/
def Obligations.StepKeepsUsageLaws : Prop :=
  ∀ s t : State, s.riu.ok → s.linked → s.snapsLawful → s.blocksLawful → s.epochsLawful → s.usageLawful → step s = .next t → t.usageLawful

/-- The store's pages change only when a commit ends (R190, R194) or at a cold start; the SAFE flag only at a cold start or at the end of a FORMAT (R200); the staging page only by
STORE_STAGE or at a cold start (R192), where a request is taken from a ring or given as its own command; and the strap only with the operand of a cold start, which
is the model's choice (notes/assumptions/3.md). -/
def Obligations.StoreChangesOnlyByItsOwnCommands : Prop :=
  ∀ (c : Instr) (s t : State), exec c s = .next t →
    (t.ps.pages = s.ps.pages ∨ (∃ m, c = .storeCommitEnd m) ∨ ∃ b n, c = .coldStart b n) ∧
    (t.ps.safe = s.ps.safe ∨ c = .formatEnd ∨ ∃ b n, c = .coldStart b n) ∧
    (t.ps.staging = s.ps.staging ∨ (∃ r g p, c = .storeStage r g p) ∨ (∃ r, c = .requestIntake r) ∨ ∃ b n, c = .coldStart b n) ∧
    (t.strap = s.strap ∨ ∃ b n, c = .coldStart b n)

/-! ### Records and frames as bytes -/

/-- The 64-byte record of a request whose fields fit their widths reads back as that request, with its tag (R203, Tables 11-1 to 11-3): for every request kind and every
field value the record admits. -/
def Obligations.RequestRecordReadsBack : Prop :=
  ∀ (tag : Nat) (q : Request), tag < 2 ^ 64 → q.fits = true →
    (requestBytes tag q).length = 64 ∧ readRequest (requestBytes tag q) = some q ∧ field (requestBytes tag q) 0 8 = tag

/-- A frame that a part with local peer id `id` sends passes the checks of a part whose lowest enabled entry for its source names that id, and arrives with every field and
payload byte as sent, whatever padding follows it (R158, R161 to R164, Table 11-10): for every frame of a kind and direction of Table 8-3 whose fields fit. And the entry lists of a
BATCH_HEAD read back from its payload and argument as they were written (R118), for entries whose fields fit. -/
def Obligations.SentFrameArrivesWhole : Prop :=
  (∀ (s : State) (i : Ctx) (src id : Nat) (f : OutFrame) (padding : List Byte),
    s.lc.up = true → s.lc.peers[i].enabled = true → s.lc.peers[i].address = src → s.lc.peers[i].id = id →
    (∀ j : Ctx, j < i → s.lc.peers[j].enabled = true → s.lc.peers[j].address = src → s.lc.peers[j].id ≠ id) →
    dirAllowed f.kind f.dir = true → lengthAllowed f.kind f.arg f.payload.length = true → argAllowed f.kind f.arg = true →
    id < 2 ^ 32 → f.runId < 2 ^ 32 → f.sendVol < 256 → f.recvVol < 256 → f.seq < 2 ^ 32 → f.arg < 2 ^ 32 → f.payload.length ≤ 8976 →
    24 + f.payload.length + padding.length ≤ 9000 →
    s.arrival ⟨true, s.lc.station, src, s.lc.etherType, frameBytes id f ++ padding⟩ =
      .pass ⟨i, src, ⟨f.kind, f.dir, id, f.runId, f.sendVol, f.recvVol, f.seq, f.arg⟩, f.payload⟩) ∧
  ∀ (es : List PayloadEntry) (ds : List Run), es.length < 65536 → ds.length < 65536 →
    (∀ e ∈ es, e.first < 2 ^ 48 ∧ e.len < 8192 ∧ e.object < 2 ^ 48 ∧ e.offset < 2 ^ 48 ∧ e.owner < 2 ^ 32 ∧ e.birth < 2 ^ 32 ∧
      ∀ g, e.group = some g → g < 2 ^ 32) →
    (∀ d ∈ ds, d.first < 2 ^ 48 ∧ d.len < 65536) →
    (headPayload es ds).length = 32 * es.length + 8 * ds.length ∧ readHead (headArg es ds) (headPayload es ds) = (es, ds)

/-- The digest arithmetic (R169): an addition is the sum of the two words, with a carry out of bit 31 dropped and 1 added; payload words are taken four bytes at a time, the first
byte lowest, and added in turn; and the digest does not depend on the order of the words (8.7). The header check is such a sum of 16-bit words (R163): a frame whose check differs from the
end-around sum of the header's other eleven words, or whose Ethernet payload is shorter than 24 bytes, sets the frame-error flag of the entry charged and changes nothing else; a frame too
short for a sender peer id is charged to the lowest-numbered enabled entry of its source; and one whose source matches no enabled entry leaves no trace (R161). -/
def Obligations.DigestAndHeaderCheckAreEndAroundSums : Prop :=
  (∀ a b : Digest, (digestAdd a b).toNat = if a.toNat + b.toNat < 2 ^ 32 then a.toNat + b.toNat else a.toNat + b.toNat - 2 ^ 32 + 1) ∧
    (∀ (w x y z : Byte) (rest : List Byte), digestWords (w :: x :: y :: z :: rest) =
      BitVec.ofNat 32 (w.toNat + 256 * x.toNat + 65536 * y.toNat + 16777216 * z.toNat) :: digestWords rest) ∧
    (∀ (d : Digest) (bs : List Byte), digestFeed d bs = (digestWords bs).foldl digestAdd d) ∧
    (∀ a b : Digest, digestAdd a b = digestAdd b a) ∧ (∀ a b c : Digest, digestAdd (digestAdd a b) c = digestAdd a (digestAdd b c)) ∧
    (∀ (d : Digest) (xs ys : List Byte), xs.length % 4 = 0 → digestFeed d (xs ++ ys) = digestFeed (digestFeed d xs) ys) ∧
    (∀ a b : Nat, a < 65536 → b < 65536 → checkAdd a b < 65536 ∧ checkAdd a b = if a + b < 65536 then a + b else a + b - 65536 + 1) ∧
    (∀ (s : State) (f : EthFrame) (i : Ctx), s.lc.up = true → s.portTakes f = true →
      (s.lc.peers[i].enabled = true ∧ s.lc.peers[i].address = f.src) →
      (8 ≤ f.payload.length ∧ s.lc.peers[i].id = field f.payload 4 4 ∧
          (∀ j : Ctx, j < i → s.lc.peers[j].enabled = true → s.lc.peers[j].address = f.src → s.lc.peers[j].id ≠ field f.payload 4 4) ∨
        (∀ j : Ctx, s.lc.peers[j].enabled = true → s.lc.peers[j].address = f.src →
          i ≤ j ∧ (f.payload.length < 8 ∨ s.lc.peers[j].id ≠ field f.payload 4 4))) →
      (f.payload.length < 24 ∨
        [0, 4, 6, 8, 10, 12, 14, 16, 18, 20, 22].foldl (fun acc o => checkAdd acc (field f.payload o 2)) 0 ≠ field f.payload 2 2) →
      exec (.frameRejected f) s =
        .next (s.setLc { s.lc with peers := s.lc.peers.set i { s.lc.peers[i] with frameError := true } })) ∧
    ∀ (s : State) (f : EthFrame), (∀ i : Ctx, s.lc.peers[i].enabled = true → s.lc.peers[i].address ≠ f.src) → exec (.frameRejected f) s = .next s
/-! ### Answers, rings and notices (chapter 9) -/

/-- Answers (R179, R182 to R185, Table 11-4). Writing one puts its 32 bytes at the answer base plus 32 times the answer posted, leaves every other byte of PCI Express memory as it was,
and moves the answer posted up by one, or to 0 with the phase changed. An answer that becomes due is discarded by a DISABLED or FAULTED ring, written at once by an ENABLED ring with room and
an empty holder, put into a holder with space when no answer waits before it, also by a STALLED ring that has drained in part, or left waiting, which makes an ENABLED ring STALLED; the
second component says whether it has been handed on. -/
def Obligations.AnswersAreWrittenHeldOrWait : Prop :=
  (∀ (s : State) (r : RingNo) (x : Answer), memOk s.mem →
    (s.ring r).setup.ansBase + 32 * (s.ring r).posted + 32 ≤ 2 ^ 64 →
    ∃ t, writeAnswer r x s = t ∧
      t.readBytes ((s.ring r).setup.ansBase + 32 * (s.ring r).posted) 32 =
        le 8 x.tag ++ le 1 x.kind ++ le 1 x.status ++ le 1 (if (s.ring r).phase then 1 else 0) ++ [0] ++ le 4 x.a ++ le 8 x.b ++ le 8 x.c ∧
      (∀ a < 2 ^ 64, (a < (s.ring r).setup.ansBase + 32 * (s.ring r).posted ∨ (s.ring r).setup.ansBase + 32 * (s.ring r).posted + 32 ≤ a) →
        t.readByte a = s.readByte a) ∧
      t = (s.setMem t.mem).setRing r
        (if (s.ring r).posted + 1 < (s.ring r).setup.ansSize then { s.ring r with posted := (s.ring r).posted + 1 }
        else { s.ring r with posted := 0, phase := !(s.ring r).phase })) ∧
  (∀ (s : State) (r : RingNo) (x : Answer) (o : AnswerOwner),
    ((s.ring r).state = .disabled ∨ (s.ring r).state = .faulted → answerDue r x o s = (s, true)) ∧
    ((s.ring r).state = .stalled → ((s.ring r).waiting ≠ [] ∨ 2 ≤ (s.ring r).holder.length) →
      answerDue r x o s = (s.setRing r { s.ring r with waiting := (s.ring r).waiting ++ [⟨x, o⟩] }, false)) ∧
    ((s.ring r).state = .stalled → (s.ring r).waiting = [] → (s.ring r).holder.length < 2 →
      answerDue r x o s = (s.setRing r { s.ring r with holder := (s.ring r).holder ++ [x] }, true)) ∧
    ((s.ring r).state = .enabled → 0 < (s.ring r).setup.ansSize →
      ((s.ring r).posted + (s.ring r).setup.ansSize - (s.ring r).consumed) % (s.ring r).setup.ansSize < (s.ring r).setup.ansSize - 1 →
      (s.ring r).holder = [] → answerDue r x o s = (writeAnswer r x s, true)) ∧
    ((s.ring r).state = .enabled → (s.ring r).holder.length < 2 →
      ((s.ring r).setup.ansSize - 1 ≤
          ((s.ring r).posted + (s.ring r).setup.ansSize - (s.ring r).consumed) % (s.ring r).setup.ansSize ∨ (s.ring r).holder ≠ []) →
      answerDue r x o s = (s.setRing r { s.ring r with holder := (s.ring r).holder ++ [x] }, true)) ∧
    ((s.ring r).state = .enabled → (s.ring r).holder.length = 2 →
      answerDue r x o s =
        (s.setRing r { s.ring r with waiting := (s.ring r).waiting ++ [⟨x, o⟩], state := .stalled, stallSeen := true }, false)))

/-- Notices (R186 to R188). A notice that is raised merges with the entry of its kind and subject, joins a set with room, or is lost and counted, and nothing else changes. NOTICE_POST: when
ring 0 is ENABLED with room, an empty holder and nothing waiting, the overflow answer is written first, then the oldest entry; otherwise the set stays as it is. -/
def Obligations.NoticesMergeAndPostOldestFirst : Prop :=
  (∀ (s : State) (k : NoticeKind) (b c : Nat),
    ((∃ n ∈ s.riu.notices, n.kind = k ∧ n.b = b ∧ n.c = c) →
      raise k b c s = s.setRiu { s.riu with
        notices := s.riu.notices.map (fun n => if n.kind = k ∧ n.b = b ∧ n.c = c then { n with count := min (n.count + 1) 65535 } else n) }) ∧
    ((∀ n ∈ s.riu.notices, ¬(n.kind = k ∧ n.b = b ∧ n.c = c)) → s.riu.notices.length < 64 →
      raise k b c s = s.setRiu { s.riu with notices := s.riu.notices ++ [⟨k, b, c, 1⟩] }) ∧
    ((∀ n ∈ s.riu.notices, ¬(n.kind = k ∧ n.b = b ∧ n.c = c)) → 64 ≤ s.riu.notices.length →
      raise k b c s = s.setRiu { s.riu with overflow := true, lost := min (s.riu.lost + 1) 4294967295 })) ∧
  (∀ s : State,
    ((s.ring 0).state = .enabled → (s.ring 0).room = true → (s.ring 0).holder = [] → (s.ring 0).waiting = [] →
      (s.riu.overflow = true → exec .noticePost s =
        .next (writeAnswer 0 ⟨0, 0xFF, 0x8B, s.riu.lost, 0, 0⟩ (s.setRiu { s.riu with overflow := false, lost := 0 }))) ∧
      (s.riu.overflow = false → ∀ n rest, s.riu.notices = n :: rest → exec .noticePost s =
        .next (writeAnswer 0 ⟨0, 0xFF, n.kind.code, n.count, n.b, n.c⟩ (s.setRiu { s.riu with notices := rest })))) ∧
    (((s.ring 0).state ≠ .enabled ∨ (s.ring 0).room = false ∨ (s.ring 0).holder ≠ [] ∨ (s.ring 0).waiting ≠ []) → exec .noticePost s = .next s))

/-- RING_SETUP: a write of answer size to a DISABLED or FAULTED ring enables it when the four setup values pass their checks, and leaves it DISABLED with cause SETUP otherwise; to a
running ring it is only stored (R175). The drain of a ring: a write of answer consumed that gives a STALLED ring room for all it holds writes the holder's answers, then the waiting ones,
oldest first, and makes the ring ENABLED (R184), here for waiting answers whose owners do not wait with them. RING_DISABLE: a write of 0 to request size disables a ring in any state and
discards what it holds (R176, R185); one restore context that waits in ENDING for its answer (R73) becomes FREE with it. -/
def Obligations.RingsAreSetUpDrainedAndDiscarded : Prop :=
  (∀ (s : State) (r : RingNo) (n : Nat),
    (((s.ring r).state = .disabled ∨ (s.ring r).state = .faulted) →
      ((∃ i, 4 ≤ i ∧ i ≤ 12 ∧ (s.ring r).stored.reqSize = 2 ^ i) ∧ (∃ i, 4 ≤ i ∧ i ≤ 12 ∧ n = 2 ^ i) ∧
        (s.ring r).stored.reqBase % 64 = 0 ∧ (s.ring r).stored.ansBase % 32 = 0 →
        exec (.ringSetup r n) s = .next (s.setRing r
          { stored := { (s.ring r).stored with ansSize := n }, setup := { (s.ring r).stored with ansSize := n }
            tail := 0, head := 0, consumed := 0, posted := 0, phase := true, state := .enabled, cause := .none
            stallSeen := false, holder := [], waiting := [] })) ∧
      (¬((∃ i, 4 ≤ i ∧ i ≤ 12 ∧ (s.ring r).stored.reqSize = 2 ^ i) ∧ (∃ i, 4 ≤ i ∧ i ≤ 12 ∧ n = 2 ^ i) ∧
        (s.ring r).stored.reqBase % 64 = 0 ∧ (s.ring r).stored.ansBase % 32 = 0) →
        exec (.ringSetup r n) s = .next (s.setRing r
          { s.ring r with stored := { (s.ring r).stored with ansSize := n }, state := .disabled, cause := .setup }))) ∧
    (((s.ring r).state = .enabled ∨ (s.ring r).state = .stalled) →
      exec (.ringSetup r n) s = .next (s.setRing r { s.ring r with stored := { (s.ring r).stored with ansSize := n } }))) ∧
  (∀ (s : State) (r : RingNo) (n : Nat), (s.ring r).ok → (s.ring r).state = .stalled → n < (s.ring r).setup.ansSize →
    (∀ d ∈ (s.ring r).waiting, d.owner = .none) →
    ((s.ring r).posted + (s.ring r).setup.ansSize - n) % (s.ring r).setup.ansSize + (s.ring r).holder.length + (s.ring r).waiting.length <
      (s.ring r).setup.ansSize →
    exec (.answerConsumedWrite r n) s = .next (((s.ring r).holder ++ (s.ring r).waiting.map Due.answer).foldl (fun u x => writeAnswer r x u)
      (s.setRing r { s.ring r with consumed := n, state := .enabled, holder := [], waiting := [] }))) ∧
  ∀ (s : State) (r : RingNo),
    ((∀ d ∈ (s.ring r).waiting, d.owner = .none) →
      exec (.ringDisable r) s = .next (s.setRing r
        { s.ring r with stored := { (s.ring r).stored with reqSize := 0 }, state := .disabled, holder := [], waiting := [] })) ∧
    (∀ a c, (s.ring r).waiting = [⟨a, .restoreEnd c⟩] →
      exec (.ringDisable r) s = .next ((s.setRing r
        { s.ring r with stored := { (s.ring r).stored with reqSize := 0 }, state := .disabled, holder := [], waiting := [] }).setRestoreCtx c .free))

/-- The pointer writes and the stall-seen flag (R174, R177, R178, R184): REQUEST_TAIL_WRITE, ANSWER_CONSUMED_WRITE and STALL_SEEN_CLEAR, in range, ignored while DISABLED, and out of
range, which faults a running ring that has nothing waiting; and REGISTER_WRITE, which is each of them at its offset of ring `r`'s part of the window (Table 11-12). The whole-register
writes, the whole value that a write wider than its register stores and the bit 0 of the stall-seen register are the model's choice (notes/assumptions/27.md). The drain of what a ring holds has its own statement. -/
def Obligations.PointerWritesAreCheckedAndStored : Prop :=
  ∀ (s : State) (r : RingNo) (n : Nat),
    ((s.ring r).state = .disabled → exec (.requestTailWrite r n) s = .next s ∧ exec (.answerConsumedWrite r n) s = .next s) ∧
    ((s.ring r).state ≠ .disabled → n < (s.ring r).setup.reqSize →
      exec (.requestTailWrite r n) s = .next (s.setRing r { s.ring r with tail := n })) ∧
    ((s.ring r).state ≠ .disabled → n < (s.ring r).setup.ansSize → (s.ring r).holder = [] → (s.ring r).waiting = [] → (s.ring r).state ≠ .stalled →
      exec (.answerConsumedWrite r n) s = .next (s.setRing r { s.ring r with consumed := n })) ∧
    ((s.ring r).state = .enabled ∨ (s.ring r).state = .stalled → (s.ring r).waiting = [] →
      ((s.ring r).setup.reqSize ≤ n → exec (.requestTailWrite r n) s =
        .next (s.setRing r { s.ring r with state := .faulted, cause := .tailRange, holder := [] })) ∧
      ((s.ring r).setup.ansSize ≤ n → exec (.answerConsumedWrite r n) s =
        .next (s.setRing r { s.ring r with state := .faulted, cause := .consumedRange, holder := [] }))) ∧
    ((s.ring r).state = .faulted → (s.ring r).setup.reqSize ≤ n → exec (.requestTailWrite r n) s = .next s) ∧
    (n % 2 = 1 → exec (.stallSeenClear r n) s = .next (s.setRing r { s.ring r with stallSeen := false })) ∧
    (n % 2 = 0 → exec (.stallSeenClear r n) s = .next s) ∧
    exec (.registerWrite (0x100 + 0x40 * r.val) n) s =
      .next (s.setRing r { s.ring r with stored := { (s.ring r).stored with reqBase := n } }) ∧
    exec (.registerWrite (0x108 + 0x40 * r.val) n) s =
      .next (s.setRing r { s.ring r with stored := { (s.ring r).stored with ansBase := n } }) ∧
    (n ≠ 0 → exec (.registerWrite (0x110 + 0x40 * r.val) n) s =
      .next (s.setRing r { s.ring r with stored := { (s.ring r).stored with reqSize := n } })) ∧
    exec (.registerWrite (0x110 + 0x40 * r.val) 0) s = exec (.ringDisable r) s ∧
    exec (.registerWrite (0x114 + 0x40 * r.val) n) s = exec (.ringSetup r n) s ∧
    exec (.registerWrite (0x118 + 0x40 * r.val) n) s = exec (.requestTailWrite r n) s ∧
    exec (.registerWrite (0x120 + 0x40 * r.val) n) s = exec (.answerConsumedWrite r n) s ∧
    exec (.registerWrite (0x12C + 0x40 * r.val) n) s = exec (.stallSeenClear r n) s ∧
    ∀ o, o < 0x100 ∨ 0x200 ≤ o → exec (.registerWrite o n) s = .next s

/-- REQUEST_INTAKE (R178, R180): an ENABLED ring with a request pending and no SCAN_OUT or TAKE_RELEASED of it under way gives the record at its head to the unit that owns its kind, or answers
BAD_REQUEST for an unknown kind, and the head rises by one round the ring; any other ring takes nothing. UNKNOWN_REQUEST is that same answer. A request
given as its own command is handed over in the same way, whatever the ring's state and pointers, which is the model's choice (notes/assumptions/30.md). -/
def Obligations.IntakeTakesTheRecordAtTheHead : Prop :=
  (∀ (s : State) (r : RingNo) (b : List Byte), (s.ring r).state = .enabled → (s.ring r).setup.reqSize ≠ 0 →
    ((s.ring r).tail + (s.ring r).setup.reqSize - (s.ring r).head) % (s.ring r).setup.reqSize ≠ 0 →
    s.scanOf r = none → (∀ v t, (s.snapVol v).taking = some t → t.ring ≠ r) →
    b = s.readBytes ((s.ring r).setup.reqBase + 64 * (s.ring r).head) 64 →
    ∃ t, t = s.setRing r { s.ring r with head := if (s.ring r).head + 1 < (s.ring r).setup.reqSize then (s.ring r).head + 1 else 0 } ∧
      (∀ q, readRequest b = some q → exec (.requestIntake r) s = .next (handOver r (field b 0 8) q t)) ∧
      (readRequest b = none → exec (.requestIntake r) s = .next (answer r ⟨field b 0 8, field b 8 1, 0x20, 0, 0, 0⟩ t))) ∧
    (∀ (s : State) (r : RingNo), ((s.ring r).state ≠ .enabled ∨ (s.ring r).tail = (s.ring r).head ∨ s.scanOf r ≠ none ∨ ∃ v, ∃ t ∈ (s.snapVol v).taking, t.ring = r) → (s.ring r).tail < (s.ring r).setup.reqSize →
      exec (.requestIntake r) s = .next s) ∧
    (∀ (c : Instr) (s : State) (r : RingNo) (tag : Nat) (q : Request), c.request = some (r, tag, q) →
      (∀ p ts, c ≠ .restore r tag p ts) → (∀ p rs, c ≠ .giveRuns r tag p rs) → exec c s = .next (handOver r tag q s)) ∧
    ∀ (s : State) (r : RingNo) (tag kind : Nat), kind ∉ kindCodes → exec (.unknownRequest r tag kind) s =
      .next (answer r ⟨tag, kind, 0x20, 0, 0, 0⟩ s)

/-- The gates of a request, in their order: a request that fails its form check is answered BAD_REQUEST, one of a kind that SAFE state does not gated STORE_BAD, one that a FORMAT in
progress does not gated BUSY; each with A, B and C of 0, and nothing else changes (R180, R200, R202). The order of SAFE state and FORMAT is the model's (notes/assumptions/15.md), and
so are the values of 0 (notes/assumptions/8.md). -/
def Obligations.GateRefusalsAnswerAndChangeNothing : Prop :=
  ∀ (c : Instr) (s : State) (r : RingNo) (tag : Nat) (q : Request), c.request = some (r, tag, q) →
    (formOk q = false → exec c s = .next (answer r ⟨tag, kindCode q, 0x20, 0, 0, 0⟩ s)) ∧
    (formOk q = true → s.ps.safe = true → safeAdmits q = false → exec c s = .next (answer r ⟨tag, kindCode q, 0x3F, 0, 0, 0⟩ s)) ∧
    (formOk q = true → s.ps.safe = false → s.ps.format.isSome = true → formatAdmits q = false →
      exec c s = .next (answer r ⟨tag, kindCode q, 0x37, 0, 0, 0⟩ s))

/-- The refusals of the owners' rules in their order (R9 to R11, R13, R14, R16 to R20, R37 to R39, R48, R55, R67, R76, R91, R111, R145, R154, R155, R194 to R196, R198): a request that passes the
gates and fails one or more of its checks is answered with the status of the first that fails, and changes nothing else. Those of CANCEL_RESTORE, RUN_CANCEL, STORE_STAGE, STORE_COMMIT and FORMAT
stand in the statements on these requests, and the other requests have none. While a commit is under way the CRC that APPLY_DEFINITIONS checks first reads the page being written as free bytes
(notes/assumptions/22.md). RESTORE and GIVE_RUNS make their checks once the runs they read are there. A, B and C are 0
(notes/assumptions/8.md), but for a RESTORE's ACCOUNT_KIND, whose A is the failing account, and a CHARGE's quota refusal, whose A is the refusing account and whose B its side (Table 11-8).
The place of a zero target length among a RESTORE's checks is the model's (notes/assumptions/15.md), and so is the EPOCH_ORDER of an OPEN_VOLUME on a volume that trimming has emptied again
(notes/assumptions/45.md). -/
def Obligations.RequestsAreRefusedInTheirOrder : Prop :=
  ∀ (s : State) (r : RingNo) (tag n : Nat) (v : Vol), s.up →
    let no := decide ((s.vol v).state = .undefined)
    let replica := decide ((s.vol v).defn.role = .replica)
    let defined := decide ((s.vol v).state = .defined)
    let notOnline := decide ((s.vol v).state ≠ .online)
    let outside := fun x : Run => decide ((s.vol v).defn.blockCount < x.first + x.len)
    let badKind := fun (o : Nat) (g : Option Nat) =>
      decide ((s.account o).kind ≠ .user) || g.any fun i => decide ((s.account i).kind ≠ .group)
    let full := decide (16777216 ≤ s.extents.length)
    let faulted := fun k : MoverClass => (s.faultRec k).fault
    let noContext := ctxList.all fun c => decide ((s.restoreCtx c).phase ≠ .free)
    (∀ p, formOk (.charge p) = true → p.volume = v.val →
      (firstFailing [(no, 0x21), (replica, 0x22), (notOnline, 0x23), (outside ⟨p.first, p.len⟩, 0x24), (badKind p.owner p.group, 0x25),
          (s.taken v ⟨p.first, p.len⟩, 0x28), (full, 0x29)] = some n → exec (.charge r tag p) s = .next (answer r ⟨tag, 0x01, n, 0, 0, 0⟩ s)) ∧
      (firstFailing [(no, 0x21), (replica, 0x22), (notOnline, 0x23), (outside ⟨p.first, p.len⟩, 0x24), (badKind p.owner p.group, 0x25),
          (s.taken v ⟨p.first, p.len⟩, 0x28), (full, 0x29)] = none →
        ∀ f, twoAccountDecision s p.owner p.group (p.len * (s.vol v).defn.blockKiB) = some f →
          exec (.charge r tag p) s = .next (answer r ⟨tag, 0x01, f.status.code, f.account, f.side, 0⟩ s))) ∧
    (∀ p, formOk (.split p) = true → p.volume = v.val →
      firstFailing ([(no, 0x21), (replica, 0x22), (notOnline, 0x23)] ++ match s.recordAt v p.first with
        | none => [(true, 0x2C)]
        | some e => [(decide (p.k = 0 ∨ e.len ≤ p.k), 0x24), (e.death.isSome, 0x2D), (e.filling, 0x2E), (full, 0x29)]) = some n →
      exec (.split r tag p) s = .next (answer r ⟨tag, 0x02, n, 0, 0, 0⟩ s)) ∧
    (∀ p, formOk (.drop p) = true → p.volume = v.val →
      firstFailing ([(no, 0x21), (replica, 0x22), (notOnline, 0x23)] ++ match s.recordAt v p.first with
        | none => [(true, 0x2C)]
        | some e => [(e.death.isSome, 0x2D), (e.filling, 0x2E)]) = some n →
      exec (.drop r tag p) s = .next (answer r ⟨tag, 0x03, n, 0, 0, 0⟩ s)) ∧
    (∀ p, formOk (.loadSnapshot p) = true → p.volume = v.val →
      firstFailing [(no, 0x21), (!defined, 0x23), (decide (p.epoch = 4294967295), 0x31),
          ((s.snapVol v).snaps.any fun x => decide (x.label = p.label), 0x2F), ((s.snapVol v).snaps.any fun x => decide (x.epoch = p.epoch), 0x30),
          (decide (64 ≤ (s.snapVol v).snaps.length), 0x32)] = some n →
      exec (.loadSnapshot r tag p) s = .next (answer r ⟨tag, 0x06, n, 0, 0, 0⟩ s)) ∧
    (∀ p, formOk (.loadExtent p) = true → p.charge.volume = v.val →
      firstFailing [(no, 0x21), (!defined, 0x23), (replica && p.source.isNone, 0x20), (outside ⟨p.charge.first, p.charge.len⟩, 0x24),
          (decide ((s.vol v).defn.role = .primary) && p.death.isNone && badKind p.charge.owner p.charge.group, 0x25),
          (s.taken v ⟨p.charge.first, p.charge.len⟩, 0x28),
          (p.death.any fun d => (s.snapVol v).snaps.all fun x => !(decide (p.birth ≤ x.epoch) && decide (x.epoch < d)), 0x33), (full, 0x29)] = some n →
      exec (.loadExtent r tag p) s = .next (answer r ⟨tag, 0x07, n, 0, 0, 0⟩ s)) ∧
    (∀ p, formOk (.openVolume p) = true → p.volume = v.val →
      firstFailing [(no, 0x21), (!defined, 0x23), ((s.vol v).seen.any fun m => decide (p.epoch ≤ m), 0x30)] = some n →
      exec (.openVolume r tag p) s = .next (answer r ⟨tag, 0x08, n, 0, 0, 0⟩ s)) ∧
    (firstFailing [(no, 0x21), (defined, 0x23)] = some n →
      exec (.sealVolume r tag v.val) s = .next (answer r ⟨tag, 0x09, n, 0, 0, 0⟩ s) ∧
      exec (.unsealVolume r tag v.val) s = .next (answer r ⟨tag, 0x0A, n, 0, 0, 0⟩ s)) ∧
    (∀ p, p.volume = v.val →
      firstFailing [(no, 0x21), (replica, 0x22), (defined, 0x23), (s.labelTaken v p.label, 0x2F),
          (decide (64 ≤ (s.snapVol v).snaps.length + (s.snapVol v).reserved.length), 0x32),
          (decide (4294967294 < (s.vol v).epoch.getD 0 + (s.snapVol v).gate.length), 0x31), ((s.snapVol v).hostWaits, 0x37)] = some n →
      exec (.snapshotCreate r tag p) s = .next (answer r ⟨tag, 0x20, n, 0, 0, 0⟩ s)) ∧
    (∀ p, p.volume = v.val →
      firstFailing [(no, 0x21), (defined, 0x23), ((s.activeLabelled v p.label).isNone, 0x34),
          ((s.activeLabelled v p.label).any fun x => x.replBase || x.replTarget || decide (x.holds ≠ 0), 0x35)] = some n →
      exec (.snapshotRetire r tag p) s = .next (answer r ⟨tag, 0x21, n, 0, 0, 0⟩ s)) ∧
    (∀ p, formOk (.takeReleased p) = true → p.volume = v.val →
      firstFailing [(no, 0x21), ((s.snapVol v).taking.isSome, 0x37)] = some n →
      exec (.takeReleased (.request r tag p)) s = .next (answer r ⟨tag, 0x22, n, 0, 0, 0⟩ s)) ∧
    (∀ p targets, formOk (.restore p) = true → p.volume = v.val →
      let selection := [(targets.any fun x : Run => decide (x.len = 0), 0x20), (no, 0x21), (decide ((s.vol v).defn.role ≠ .primary), 0x22),
        (notOnline, 0x23), ((s.activeLabelled v p.label).isNone, 0x34)]
      (firstFailing selection = some n → exec (.restore r tag p targets) s = .next (answer r ⟨tag, 0x30, n, 0, 0, 0⟩ s)) ∧
      (firstFailing selection = none → badKind p.owner p.group = true → exec (.restore r tag p targets) s =
        .next (answer r ⟨tag, 0x30, 0x25, if (s.account p.owner).kind = .user then p.group.getD 0 else p.owner, 0, 0⟩ s)) ∧
      (firstFailing selection = none → badKind p.owner p.group = false →
        firstFailing [(decide ((targets.map (·.len)).sum < p.count), 0x36), (targets.any outside, 0x24),
          (anyOverlap targets || targets.any (s.taken v), 0x28), (faulted .restore, 0x38), (noContext, 0x37)] = some n →
        exec (.restore r tag p targets) s = .next (answer r ⟨tag, 0x30, n, 0, 0, 0⟩ s))) ∧
    (∀ p, formOk (.probe p) = true → p.volume = v.val →
      firstFailing [(no, 0x21), (decide ((s.vol v).defn.role ≠ .primary), 0x22), (defined, 0x23), ((s.activeLabelled v p.label).isNone, 0x34),
          (faulted .restore, 0x38), (noContext, 0x37)] = some n →
      exec (.probe r tag p) s = .next (answer r ⟨tag, 0x31, n, 0, 0, 0⟩ s)) ∧
    (∀ p, p.volume = v.val →
      firstFailing [(no, 0x21), (replica, 0x22), (defined, 0x23),
          (match (s.vol v).defn.peer, (s.vol v).defn.remote with | some i, some _ => !s.lc.peers[(Fin.ofNat 4 i : Ctx)].enabled | _, _ => true, 0x3A),
          (!p.newSnapshot && (s.activeLabelled v p.label).isNone, 0x34), (p.newSnapshot && s.labelTaken v p.label, 0x2F),
          (!p.newSnapshot && (s.activeLabelled v p.label).any fun x => decide (x.epoch ≤ if p.full then 0 else s.baseEpoch v), 0x3B),
          (s.strap, 0x3C), ((s.ds.queue.any fun x => decide (x.volume = v)) || s.ds.active.any fun x => decide (x.volume = v), 0x3D),
          (faulted .ship, 0x38)] = some n →
      exec (.runStart r tag p) s = .next (answer r ⟨tag, 0x40, n, 0, 0, 0⟩ s)) ∧
    (∀ p runs, formOk (.giveRuns p) = true → p.volume = v.val →
      firstFailing [(no, 0x21), (decide ((s.vol v).defn.role = .primary), 0x22), (runs.any fun x : Run => decide (x.len = 0 ∨ 65535 < x.len), 0x20),
          (runs.any outside, 0x24), (anyOverlap runs || runs.any (s.taken v), 0x28), (decide (4096 < (s.replVol v).pool.length + runs.length), 0x3E)] = some n →
      exec (.giveRuns r tag p runs) s = .next (answer r ⟨tag, 0x48, n, 0, 0, 0⟩ s)) ∧
    (firstFailing [(no, 0x21), (decide ((s.vol v).defn.role = .primary), 0x22), (defined, 0x23),
        ((ctxList.any fun c => decide (s.ctxOf v.val = some c) && decide ((s.inCtx c).state = .committing)) || (s.replVol v).reset.isSome, 0x37)] = some n →
      exec (.replicaReset r tag v.val) s = .next (answer r ⟨tag, 0x49, n, 0, 0, 0⟩ s)) ∧
    (∀ p, p.volume = v.val →
      firstFailing [(no, 0x21), ((s.records v).all fun e => !(decide (e.first ≤ p.block) && decide (p.block < e.first + e.len)), 0x2C)] = some n →
      exec (.queryExtent r tag p) s = .next (answer r ⟨tag, 0x04, n, 0, 0, 0⟩ s)) ∧
    (∀ p, formOk (.scanOut p) = true → p.volume = v.val → p.what = 1 ∨ p.what = 3 → firstFailing [(no, 0x21)] = some n →
      exec (.scanOut r tag (.request p)) s = .next (answer r ⟨tag, 0x0B, n, 0, 0, 0⟩ s)) ∧
    (∀ p, formOk (.setLimit p) = true → firstFailing [(decide ((s.account p.account).kind = .none), 0x26)] = some n →
      exec (.setLimit r tag p) s = .next (answer r ⟨tag, 0x10, n, 0, 0, 0⟩ s)) ∧
    (∀ p k, formOk (.loadAccount p) = true → (p.kind, k) ∈ [(1, AccountKind.user), (2, .group)] →
      firstFailing [(decide ((s.account p.account).kind ≠ .none ∧ (s.account p.account).kind ≠ k ∧ (s.account p.account).records ≠ 0), 0x27)] = some n →
      exec (.loadAccount r tag p) s = .next (answer r ⟨tag, 0x11, n, 0, 0, 0⟩ s)) ∧
    (∀ i, formOk (.dropAccount i) = true → firstFailing [(decide ((s.account i).records ≠ 0), 0x27)] = some n →
      exec (.dropAccount r tag i) s = .next (answer r ⟨tag, 0x12, n, 0, 0, 0⟩ s)) ∧
    (firstFailing [(no, 0x21)] = some n → exec (.queryInbound r tag v.val) s = .next (answer r ⟨tag, 0x4A, n, 0, 0, 0⟩ s)) ∧
    (firstFailing [(s.ps.commit.isSome, 0x37)] = some n → exec (.storeVerify r tag) s = .next (answer r ⟨tag, 0x62, n, 0, 0, 0⟩ s)) ∧
    (∀ p, p.page ≤ 64 → firstFailing [(s.ps.commit.any fun c => decide (c.page = p.page), 0x37)] = some n →
      exec (.storeRead r tag p) s = .next (answer r ⟨tag, 0x63, n, 0, 0, 0⟩ s)) ∧
    (firstFailing [(!s.ps.verifies s.free, 0x3F), (s.ps.commit.isSome, 0x37)] = some n → exec (.applyDefinitions r tag) s =
      .next (answer r ⟨tag, 0x64, n, 0, 0, 0⟩ (if s.ps.commit = none then s else s.setFree (s.free + 1))))


/-! ### Extents and volumes (chapter 1) -/

/-- CHARGE (R10, R24, R31): a request that passes every check of R9 and R10 makes a LIVE record at the volume's current epoch, raises the usage of the owner and of the group by the
record's charge and their record counts by one, re-rates each by R28, and answers OK with the birth epoch and the charge. The re-ratings raise their notices, the owner's before the
group's (notes/assumptions/19.md), and the grace timer list goes with them (R43, R45). Nothing else changes. -/
def Obligations.ChargeAddsALiveRecord : Prop :=
  ∀ (s : State) (r : RingNo) (tag : Nat) (p : ChargeParams) (v : Vol), s.up → formOk (.charge p) = true → p.volume = v.val →
    (s.vol v).state = .online → (s.vol v).defn.role = .primary → p.first + p.len ≤ (s.vol v).defn.blockCount →
    (s.account p.owner).kind = .user → (∀ g, p.group = some g → (s.account g).kind = .group) →
    s.taken v ⟨p.first, p.len⟩ = false → s.extents.length < 16777216 →
    (∀ i, i = p.owner ∨ p.group = some i → (s.account i).hard = 0 ∨
      ((s.account i).usage + p.len * (s.vol v).defn.blockKiB ≤ (s.account i).hard ∧
        ((s.account i).state ≠ .expired ∨ (s.account i).privileged = true))) →
    ∃ u, exec (.charge r tag p) s =
        .next (answer r ⟨tag, 0x01, 0x00, 0, (s.vol v).epoch.getD 0, p.len * (s.vol v).defn.blockKiB⟩ u) ∧
      (s.setExtents (insertExtent ⟨v, p.first, p.len, p.object, p.offset, p.owner, p.group, (s.vol v).epoch.getD 0, none, false, none, none⟩
        s.extents)).accountsOnly u (ownerThenGroup p.owner p.group (s.chargedUser (p.len * (s.vol v).defn.blockKiB))) ∧
      ∀ i, u.account i = if i = p.owner ∨ p.group = some i then (s.chargedUser (p.len * (s.vol v).defn.blockKiB) i).1 else s.account i

/-- SPLIT (R11): a LIVE record that is not FILLING becomes two records that cover its blocks in order, its accounts' record counts rise by one and their usage and state stay as
they are; the answer gives the second record's first block. -/
def Obligations.SplitCutsARecordInTwo : Prop :=
  ∀ (s : State) (r : RingNo) (tag : Nat) (p : SplitParams) (v : Vol) (e : Extent), s.up → p.volume = v.val →
    (s.vol v).state = .online → (s.vol v).defn.role = .primary → s.recordAt v p.first = some e → 0 < p.k → p.k < e.len →
    e.death = none → e.filling = false → s.extents.length < 16777216 → (s.account e.owner).kind = .user →
    (∀ g, e.group = some g → (s.account g).kind = .group) →
    ∃ u, exec (.split r tag p) s = .next (answer r ⟨tag, 0x02, 0x00, 0, p.first + p.k, 0⟩ u) ∧
      u = (s.setExtents (insertExtent
          { e with first := p.first + p.k, len := e.len - p.k, offset := e.offset + p.k, source := e.source.map (· + p.k) }
          (s.extents.map fun x => if x.volume = v ∧ x.first = p.first then { x with len := p.k } else x))).setQu
        { s.qu with accounts := u.qu.accounts } ∧
      ∀ i, u.account i = if i = e.owner ∨ e.group = some i then { s.account i with records := (s.account i).records + 1 } else s.account i

/-- DROP (R12, R13, R33, R34): a LIVE record that an ACTIVE snapshot protects is held at the volume's current epoch and its charge passes from its own accounts to the volume's RESERVE
account; one that none protects leaves the table and its charge is refunded. The re-ratings raise their notices, the owner's, the group's and then the RESERVE account's (notes/assumptions/19.md),
and a RESERVE account that is OVER has auto-trim started or looking again (R35, R62, R64). Nothing else changes. -/
def Obligations.DropHoldsOrRemoves : Prop :=
  ∀ (s : State) (r : RingNo) (tag : Nat) (p : DropParams) (v : Vol) (e : Extent) (E c : Nat), s.up → p.volume = v.val →
    (s.vol v).state = .online → (s.vol v).defn.role = .primary → (s.vol v).epoch = some E → s.recordAt v p.first = some e →
    e.death = none → e.filling = false → (s.account e.owner).kind = .user → (∀ g, e.group = some g → (s.account g).kind = .group) →
    (s.account v.val).kind = .reserve → c = e.len * (s.vol v).defn.blockKiB →
    ((∃ x ∈ (s.snapVol v).snaps, x.active = true ∧ e.birth ≤ x.epoch ∧ x.epoch < E) →
      ∀ z, z = reserveState (s.account v.val).hard ((s.account v.val).usage + c) →
      ∃ m, exec (.drop r tag p) s = .next (answer r ⟨tag, 0x03, 0x03, 0, E, c⟩ (reserveTrim v (s.account v.val).state z m)) ∧
        (s.setExtents (s.extents.map fun x => if x.volume = v ∧ x.first = p.first then { x with death := some E } else x)).accountsOnly m
          (ownerThenGroup e.owner e.group (s.refundedUser c) ++ reserveNotice v (s.account v.val).state z) ∧
        ∀ i, m.account i = if i = e.owner ∨ e.group = some i then (s.refundedUser c i).1
          else if i = v.val then
            { s.account i with usage := (s.account i).usage + c, records := (s.account i).records + 1, state := z }
          else s.account i) ∧
    ((∀ x ∈ (s.snapVol v).snaps, ¬(x.active = true ∧ e.birth ≤ x.epoch ∧ x.epoch < E)) →
      ∃ u, exec (.drop r tag p) s = .next (answer r ⟨tag, 0x03, 0x04, 0, E, c⟩ u) ∧
        (s.setExtents (s.extents.filter fun x => !(decide (x.volume = v) && decide (x.first = p.first)))).accountsOnly u
          (ownerThenGroup e.owner e.group (s.refundedUser c)) ∧
        ∀ i, u.account i = if i = e.owner ∨ e.group = some i then (s.refundedUser c i).1 else s.account i)

/-- The queries that write a host buffer (R14, R20, R21, R40, R196): QUERY_EXTENT, QUERY_ACCOUNT and STORE_READ write their records from the buffer address on, answer OK, and
change nothing else. SCAN_OUT, once taken, writes one record a step, each as it stands when its walk comes to it, at the next place of the buffer, and then answers the count, the next key and whether the
walk found no further record; its steps and its end as a step of its own are the model's (notes/assumptions/12.md, notes/assumptions/14.md). A written run of bytes reads back as written,
and every other byte reads as before. -/
def Obligations.BufferQueriesWriteTheirRecords : Prop :=
  (∀ (s : State) (a : Nat) (bs : List Byte), memOk s.mem → a + bs.length ≤ 2 ^ 64 →
    (s.writeBytes a bs).readBytes a bs.length = bs ∧ ∀ b < 2 ^ 64, (b < a ∨ a + bs.length ≤ b) → (s.writeBytes a bs).readByte b = s.readByte b) ∧
  ∀ (s : State) (r : RingNo) (tag : Nat) (v : Vol),
    (∀ p e, p.volume = v.val → (s.vol v).state ≠ .undefined →
      s.recordHolding v p.block = some e →
      exec (.queryExtent r tag p) s = .next (answer r ⟨tag, 0x04, 0x00, 0, e.first, e.object⟩ (s.writeBytes p.buffer (extentBytes e)))) ∧
    (∀ p, p.account ≤ 262143 →
      exec (.queryAccount r tag p) s = .next (answer r
        ⟨tag, 0x13, 0x00, (s.account p.account).kind.code + 256 * (s.account p.account).state.code, (s.account p.account).usage,
          (s.account p.account).hard⟩ (s.writeBytes p.buffer (accountBytes p.account (s.account p.account))))) ∧
    (∀ (p : ScanOutParams) (w : ScanWhat), (p.what, w) ∈ [(1, ScanWhat.extents), (2, .accounts), (3, .snapshots)] → 1 ≤ p.max → p.max ≤ 4096 →
      (w ≠ .accounts → p.volume = v.val) → s.up →
      (w ≠ .accounts → (s.vol v).state ≠ .undefined) →
      exec (.scanOut r tag (.request p)) s =
        .next (if s.scanOf r = none then s.setScan r (some ⟨tag, toVol p.volume, w, p.buffer, p.max, p.key, 0⟩) else s)) ∧
    (s.scanOf r = none → exec (.scanOut r tag .goOn) s = .next s) ∧
    (∀ x left, s.scanOf r = some x →
      left = (match x.what with
        | .extents => (s.records x.volume).any fun e => decide (x.key ≤ e.first)
        | .accounts => s.qu.accounts.any fun a => decide (x.key ≤ a.1)
        | .snapshots => (s.snapVol x.volume).snaps.any fun z => decide (x.key ≤ z.epoch)) →
      (x.count < x.max →
        (∀ e, x.what = .extents → (s.records x.volume).find? (fun e => decide (x.key ≤ e.first)) = some e →
          exec (.scanOut r tag .goOn) s = .next ((s.writeBytes (x.buffer + 64 * x.count) (extentBytes e)).setScan r
            (some { x with key := e.first + e.len, count := x.count + 1 }))) ∧
        (∀ a, x.what = .accounts → s.qu.accounts.find? (fun a => decide (x.key ≤ a.1)) = some a →
          exec (.scanOut r tag .goOn) s = .next ((s.writeBytes (x.buffer + 32 * x.count) (accountBytes a.1 a.2)).setScan r
            (some { x with key := a.1 + 1, count := x.count + 1 }))) ∧
        ∀ z, x.what = .snapshots → (s.snapVol x.volume).snaps.find? (fun z => decide (x.key ≤ z.epoch)) = some z →
          exec (.scanOut r tag .goOn) s = .next ((s.writeBytes (x.buffer + 32 * x.count) (snapshotBytes x.volume z)).setScan r
            (some { x with key := z.epoch + 1, count := x.count + 1 }))) ∧
      (x.max ≤ x.count ∨ left = false → exec (.scanOut r tag .goOn) s =
        .next (answer r ⟨x.tag, 0x0B, 0x00, x.count, x.key, if left then 0 else 1⟩ (s.setScan r none)))) ∧
    ∀ p, p.page ≤ 64 → (∀ c, s.ps.commit = some c → c.page ≠ p.page) →
      exec (.storeRead r tag p) s = .next (answer r
        ⟨tag, 0x63, 0x00, p.page, if s.ps.locked then 1 else 0, if s.ps.safe then 1 else 0⟩
        (s.writeBytes p.buffer ((List.range 256).map fun i => if p.page = 64 then s.ps.staged i else s.ps.byte (256 * p.page + i))))

/-- The queries that answer words (R15, R107, R133, R155, R172, Table 11-8): QUERY_VOLUME, QUERY_MOVER, QUERY_RUN, QUERY_INBOUND and QUERY_PEER, in any state, SAFE or not. QUERY_MOVER's
A holds the fault and further-faults flags of the four classes, the engine's state and the class it serves, the rotation pointer and the waiting entries; QUERY_PEER's the contexts not FREE whose
peer is the entry, and the mark of an active run whose peer copy has the entry's address and peer id. Only QUERY_PEER of an entry changes anything: it clears the entry's frame-error flag. -/
def Obligations.WordQueriesReportTheState : Prop :=
  ∀ (s : State) (r : RingNo) (tag : Nat) (v : Vol),
    exec (.queryVolume r tag v.val) s = .next (answer r
      ⟨tag, 0x05, 0x00,
        (s.vol v).defn.role.code + 256 * (s.vol v).state.code + 65536 * (if (s.snapVol v).gate = [] then 0 else 1) +
          16777216 * (s.vol v).defn.blockKiB,
        (s.vol v).epoch.getD 0, (s.extents.filter fun e => decide (e.volume = v)).length⟩ s) ∧
    (∀ (k : Fin 4) (code : MoverClass → Nat), code = (fun m => match m with | .restore => 0 | .ship => 1 | .land => 2 | .ring => 3) →
      exec (.queryMover r tag k.val) s = .next (answer r
        ⟨tag, 0x38, 0x00,
          flagBit s.dm.faults[0].fault 0 + flagBit s.dm.faults[1].fault 1 + flagBit s.dm.faults[2].fault 2 + flagBit s.dm.faults[3].fault 3 +
            flagBit s.dm.faults[0].further 4 + flagBit s.dm.faults[1].further 5 + flagBit s.dm.faults[2].further 6 + flagBit s.dm.faults[3].further 7 +
            (match s.dm.engine with | some u => 256 + 512 * code u.cls | none => 0) + 2048 * code s.dm.pointer + 65536 * s.dm.waiting.length,
          if s.dm.faults[k].fault then s.dm.faults[k].address else 0,
          if s.dm.faults[k].fault then s.dm.faults[k].access.code + 256 * s.dm.faults[k].target.code else 0⟩ s)) ∧
    (∀ x, s.ds.active = some x → x.volume = v →
      exec (.queryRun r tag v.val) s = .next (answer r
        ⟨tag, 0x42, 0x00, x.state.code + 256 * s.ds.outstanding.length + 65536 * s.ds.bucket, x.base + 4294967296 * x.target.getD 0,
          x.nextSeq + 4294967296 * (match s.ds.outstanding with | b :: _ => b.seq | [] => 0)⟩ s)) ∧
    ((∀ x, s.ds.active = some x → x.volume ≠ v) →
      (∀ l x t, s.ds.queue = l ++ x :: t → x.volume = v → (∀ y ∈ l, y.volume ≠ v) →
        exec (.queryRun r tag v.val) s = .next (answer r ⟨tag, 0x42, 0x00, 1 + 256 * (l.length + 1), 0, 0⟩ s)) ∧
      ((∀ x ∈ s.ds.queue, x.volume ≠ v) → exec (.queryRun r tag v.val) s = .next (answer r ⟨tag, 0x42, 0x00, 0, 0, 0⟩ s))) ∧
    ((s.vol v).state ≠ .undefined →
      ((∀ c, (s.inCtx c).state = .free ∨ (s.inCtx c).volume ≠ v) →
        exec (.queryInbound r tag v.val) s = .next (answer r
          ⟨tag, 0x4A, 0x00, flagBit (s.replVol v).reset.isSome 6 + 65536 * (s.replVol v).pool.length, 0,
            runsLen (s.replVol v).pool - (s.replVol v).takeMark⟩ s)) ∧
      ∀ c, (s.inCtx c).state ≠ .free → (s.inCtx c).volume = v → (∀ d, d < c → (s.inCtx d).state = .free ∨ (s.inCtx d).volume ≠ v) →
        exec (.queryInbound r tag v.val) s = .next (answer r
          ⟨tag, 0x4A, 0x00,
            (s.inCtx c).state.code + 4 * ((s.inCtx c).slots[0]).state.code + 16 * ((s.inCtx c).slots[1]).state.code +
              flagBit (s.replVol v).reset.isSome 6 + 65536 * (s.replVol v).pool.length,
            (s.inCtx c).runId + 4294967296 * (s.inCtx c).expected, runsLen (s.replVol v).pool - (s.replVol v).takeMark⟩ s)) ∧
    (∀ i : Ctx, exec (.queryPeer r tag i.val) s = .next (answer r
      ⟨tag, 0x50, 0x00,
        flagBit s.lc.up 0 + flagBit s.lc.peers[i].enabled 1 + flagBit s.lc.peers[i].frameError 2 +
          16 * ([0, 1, 2, 3].filter fun c : Ctx => decide ((s.inCtx c).state ≠ .free ∧ (s.inCtx c).peer = i)).length +
          flagBit ((s.ds.active.bind (·.peer)).any fun c => decide (c.address = s.lc.peers[i].address ∧ c.id = s.lc.peers[i].id)) 7,
        s.lc.peers[i].address, s.lc.peers[i].id⟩
      (s.setLc { s.lc with peers := s.lc.peers.set i { s.lc.peers[i] with frameError := false } }))) ∧
    exec (.queryPeer r tag 4) s = .next (answer r
      ⟨tag, 0x50, 0x00, flagBit s.lc.up 0 + 256 * s.lc.control.length, s.lc.station, s.lc.localId + 4294967296 * s.lc.etherType⟩ s)

/-- Loading, opening and sealing a volume (R16, R18, R19): LOAD_SNAPSHOT puts an ACTIVE snapshot, without the BASE flag, into its place by epoch and the volume's greatest epoch seen
takes its epoch in; with the flag, REPL_BASE stands on that snapshot alone and the base label is its label, and a STALLED auto-trim looks again; OPEN_VOLUME makes the volume ONLINE at an epoch above every epoch seen;
SEAL_VOLUME and UNSEAL_VOLUME make an open volume SEALED and ONLINE. Nothing else changes. -/
def Obligations.VolumesAreLoadedOpenedAndSealed : Prop :=
  ∀ (s : State) (r : RingNo) (tag : Nat) (v : Vol), s.up →
    (∀ p : LoadSnapshotParams, p.volume = v.val → (s.vol v).state = .defined → p.epoch ≠ 0 → p.epoch ≠ 4294967295 →
      (∀ x ∈ (s.snapVol v).snaps, x.label ≠ p.label ∧ x.epoch ≠ p.epoch) → (s.snapVol v).snaps.length < 64 →
      (p.base = false → exec (.loadSnapshot r tag p) s = .next (answer r ⟨tag, 0x06, 0x00, 0, p.epoch, 0⟩
        ((s.setSnapVol v { s.snapVol v with
          snaps := insertSnapshot ⟨p.epoch, p.label, p.createdAt, true, false, false, 0⟩ (s.snapVol v).snaps }).setVol v
          { s.vol v with seen := some (max ((s.vol v).seen.getD 0) p.epoch) }))) ∧
      (p.base = true → ∃ m u, exec (.loadSnapshot r tag p) s = .next (answer r ⟨tag, 0x06, 0x00, 0, p.epoch, 0⟩ u) ∧
        m = ((s.setSnapVol v { s.snapVol v with
          snaps := (insertSnapshot ⟨p.epoch, p.label, p.createdAt, true, false, false, 0⟩ (s.snapVol v).snaps).map
            fun z => { z with replBase := decide (z.epoch = p.epoch) } }).setVol v
          { s.vol v with seen := some (max ((s.vol v).seen.getD 0) p.epoch), baseLabel := some p.label }) ∧
        u = (match (s.snapVol v).snaps.find? (·.replBase) with | some o => leftUnheld v o.epoch m | none => m))) ∧
    (∀ p : OpenVolumeParams, p.volume = v.val → (s.vol v).state = .defined → p.epoch ≠ 0 → (∀ m, (s.vol v).seen = some m → m < p.epoch) →
      exec (.openVolume r tag p) s = .next (answer r ⟨tag, 0x08, 0x00, 0, p.epoch, 0⟩
        (s.setVol v { s.vol v with epoch := some p.epoch, state := .online }))) ∧
    ((s.vol v).state = .online ∨ (s.vol v).state = .sealed →
      exec (.sealVolume r tag v.val) s = .next (answer r ⟨tag, 0x09, 0x00, 0, 0, 0⟩ (s.setVol v { s.vol v with state := .sealed })) ∧
      exec (.unsealVolume r tag v.val) s = .next (answer r ⟨tag, 0x0A, 0x00, 0, 0, 0⟩ (s.setVol v { s.vol v with state := .online })))

/-- LOAD_EXTENT (R17, R18): the record given joins the table, LIVE without a death epoch and HELD with one, with no limit check: a LIVE record of a PRIMARY volume charges its owner and
group, of a REPLICA volume its LANDING account, a HELD record the RESERVE account. A PRIMARY volume stores no source first block. The re-ratings raise their notices in order (R45, notes/assumptions/19.md), and a RESERVE account
that is OVER has auto-trim started or looking again (R35, R62, R64). Nothing else changes. -/
def Obligations.LoadExtentAddsTheRecordGiven : Prop :=
  ∀ (s : State) (r : RingNo) (tag : Nat) (p : LoadExtentParams) (v : Vol) (c : Nat) (w : State), s.up → formOk (.loadExtent p) = true →
    p.charge.volume = v.val → (s.vol v).state = .defined → p.charge.first + p.charge.len ≤ (s.vol v).defn.blockCount →
    s.taken v ⟨p.charge.first, p.charge.len⟩ = false → s.extents.length < 16777216 → c = p.charge.len * (s.vol v).defn.blockKiB →
    w = (s.setExtents (insertExtent ⟨v, p.charge.first, p.charge.len, p.charge.object, p.charge.offset, p.charge.owner, p.charge.group, p.birth, p.death,
        false, none, if (s.vol v).defn.role = .replica then p.source else none⟩ s.extents)).setVol v
      { s.vol v with seen := some (max ((s.vol v).seen.getD 0) (max p.birth (p.death.getD 0))) } →
    ((s.vol v).defn.role = .primary → p.death = none → (s.account p.charge.owner).kind = .user →
      (∀ g, p.charge.group = some g → (s.account g).kind = .group) →
      ∃ u, exec (.loadExtent r tag p) s = .next (answer r ⟨tag, 0x07, 0x00, 0, 0, 0⟩ u) ∧ w.accountsOnly u (ownerThenGroup p.charge.owner p.charge.group (s.chargedUser c)) ∧
        ∀ i, u.account i = if i = p.charge.owner ∨ p.charge.group = some i then (s.chargedUser c i).1 else s.account i) ∧
    ((s.vol v).defn.role = .replica → p.source ≠ none → p.death = none → (s.account (v.val + 16)).kind = .landing →
      ∃ u, exec (.loadExtent r tag p) s = .next (answer r ⟨tag, 0x07, 0x00, 0, 0, 0⟩ u) ∧ w.accountsOnly u
          (landingNotices (v.val + 16) (s.account (v.val + 16)).usage { s.account (v.val + 16) with usage := (s.account (v.val + 16)).usage + c }) ∧
        ∀ i, u.account i = if i = v.val + 16 then
            { s.account i with usage := (s.account i).usage + c, records := (s.account i).records + 1
                               state := if (s.account i).hard ≠ 0 ∧ (s.account i).hard < (s.account i).usage + c then .overHard else .under }
          else s.account i) ∧
    ((s.vol v).defn.role = .primary ∨ ((s.vol v).defn.role = .replica ∧ p.source ≠ none) → (s.account v.val).kind = .reserve →
      ∀ d, p.death = some d → (∃ x ∈ (s.snapVol v).snaps, p.birth ≤ x.epoch ∧ x.epoch < d) →
      ∀ z, z = reserveState (s.account v.val).hard ((s.account v.val).usage + c) →
      ∃ m, exec (.loadExtent r tag p) s = .next (answer r ⟨tag, 0x07, 0x00, 0, 0, 0⟩ (reserveTrim v (s.account v.val).state z m)) ∧
        w.accountsOnly m (reserveNotice v (s.account v.val).state z) ∧
        ∀ i, m.account i = if i = v.val then
            { s.account i with usage := (s.account i).usage + c, records := (s.account i).records + 1, state := z }
          else s.account i)

/-! ### Accounts and the clock (chapter 2) -/

/-- Thresholds, the charge decisions and re-rating (R27, R28, R29, R31, R32, Table 2-3): S is H times (1000 less M), and L is H times (975 less M), over 1000 and rounded down, for the M of each
margin code; L is never above S, S never above H, and both are 0 when H is 0; an account accepts a charge as R31's tests decide in their order; the two-account decision asks the owner
first, then the group, and names the side that refuses; and each of the six steps of a re-rating leaves its state and deadline, with the notices it raises in their order, and the account's other
fields as they are. -/
def Obligations.ThresholdsDecisionsAndReRating : Prop :=
  (∀ (a : Account) (m : Nat), (a.margin, m) ∈ [(0, 50), (1, 75), (2, 100), (3, 125), (4, 150), (5, 200), (6, 250), (7, 300)] →
    a.soft = a.hard * (1000 - m) / 1000 ∧ a.leave = a.hard * (975 - m) / 1000 ∧ a.leave ≤ a.soft ∧ a.soft ≤ a.hard ∧
      (a.hard = 0 → a.soft = 0 ∧ a.leave = 0)) ∧
  (∀ (a : Account) (c : Nat),
    (a.hard = 0 → chargeDecision a c = none) ∧
    (a.hard ≠ 0 → a.hard < a.usage + c → chargeDecision a c = some .hardLimit) ∧
    (a.hard ≠ 0 → a.usage + c ≤ a.hard → a.state = .expired → a.privileged = false → chargeDecision a c = some .graceExpired) ∧
    (a.hard ≠ 0 → a.usage + c ≤ a.hard → (a.state ≠ .expired ∨ a.privileged = true) → chargeDecision a c = none)) ∧
  (∀ (s : State) (owner : Nat) (group : Option Nat) (c : Nat),
    (∀ st, chargeDecision (s.account owner) c = some st → twoAccountDecision s owner group c = some ⟨st, owner, 1⟩) ∧
    (chargeDecision (s.account owner) c = none →
      (group = none → twoAccountDecision s owner group c = none) ∧
      ∀ g, group = some g →
        (∀ st, chargeDecision (s.account g) c = some st → twoAccountDecision s owner group c = some ⟨st, g, 2⟩) ∧
        (chargeDecision (s.account g) c = none → twoAccountDecision s owner group c = none))) ∧
  ∀ (clock : Nat) (a : Account),
    (a.hard = 0 ∨ a.usage ≤ a.leave → rateUser clock a = ({ a with state := .under, deadline := none }, [])) ∧
    (a.hard ≠ 0 → a.hard < a.usage →
      rateUser clock a = ({ a with state := .overHard }, if a.state = .overHard then [] else [.hardExceeded])) ∧
    (a.hard ≠ 0 → a.usage ≤ a.hard → a.leave < a.usage → a.state = .grace ∨ a.state = .expired → rateUser clock a = (a, [])) ∧
    (a.hard ≠ 0 → a.usage ≤ a.hard → a.usage ≤ a.soft → a.state = .under → rateUser clock a = ({ a with state := .under, deadline := none }, [])) ∧
    (a.hard ≠ 0 → a.usage ≤ a.hard → (a.state = .under ∧ a.soft < a.usage) ∨ (a.state = .overHard ∧ a.leave < a.usage ∧ a.deadline = none) →
      (a.grace = 0 → rateUser clock a = ({ a with state := .expired, deadline := some clock }, [.softCrossed, .graceExpired])) ∧
      (a.grace ≠ 0 → rateUser clock a = ({ a with state := .grace, deadline := some (min (clock + a.grace) 4294967295) }, [.softCrossed]))) ∧
    (a.hard ≠ 0 → a.usage ≤ a.hard → a.leave < a.usage → a.state = .overHard → ∀ d, a.deadline = some d →
      rateUser clock a = if clock < d then ({ a with state := .grace }, []) else ({ a with state := .expired }, [.graceExpired]))

/-- SET_LIMIT, LOAD_ACCOUNT and DROP_ACCOUNT (R37 to R39): the account's new terms and its re-rating, LOAD_ACCOUNT's deadline applied to what the re-rating left, and the return of a
host account to NONE. The re-rating raises its notices in order (R45), and a RESERVE account that is OVER has auto-trim started or looking again (R35, R62, R64). No other account changes, and
nothing else does. That a limit which takes a RESERVE account out of OVER leaves a STALLED auto-trim as it is, is notes/assumptions/49.md. -/
def Obligations.AccountTermsAreSetAndReRated : Prop :=
  ∀ (s : State) (r : RingNo) (tag : Nat), s.up →
    (∀ p : SetLimitParams, formOk (.setLimit p) = true → (s.account p.account).kind ≠ .none →
      ∃ x ns m, s.accountsOnly m ns ∧ (∀ i, m.account i = if i = p.account then x else s.account i) ∧
        ((s.account p.account).kind = .user ∨ (s.account p.account).kind = .group →
          (x, ns.map Prod.fst) = rateUser s.qu.clock { s.account p.account with
            hard := p.hard, margin := p.margin, grace := p.grace, privileged := p.privileged } ∧ (∀ n ∈ ns, n.2 = p.account) ∧
          exec (.setLimit r tag p) s = .next (answer r ⟨tag, 0x10, 0x00, x.state.code, x.soft, x.leave⟩ m)) ∧
        ((s.account p.account).kind = .reserve →
          x = { s.account p.account with hard := p.hard, margin := p.margin, state := reserveState p.hard (s.account p.account).usage } ∧
          ns = reserveNotice (toVol p.account) (s.account p.account).state x.state ∧
          exec (.setLimit r tag p) s = .next (answer r ⟨tag, 0x10, 0x00, x.state.code, x.soft, x.leave⟩
            (reserveTrim (toVol p.account) (s.account p.account).state x.state m))) ∧
        ((s.account p.account).kind = .landing → x = { s.account p.account with
            hard := p.hard, margin := p.margin
            state := if p.hard ≠ 0 ∧ p.hard < (s.account p.account).usage then .overHard else .under } ∧
          ns = (if x.state = .overHard ∧ (s.account p.account).state ≠ .overHard then [(.hardExceeded, p.account)] else []) ∧
          exec (.setLimit r tag p) s = .next (answer r ⟨tag, 0x10, 0x00, x.state.code, x.soft, x.leave⟩ m))) ∧
    (∀ (p : LoadAccountParams) (k : AccountKind) (x y : Account) (ns : List NoticeKind), formOk (.loadAccount p) = true →
      (p.kind = 1 ∧ k = .user) ∨ (p.kind = 2 ∧ k = .group) →
      (s.account p.account).kind = .none ∨ (s.account p.account).kind = k ∨ (s.account p.account).records = 0 →
      (x, ns) = rateUser s.qu.clock { s.account p.account with
        kind := k, hard := p.hard, margin := p.margin, grace := p.grace, privileged := p.privileged } →
      y = (match p.deadline with
        | none => x
        | some d =>
          match x.state with
          | .grace | .expired => { x with deadline := some d, state := if s.qu.clock < d then .grace else .expired }
          | .overHard => { x with deadline := some d }
          | _ => x) →
      ∃ u, exec (.loadAccount r tag p) s = .next (answer r ⟨tag, 0x11, 0x00, y.state.code, y.usage, 0⟩ u) ∧
        s.accountsOnly u (ns.map (·, p.account)) ∧ ∀ i, u.account i = if i = p.account then y else s.account i) ∧
    ∀ i, 32 ≤ i → i ≤ 262143 → (s.account i).records = 0 → sparseWf Account.none s.qu.accounts = true →
      ∃ u, exec (.dropAccount r tag i) s = .next (answer r ⟨tag, 0x12, 0x00, 0, 0, 0⟩ u) ∧
        u = s.setQu { s.qu with accounts := u.qu.accounts, timers := s.qu.timers.filter fun t => decide (t.2 ≠ i) } ∧
        ∀ j, u.account j = if j = i then .none else s.account j

/-- The estate clock (R41, R42, R44, R124): SET_CLOCK gives it a value, and a forward move expires every account of the list that is due, with their number in the answer;
CLOCK_ADVANCE adds one, up to its last value, and begins the examination of the list, whose expiries are GRACE_EXPIRY commands (notes/assumptions/6.md), and marks the run
queue to be looked at, which starts no run by itself (notes/assumptions/7.md); each examines the pacer's window. -/
def Obligations.TheClockMovesAndAccountsExpire : Prop :=
  (∀ (x : Settings) (clock : Nat), x.pAt clock =
    if (x.nightStart < x.nightEnd ∧ x.nightStart ≤ clock % 86400 / 3600 ∧ clock % 86400 / 3600 < x.nightEnd) ∨
      (x.nightEnd < x.nightStart ∧ (x.nightStart ≤ clock % 86400 / 3600 ∨ clock % 86400 / 3600 < x.nightEnd)) then x.pNight else x.pDay) ∧
  ∀ s : State,
    (∀ r tag v, s.up → v ≤ s.qu.clock → v ≤ 4294967295 → exec (.setClock r tag v) s =
      .next (answer r ⟨tag, 0x14, 0x00, 0, s.qu.clock, 0⟩
        ((s.setQu { s.qu with clock := v }).setDs { s.ds with p := s.ds.settings.pAt v }))) ∧
    (∀ r tag v, s.up → s.qu.ok → s.qu.clock < v → v ≤ 4294967295 →
      ∃ u, exec (.setClock r tag v) s =
          .next (answer r ⟨tag, 0x14, 0x00, (s.qu.timers.filter fun t => decide (t.1 ≤ v)).length, s.qu.clock, 0⟩ u) ∧
        ((s.setQu u.qu).setDs { s.ds with p := s.ds.settings.pAt v }).noticesOnly u ∧
        u.qu.clock = v ∧ u.qu.examining = s.qu.examining ∧ u.qu.timers = s.qu.timers.filter (fun t => decide (v < t.1)) ∧
        (∀ d i, (d, i) ∈ s.qu.timers → d ≤ v → u.account i = { s.account i with state := .expired }) ∧
        ∀ i, (∀ d, (d, i) ∈ s.qu.timers → v < d) → u.account i = s.account i) ∧
    exec .clockAdvance s = .next ((s.setQu { s.qu with clock := min (s.qu.clock + 1) 4294967295, examining := true }).setDs
      { s.ds with p := s.ds.settings.pAt (min (s.qu.clock + 1) 4294967295), lookDue := true }) ∧
    (s.qu.examining = false → exec .graceExpiry s = .next s) ∧
    (s.qu.examining = true → (∀ d i rest, s.qu.timers = (d, i) :: rest → s.qu.clock < d) →
      exec .graceExpiry s = .next (s.setQu { s.qu with examining := false })) ∧
    ∀ d i rest, s.qu.ok → s.qu.examining = true → s.qu.timers = (d, i) :: rest → d ≤ s.qu.clock →
      ∃ t, exec .graceExpiry s = .next (raise .graceExpired i 0 t) ∧
        t = s.setQu { s.qu with accounts := t.qu.accounts, timers := rest } ∧
        ∀ j, t.account j = if j = i then { s.account i with state := .expired } else s.account j

/-! ### Snapshots, trimming and release lists (chapter 3) -/

/-- SNAPSHOT_CREATE and SNAPSHOT_RETIRE (R48 to R50, R55, R56): a create with no FILLING record makes an ACTIVE snapshot without holds at the current epoch, at the end of the list, and
the epoch rises by one; with one, it waits on the gate and is answered ACCEPTED. When no FILLING record of the volume is left, every waiting create completes in order, the gate is
OPEN again, and each takes the next epoch: a host's is answered DONE with its epoch, the sender's gives the active run its target, which carries REPL_TARGET. A retire of an ACTIVE snapshot without holds makes it RETIRING and puts it at the back of the retire
queue, whose scan starts when the queue was empty. -/
def Obligations.SnapshotsAreMadeAndRetired : Prop :=
  ∀ (s : State) (r : RingNo) (tag : Nat) (p : SnapshotParams) (v : Vol) (E : Nat), s.up → p.volume = v.val →
    (s.vol v).state = .online ∨ (s.vol v).state = .sealed →
    ((∀ e ∈ s.extents, e.volume = v → e.filling = false) →
      (∀ g, (s.snapVol v).gate = [g] → gateLook v s = completeCreate v g (s.setSnapVol v { s.snapVol v with gate := [] })) ∧
      ∀ g h, (s.snapVol v).gate = [g, h] →
        gateLook v s = completeCreate v h (completeCreate v g (s.setSnapVol v { s.snapVol v with gate := [] }))) ∧
    ((∃ e ∈ s.extents, e.volume = v ∧ e.filling = true) ∨ (s.snapVol v).gate = [] → gateLook v s = s) ∧
    (∀ target t, (s.vol v).epoch = some E →
      t = autoTrimAgain v ((s.setSnapVol v { s.snapVol v with snaps := (s.snapVol v).snaps ++ [⟨E, p.label, s.qu.clock, true, false, target, 0⟩] }).setVol v
        { s.vol v with epoch := some (E + 1) }) →
      (target = false → completeCreate v (.host r tag p.label) s = answer r ⟨tag, 0x20, 0x02, 0, E, s.qu.clock⟩ t) ∧
      (target = true → ∀ x, s.ds.active = some x →
        completeCreate v (.sender p.label) s = sendOffer (t.setDs { s.ds with active := some { x with target := some E } }))) ∧
    ((s.vol v).defn.role = .primary → (s.vol v).epoch = some E → (∀ x ∈ (s.snapVol v).snaps, x.label ≠ p.label) → p.label ∉ (s.snapVol v).reserved →
      (s.snapVol v).snaps.length + (s.snapVol v).reserved.length < 64 → E + (s.snapVol v).gate.length ≤ 4294967294 →
      (∀ ring t l, .host ring t l ∉ (s.snapVol v).gate) →
      ((∀ e ∈ s.extents, e.volume = v → e.filling = false) →
        exec (.snapshotCreate r tag p) s = .next (answer r ⟨tag, 0x20, 0x00, 0, E, s.qu.clock⟩ (autoTrimAgain v
          ((s.setSnapVol v { s.snapVol v with snaps := (s.snapVol v).snaps ++ [⟨E, p.label, s.qu.clock, true, false, false, 0⟩] }).setVol v
            { s.vol v with epoch := some (E + 1) })))) ∧
      ((∃ e ∈ s.extents, e.volume = v ∧ e.filling = true) →
        exec (.snapshotCreate r tag p) s = .next (answer r ⟨tag, 0x20, 0x01, 0, 0, 0⟩
          (s.setSnapVol v { s.snapVol v with gate := (s.snapVol v).gate ++ [.host r tag p.label] })))) ∧
    ∀ x, (s.snapVol v).snaps.find? (fun y => decide (y.label = p.label)) = some x → x.active = true → x.replBase = false → x.replTarget = false →
      x.holds = 0 →
      exec (.snapshotRetire r tag p) s = .next (answer r ⟨tag, 0x21, 0x01, 0, x.epoch, 0⟩
        (s.setSnapVol v { s.snapVol v with
          snaps := (s.snapVol v).snaps.map fun y => if y.epoch = x.epoch then { y with active := false } else y
          retire := (s.snapVol v).retire ++ [⟨x.epoch, .host r tag, 0, 0⟩]
          trim := if (s.snapVol v).retire = [] then .scanning 0 else (s.snapVol v).trim }))

/-- Auto-trim (R62 to R64): its step turns it OFF when it is not wanted, retires the first snapshot of the list that is ACTIVE without holds, as a retire would but with origin AUTO, and
is STALLED when there is none; a start request changes nothing while it is WORKING, and a repeated look, such as that of a snapshot left without holds, acts only while it is STALLED.
TRIM_SCAN_STEP (R57 to R59): the front entry's scan passes over a record that is not a candidate or that an ACTIVE snapshot still protects; it removes any other candidate, whose run
joins the release list and whose charge the RESERVE account gets back; it waits when the list cannot take the run; and at the end of the walk, which is a step of its own
(notes/assumptions/14.md), the snapshot and its entry leave and the end is reported. A walk that leaves behind it a HELD record that no other snapshot spans starts again at block 0 instead, so
that R60's law holds, which is the model's choice (notes/assumptions/41.md), and so is that a refund which takes the RESERVE account out of OVER has no STALLED auto-trim look again (notes/assumptions/49.md). -/
def Obligations.AutoTrimAndTrimScans : Prop :=
  (∀ (s : State) (v : Vol) (a : Account) (wanted : Prop), a = s.account v.val →
    wanted = ((s.vol v).defn.autoTrim = true ∧ a.hard ≠ 0 ∧ a.soft < a.usage) →
    (¬wanted → autoTrimStep v s = s.setSnapVol v { s.snapVol v with auto := .off }) ∧
    (wanted → (∀ x ∈ (s.snapVol v).snaps, ¬(x.active = true ∧ x.unheld = true)) →
      autoTrimStep v s = s.setSnapVol v { s.snapVol v with auto := .stalled }) ∧
    (wanted → ∀ l x t, (s.snapVol v).snaps = l ++ x :: t → (∀ y ∈ l, ¬(y.active = true ∧ y.unheld = true)) → x.active = true → x.unheld = true →
      autoTrimStep v s = s.setSnapVol v { s.snapVol v with
        snaps := (s.snapVol v).snaps.map fun y => if y.epoch = x.epoch then { y with active := false } else y
        retire := (s.snapVol v).retire ++ [⟨x.epoch, .auto, 0, 0⟩]
        trim := if (s.snapVol v).retire = [] then .scanning 0 else (s.snapVol v).trim
        auto := .working }) ∧
    ((s.snapVol v).auto = .working → autoTrimStart v s = s) ∧ ((s.snapVol v).auto ≠ .working → autoTrimStart v s = autoTrimStep v s) ∧
    ((s.snapVol v).auto ≠ .stalled → autoTrimAgain v s = s) ∧ ((s.snapVol v).auto = .stalled → autoTrimAgain v s = autoTrimStep v s) ∧
    ∀ epoch, leftUnheld v epoch s = (match (s.snapVol v).snaps.find? (fun y => decide (y.epoch = epoch)) with
      | some x => if x.replBase = false ∧ x.replTarget = false ∧ x.holds = 0 then autoTrimAgain v s else s
      | none => s)) ∧
  ∀ (s : State) (v : Vol) (cursor : Nat) (x : RetireEntry) (rest : List RetireEntry), (s.snapVol v).trim = .scanning cursor →
    (s.snapVol v).retire = x :: rest →
    (∀ e, s.nextRecord v cursor = some e →
      ((∀ d, e.death = some d → e.birth ≤ x.epoch → x.epoch < d → ∃ y ∈ (s.snapVol v).snaps, y.active = true ∧ e.birth ≤ y.epoch ∧ y.epoch < d) →
        exec (.trimScanStep v) s = .next (s.setSnapVol v { s.snapVol v with trim := .scanning (e.first + e.len) })) ∧
      ∀ d, e.death = some d → e.birth ≤ x.epoch → x.epoch < d →
        (∀ y ∈ (s.snapVol v).snaps, ¬(y.active = true ∧ e.birth ≤ y.epoch ∧ y.epoch < d)) →
        (∀ w, releaseAppend v ⟨e.first, e.len⟩ s = some w → (s.account v.val).kind = .reserve →
          ∀ c z, c = e.len * (s.vol v).defn.blockKiB → z = reserveState (s.account v.val).hard ((s.account v.val).usage - c) →
          ∃ m u, (w.setExtents (s.extents.filter fun y => !(decide (y.volume = v) && decide (y.first = e.first)))).accountsOnly m
              (reserveNotice v (s.account v.val).state z) ∧
            (∀ i, m.account i = if i = v.val then
                { s.account i with usage := (s.account i).usage - c, records := (s.account i).records - 1, state := z } else s.account i) ∧
            u = reserveTrim v (s.account v.val).state z m ∧
            exec (.trimScanStep v) s = .next (u.setSnapVol v { u.snapVol v with
              retire := { x with records := x.records + 1, kib := x.kib + c } :: (u.snapVol v).retire.drop 1
              trim := .scanning (e.first + e.len) })) ∧
        (releaseAppend v ⟨e.first, e.len⟩ s = none → .trim ∉ (s.snapVol v).producers →
          ∃ t, t = s.setSnapVol v { s.snapVol v with trim := .waiting e.first, producers := (s.snapVol v).producers ++ [.trim] } ∧
            exec (.trimScanStep v) s = .next (if (s.snapVol v).producers = [] then raise .releaseFull v.val 0 t else t))) ∧
    (s.nextRecord v cursor = none →
      (∃ e ∈ s.records v, ∃ d, e.death = some d ∧ e.birth ≤ x.epoch ∧ x.epoch < d ∧ ∀ z ∈ (s.snapVol v).snaps, z.epoch ≠ x.epoch → ¬(e.birth ≤ z.epoch ∧ z.epoch < d)) →
      exec (.trimScanStep v) s = .next (s.setSnapVol v { s.snapVol v with trim := .scanning 0 })) ∧
    (s.nextRecord v cursor = none →
      (∀ e ∈ s.records v, ∀ d, e.death = some d → e.birth ≤ x.epoch → x.epoch < d → ∃ z ∈ (s.snapVol v).snaps, z.epoch ≠ x.epoch ∧ e.birth ≤ z.epoch ∧ z.epoch < d) →
      ∃ t, t = s.setSnapVol v { s.snapVol v with
          snaps := (s.snapVol v).snaps.filter fun z => decide (z.epoch ≠ x.epoch)
          retire := rest, trim := if rest = [] then .idle else .scanning 0 } ∧
        (∀ r tag, x.origin = .host r tag → x.records < 2 ^ 32 →
          exec (.trimScanStep v) s = .next (answer r ⟨tag, 0x21, 0x02, x.records, x.epoch, x.kib⟩ t)) ∧
        (x.origin = .hostSilent → exec (.trimScanStep v) s = .next (raise .snapshotTrimmed v.val x.epoch t)) ∧
        (x.origin = .auto → exec (.trimScanStep v) s = .next (autoTrimStep v (raise .snapshotTrimmed v.val x.epoch t))))

/-- An append to a release list (R65, R68): the run merges with the newest entry that it follows, unless the two together pass 65,535 blocks or a TAKE_RELEASED holds that entry;
otherwise it becomes the newest entry, with RELEASE_READY when the list was empty; and a full list that cannot merge it takes nothing. TAKE_RELEASED (R66 to R68): the request marks the
front entries it takes, or is answered at once for an empty list; when its writes complete, those entries stand in the buffer, leave the list, and are answered; and a trim scan that waited for
room goes on. -/
def Obligations.ReleaseListsGrowAndAreTaken : Prop :=
  (∀ (s : State) (v : Vol) (g : Run),
    (∀ l n, (s.snapVol v).release = l ++ [n] → n.first + n.len = g.first → n.len + g.len ≤ 65535 →
      (∀ t, (s.snapVol v).taking = some t → t.count ≤ l.length) →
      releaseAppend v g s = some (s.setSnapVol v { s.snapVol v with release := l ++ [⟨n.first, n.len + g.len⟩] })) ∧
    (((s.snapVol v).release = [] ∨ ∃ l n, (s.snapVol v).release = l ++ [n] ∧
        (n.first + n.len ≠ g.first ∨ 65535 < n.len + g.len ∨ ∃ t, (s.snapVol v).taking = some t ∧ l.length < t.count)) →
      ((s.snapVol v).release.length < 4096 → ∃ t, t = s.setSnapVol v { s.snapVol v with release := (s.snapVol v).release ++ [g] } ∧
        releaseAppend v g s = some (if (s.snapVol v).release = [] then raise .releaseReady v.val 0 t else t)) ∧
      (4096 ≤ (s.snapVol v).release.length → releaseAppend v g s = none))) ∧
  ∀ (s : State) (v : Vol),
    (∀ (r : RingNo) (tag : Nat) (p : TakeReleasedParams), s.up → p.volume = v.val → 1 ≤ p.max → p.max ≤ 4096 → (s.vol v).state ≠ .undefined →
      (s.snapVol v).taking = none →
      ((s.snapVol v).release = [] → exec (.takeReleased (.request r tag p)) s = .next (answer r ⟨tag, 0x22, 0x00, 0, 0, 0⟩ s)) ∧
      ((s.snapVol v).release ≠ [] → exec (.takeReleased (.request r tag p)) s = .next
        (s.setSnapVol v { s.snapVol v with taking := some ⟨r, tag, p.buffer, min p.max (s.snapVol v).release.length⟩ }))) ∧
    ∀ t rs left w, (s.snapVol v).taking = some t → rs = (s.snapVol v).release.take t.count → left = (s.snapVol v).release.drop t.count →
      w = answer t.ring ⟨t.tag, 0x22, 0x00, rs.length, left.length, (rs.map Run.len).sum⟩
        ((s.writeBytes t.buffer (rs.flatMap fun g => le 6 g.first ++ le 2 g.len)).setSnapVol v { s.snapVol v with release := left, taking := none }) →
      ((s.snapVol v).producers = [] → exec (.takeReleased (.writesComplete v)) s = .next w) ∧
      ∀ first e, (s.snapVol v).producers = [.trim] → (s.snapVol v).trim = .waiting first → s.recordAt v first = some e → left.length < 4096 →
        ∃ u, exec (.takeReleased (.writesComplete v)) s = .next u ∧ (u.snapVol v).producers = [] ∧ (u.snapVol v).trim = .scanning (e.first + e.len) ∧
          u.extents = s.extents.filter (fun y => !(decide (y.volume = v) && decide (y.first = first)))

/-! ### Restores and probes (chapter 4) -/

/-- RESTORE and PROBE accepted (R75 to R78, R91): the lowest-numbered FREE context takes the request in CLAIMED with every target block claimed, the source snapshot gains a hold, and
ACCEPTED gives the context number and the snapshot's epoch; the search waits while that answer is not handed on. That a PROBE takes the lowest-numbered context and waits so is the model's
(notes/assumptions/38.md). -/
def Obligations.RestoreAndProbeTakeAContext : Prop :=
  ∀ (s : State) (r : RingNo) (tag : Nat) (v : Vol) (x : Snapshot) (c : Ctx) (t : RestoreCtx → State), s.up →
    (s.vol v).defn.role = .primary → x.active = true → s.faulted .restore = false → (s.restoreCtx c).phase = .free →
    (∀ d : Ctx, d < c → (s.restoreCtx d).phase ≠ .free) →
    (∀ y, t y = (s.setSnapVol v { s.snapVol v with
      snaps := (s.snapVol v).snaps.map fun z => if z.epoch = x.epoch then { z with holds := z.holds + 1 } else z }).setRestoreCtx c y) →
    (∀ (p : RestoreParams) (targets : List Run), formOk (.restore p) = true → p.volume = v.val → (s.vol v).state = .online →
      (∀ g ∈ targets, g.len ≠ 0 ∧ g.first + g.len ≤ (s.vol v).defn.blockCount ∧ s.taken v g = false) → anyOverlap targets = false →
      p.count ≤ (targets.map Run.len).sum → (s.snapVol v).snaps.find? (fun z => decide (z.label = p.label)) = some x →
      (s.account p.owner).kind = .user → (∀ g, p.group = some g → (s.account g).kind = .group) →
      ∃ y, y.phase = .claimed ∧ y.probe = false ∧ y.claim = targets ∧ y.targets = targets ∧ y.pos = 0 ∧ y.searchPos = p.srcOffset ∧ y.plan = [] ∧
        y.flight = none ∧ y.copied = 0 ∧ y.zeroed = 0 ∧ y.cancel = false ∧ y.ring = r ∧ y.tag = tag ∧ y.volume = v ∧ y.epoch = x.epoch ∧
        y = restoreContext r tag p targets x.epoch ∧
        exec (.restore r tag p targets) s = .next
          (if (answerDue r ⟨tag, 0x30, 0x01, c.val, x.epoch, 0⟩ (.accepted c) (t y)).2 then
            (answerDue r ⟨tag, 0x30, 0x01, c.val, x.epoch, 0⟩ (.accepted c) (t y)).1
          else (answerDue r ⟨tag, 0x30, 0x01, c.val, x.epoch, 0⟩ (.accepted c) (t y)).1.setRestoreCtx c { y with acceptedDue := true })) ∧
    ∀ p : ProbeParams, formOk (.probe p) = true → p.volume = v.val → (s.vol v).state = .online ∨ (s.vol v).state = .sealed →
      (s.snapVol v).snaps.find? (fun z => decide (z.label = p.label)) = some x →
      ∃ y, y.phase = .claimed ∧ y.probe = true ∧ y.claim = [] ∧ y.searchPos = p.srcOffset ∧ y.plan = [] ∧ y.written = 0 ∧ y.max = p.max ∧
        y.buffer = p.buffer ∧ y.cancel = false ∧ y.ring = r ∧ y.tag = tag ∧ y.volume = v ∧ y.epoch = x.epoch ∧ y = probeContext r tag p x.epoch ∧
        exec (.probe r tag p) s = .next
          (if (answerDue r ⟨tag, 0x31, 0x01, c.val, x.epoch, 0⟩ (.accepted c) (t y)).2 then
            (answerDue r ⟨tag, 0x31, 0x01, c.val, x.epoch, 0⟩ (.accepted c) (t y)).1
          else (answerDue r ⟨tag, 0x31, 0x01, c.val, x.epoch, 0⟩ (.accepted c) (t y)).1.setRestoreCtx c { y with acceptedDue := true })

/-- SEARCH_STEP (R79, R80): the search adds a HOLE for the rest of the range when no record in use at the snapshot's epoch overlaps it; else a HOLE up to the record of lowest offset that
does, when one is needed, and a DATA piece of that record when the plan has a place for it; the search position moves past the pieces added. Nothing else changes. -/
def Obligations.SearchAddsPiecesInOrder : Prop :=
  ∀ (s : State) (c : Ctx) (x : RestoreCtx) (stop : Nat) (wanted : Extent → Prop) (next : List Piece → Nat → State), x = s.restoreCtx c →
    stop = x.srcOffset + x.count → x.phase ≠ .free → x.phase ≠ .ending → x.acceptedDue = false → x.searchPos < stop → x.plan.length < 256 →
    (∀ e, wanted e = (e.volume = x.volume ∧ e.object = x.srcObject ∧ e.birth ≤ x.epoch ∧ (∀ d, e.death = some d → x.epoch < d) ∧
      x.searchPos < e.offset + e.len ∧ e.offset < stop)) →
    (∀ ps pos, next ps pos = s.setRestoreCtx c
      { x with phase := if x.phase = .claimed then .searching else x.phase, plan := x.plan ++ ps, searchPos := pos }) →
    ((∀ e ∈ s.extents, ¬wanted e) → exec (.searchStep c) s = .next (next [⟨none, x.searchPos, stop - x.searchPos⟩] stop)) ∧
    ∀ e ∈ s.extents, wanted e → (∀ y ∈ s.extents, wanted y → y ≠ e → e.offset < y.offset ∨ (e.offset = y.offset ∧ e.first < y.first)) →
      (e.offset ≤ x.searchPos → exec (.searchStep c) s = .next
        (next [⟨some (e.first + (x.searchPos - e.offset)), x.searchPos, min (e.offset + e.len) stop - x.searchPos⟩] (min (e.offset + e.len) stop))) ∧
      (x.searchPos < e.offset → x.plan.length < 255 → exec (.searchStep c) s = .next
        (next [⟨none, x.searchPos, e.offset - x.searchPos⟩, ⟨some e.first, e.offset, min (e.offset + e.len) stop - e.offset⟩]
          (min (e.offset + e.len) stop))) ∧
      (x.searchPos < e.offset → x.plan.length = 255 → exec (.searchStep c) s = .next
        (next [⟨none, x.searchPos, e.offset - x.searchPos⟩] e.offset))

/-- The end of a restore or probe, and going on after a piece (R73, R86, R88, R89, R92, R99): at its end a context's claim, plan, hold and engine request go, and it is FREE once its
answer is handed on; a restore that goes on ends CANCELLED when its cancel flag is set, DONE when its plan is empty and its search over, and else waits for its next piece; a step answer
that is not handed on holds the context back. -/
def Obligations.RestoresGoOnOrEnd : Prop :=
  ∀ (s : State) (c : Ctx) (x : RestoreCtx), x = s.restoreCtx c →
    (∀ a, ∃ m w, m = (((s.setDm { s.dm with waiting := s.dm.waiting.filter fun u => !(decide (u.cls = .restore) && decide (u.num = c)) }).setRu
          { s.ru with gateOrder := s.ru.gateOrder.filter fun d => decide (d ≠ c) }).setRestoreCtx c
          { x with phase := .ending, claim := [], plan := [], flight := none }).setSnapVol x.volume
          { s.snapVol x.volume with
            snaps := (s.snapVol x.volume).snaps.map fun z => if z.epoch = x.epoch then { z with holds := z.holds - 1 } else z } ∧
      w = leftUnheld x.volume x.epoch m ∧
      endWith c a s = if (answerDue x.ring a (.restoreEnd c) w).2 then (answerDue x.ring a (.restoreEnd c) w).1.setRestoreCtx c .free
        else (answerDue x.ring a (.restoreEnd c) w).1) ∧
    (x.phase ≠ .free → x.phase ≠ .ending →
      (x.cancel = true → continueRestore c s =
        endWith c ⟨x.tag, if x.probe then 0x31 else 0x30, 0x09, 0, x.copied + 4294967296 * x.zeroed, runsLen x.targets - x.copied - x.zeroed⟩ s) ∧
      (x.cancel = false → x.plan = [] → x.srcOffset + x.count ≤ x.searchPos → continueRestore c s =
        endWith c ⟨x.tag, if x.probe then 0x31 else 0x30, 0x02, 0, x.copied + 4294967296 * x.zeroed, runsLen x.targets - x.copied - x.zeroed⟩ s) ∧
      (x.cancel = false → x.plan = [] → x.searchPos < x.srcOffset + x.count → continueRestore c s = s.setRestoreCtx c { x with phase := .searching }) ∧
      (x.cancel = false → x.plan ≠ [] → continueRestore c s = s)) ∧
    ∀ a d, d = answerDue x.ring a (.step c) s →
      (d.2 = false → stepAnswer c a s = d.1.setRestoreCtx c { x with stepDue := true }) ∧
      (d.2 = true → x.probe = false → stepAnswer c a s = continueRestore c (d.1.setRestoreCtx c { x with stepDue := false })) ∧
      (d.2 = true → x.probe = true → stepAnswer c a s = continueProbe c (d.1.setRestoreCtx c { x with stepDue := false }))

/-- CANCEL_RESTORE and PROBE_PIECE_WRITE (R90, R92): a cancel that matches no running context is refused NO_OPERATION, one that matches a single context ends it CANCELLED at once when
it has no record in the making, no write under way and no step answer waiting, and else sets its cancel flag; a probe's front piece is written to its place in the buffer and leaves the
plan, and the probe ends when its cancel flag is set, its plan is over or its maximum reached, or goes on. That a probe writes exactly while its plan holds a piece is notes/assumptions/24.md,
CANCELLED and not DONE for a cancel taken during the last write notes/assumptions/46.md, the OK before the ends notes/assumptions/9.md, and the zeros of NO_OPERATION notes/assumptions/8.md. -/
def Obligations.CancelsAndProbeWrites : Prop :=
  (∀ (s : State) (r : RingNo) (tag target : Nat), s.up →
    ((∀ c, (s.restoreCtx c).phase = .free ∨ (s.restoreCtx c).phase = .ending ∨ (s.restoreCtx c).tag ≠ target) →
      exec (.cancelRestore r tag target) s = .next (answer r ⟨tag, 0x32, 0x39, 0, 0, 0⟩ s)) ∧
    ∀ (c : Ctx) (x : RestoreCtx) (t : State), x = s.restoreCtx c → x.phase ≠ .free → x.phase ≠ .ending → x.tag = target →
      (∀ d, d ≠ c → (s.restoreCtx d).phase = .free ∨ (s.restoreCtx d).phase = .ending ∨ (s.restoreCtx d).tag ≠ target) →
      t = answer r ⟨tag, 0x32, 0x00, 1, 0, 0⟩ s →
      (x.probe = false → x.stepDue = false → (∀ f, x.flight = some f → f.created = false) → exec (.cancelRestore r tag target) s = .next
        (endWith c ⟨x.tag, 0x30, 0x09, 0, x.copied + 4294967296 * x.zeroed, runsLen x.targets - x.copied - x.zeroed⟩ t)) ∧
      (x.probe = true → x.stepDue = false → x.plan = [] → exec (.cancelRestore r tag target) s = .next
        (endWith c ⟨x.tag, 0x31, 0x09, x.written, x.searchPos, if x.srcOffset + x.count ≤ x.searchPos then 1 else 0⟩ t)) ∧
      (x.stepDue = true ∨ (x.probe = false ∧ ∃ f, x.flight = some f ∧ f.created = true) ∨ (x.probe = true ∧ x.plan ≠ []) →
        exec (.cancelRestore r tag target) s = .next (t.setRestoreCtx c { x with cancel := true }))) ∧
  ∀ (s : State) (c : Ctx) (x : RestoreCtx) (p : Piece) (rest : List Piece) (w : State), x = s.restoreCtx c → x.plan = p :: rest → x.phase ≠ .free →
    x.phase ≠ .ending → x.probe = true → x.stepDue = false → x.acceptedDue = false →
    w = (s.writeBytes (x.buffer + 24 * x.written) (pieceBytes p)).setRestoreCtx c { x with plan := rest, written := x.written + 1 } →
    (x.stepwise = true → (x.written + 1) % 256 = 0 →
      exec (.probePieceWrite c) s = .next (stepAnswer c ⟨x.tag, 0x31, 0x08, x.written + 1, x.searchPos, 0⟩ w)) ∧
    (x.stepwise = false ∨ (x.written + 1) % 256 ≠ 0 →
      (x.cancel = true → exec (.probePieceWrite c) s = .next
        (endWith c ⟨x.tag, 0x31, 0x09, x.written + 1, x.searchPos, if x.srcOffset + x.count ≤ x.searchPos then 1 else 0⟩ w)) ∧
      (x.cancel = false → (rest = [] ∧ x.srcOffset + x.count ≤ x.searchPos) ∨ x.max ≤ x.written + 1 → exec (.probePieceWrite c) s = .next
        (endWith c ⟨x.tag, 0x31, 0x02, x.written + 1, x.searchPos, if x.srcOffset + x.count ≤ x.searchPos then 1 else 0⟩ w)) ∧
      (x.cancel = false → ¬((rest = [] ∧ x.srcOffset + x.count ≤ x.searchPos) ∨ x.max ≤ x.written + 1) →
        exec (.probePieceWrite c) s = .next w))

/-- PIECE_MAP (R82, R83, R88): the front piece leaves the plan; a HOLE without ZERO_HOLES moves the target position past it; any other piece is cut to 4,096 blocks and at the end of the
target run after the one it starts in, its rest going back to the front of the plan, and waits in flight with its one or two target segments. -/
def Obligations.PiecesAreMappedOntoTargets : Prop :=
  ∀ (s : State) (c : Ctx) (x : RestoreCtx) (p : Piece) (rest : List Piece), x = s.restoreCtx c → x.plan = p :: rest → x.phase ≠ .free →
    x.phase ≠ .ending → x.probe = false → x.flight = none → x.stepDue = false → x.acceptedDue = false → x.cancel = false →
    (p.source = none → x.zeroHoles = false → ∀ w, w = s.setRestoreCtx c { x with phase := .copying, plan := rest, pos := x.pos + p.len } →
      (x.stepwise = false → exec (.pieceMap c) s = .next (continueRestore c w)) ∧
      (x.stepwise = true → exec (.pieceMap c) s = .next (stepAnswer c ⟨x.tag, 0x30, 0x07, 2, p.offset, p.len⟩ w))) ∧
    (p.source ≠ none ∨ x.zeroHoles = true → 0 < p.len → ∀ (l ts : List Run) (t : Run) (next : Nat → List Run → State), x.targets = l ++ t :: ts →
      runsLen l ≤ x.pos → x.pos < runsLen l + t.len →
      (∀ k segs, next k segs = (s.setRestoreCtx c { x with
        phase := .copying
        plan := if k < p.len then ⟨p.source.map (· + k), p.offset + k, p.len - k⟩ :: rest else rest
        flight := some ⟨{ p with len := k }, segs, false⟩ }).setRu
          { (s.setRestoreCtx c { x with
              phase := .copying
              plan := if k < p.len then ⟨p.source.map (· + k), p.offset + k, p.len - k⟩ :: rest else rest
              flight := some ⟨{ p with len := k }, segs, false⟩ }).ru with gateOrder := s.ru.gateOrder ++ [c] }) →
      (x.pos + min p.len 4096 ≤ runsLen l + t.len ∨ ts = [] → ∀ k, k = min (min p.len 4096) (runsLen l + t.len - x.pos) →
        exec (.pieceMap c) s = .next (next k [⟨t.first + (x.pos - runsLen l), k⟩])) ∧
      (∀ t2 ts2, ts = t2 :: ts2 → 0 < t2.len → runsLen l + t.len < x.pos + min p.len 4096 →
        ∀ k, k = min (min p.len 4096) (runsLen l + t.len + t2.len - x.pos) →
        exec (.pieceMap c) s = .next (next k
          [⟨t.first + (x.pos - runsLen l), runsLen l + t.len - x.pos⟩, ⟨t2.first, k - (runsLen l + t.len - x.pos)⟩])))

/-- PIECE_CREATE (R50, R84, R85): the piece that has waited longest at an OPEN gate makes one FILLING record for each of its segments, whose blocks leave the claim, charges its owner and
group, and asks for its unit, which the engine takes at once when it is idle and nothing waits; a failing check ends the restore PARTIAL with the check's status. That the notices of the owner's
account stand before those of the group's is notes/assumptions/19.md. -/
def Obligations.PiecesMakeTheirRecords : Prop :=
  ∀ (s : State) (c : Ctx) (x : RestoreCtx) (f : Flight) (q : Nat), x = s.restoreCtx c → x.probe = false → x.flight = some f → f.created = false →
    (s.snapVol x.volume).gate = [] → s.ru.gateOrder.find? (fun d => decide ((s.restoreCtx d).volume = x.volume)) = some c →
    q = f.piece.len * (s.vol x.volume).defn.blockKiB →
    ((s.account x.owner).kind = .user → (∀ g, x.group = some g → (s.account g).kind = .group) → s.extents.length + f.segs.length ≤ 16777216 →
      (∀ i, i = x.owner ∨ x.group = some i → chargeDecision (s.account i) q = none) → s.faulted .restore = false →
      ∃ u unit, exec (.pieceCreate c) s = .next u ∧ unit.cls = .restore ∧ unit.num = c ∧
        (∀ g, f.segs = [g] →
          u.extents = insertExtent ⟨x.volume, g.first, g.len, x.tgtObject, x.tgtOffset + (f.piece.offset - x.srcOffset), x.owner, x.group,
            (s.vol x.volume).epoch.getD 0, none, true, none, none⟩ s.extents ∧
          unit.seg1 = ⟨match f.piece.source with | some b => .aperture x.volume [⟨b, g.len⟩] | none => .zero, .aperture x.volume [g], g.len⟩ ∧
          unit.seg2.blocks = 0) ∧
        (∀ g h, f.segs = [g, h] →
          u.extents = insertExtent ⟨x.volume, h.first, h.len, x.tgtObject, x.tgtOffset + (f.piece.offset - x.srcOffset) + g.len, x.owner, x.group,
              (s.vol x.volume).epoch.getD 0, none, true, none, none⟩
            (insertExtent ⟨x.volume, g.first, g.len, x.tgtObject, x.tgtOffset + (f.piece.offset - x.srcOffset), x.owner, x.group,
              (s.vol x.volume).epoch.getD 0, none, true, none, none⟩ s.extents) ∧
          unit.seg1 = ⟨match f.piece.source with | some b => .aperture x.volume [⟨b, g.len⟩] | none => .zero, .aperture x.volume [g], g.len⟩ ∧
          unit.seg2 = ⟨match f.piece.source with | some b => .aperture x.volume [⟨b + g.len, h.len⟩] | none => .zero, .aperture x.volume [h], h.len⟩) ∧
        (∀ i, u.account i = if i = x.owner ∨ x.group = some i then (rateUser s.qu.clock { s.account i with
            usage := (s.account i).usage + q, records := (s.account i).records + f.segs.length }).1 else s.account i) ∧
        u.restoreCtx c = { x with claim := (u.restoreCtx c).claim, pos := x.pos + f.piece.len, flight := some { f with created := true } } ∧
        (∀ b, (∃ g ∈ (u.restoreCtx c).claim, g.first ≤ b ∧ b < g.first + g.len) ↔
          (∃ g ∈ x.claim, g.first ≤ b ∧ b < g.first + g.len) ∧ ∀ g ∈ f.segs, ¬(g.first ≤ b ∧ b < g.first + g.len)) ∧
        u.ru.gateOrder = s.ru.gateOrder.filter (fun d => decide (d ≠ c)) ∧ (∀ d, d ≠ c → u.restoreCtx d = s.restoreCtx d) ∧
        (s.dm.engine = none → s.dm.waiting = [] → u.dm = { s.dm with engine := some unit, pointer := .restore }) ∧
        (s.dm.engine ≠ none ∨ s.dm.waiting ≠ [] → u.dm = { s.dm with waiting := s.dm.waiting ++ [unit] }) ∧
        ((((s.setExtents u.extents).setQu u.qu).setRu u.ru).setDm u.dm).noticesOnly u ∧
        u.riu = (s.raising (ownerThenGroup x.owner x.group fun i => rateUser s.qu.clock { s.account i with
          usage := (s.account i).usage + q, records := (s.account i).records + f.segs.length })).riu) ∧
    ∀ st : Status,
      (((s.account x.owner).kind ≠ .user ∨ ∃ g, x.group = some g ∧ (s.account g).kind ≠ .group) ∧ st = .accountKind) ∨
        ((s.account x.owner).kind = .user ∧ (∀ g, x.group = some g → (s.account g).kind = .group) ∧
          ((16777216 < s.extents.length + f.segs.length ∧ st = .tableFull) ∨
            (s.extents.length + f.segs.length ≤ 16777216 ∧ ∃ y, twoAccountDecision s x.owner x.group q = some y ∧ y.status = st))) →
      exec (.pieceCreate c) s = .next
        (endWith c ⟨x.tag, 0x30, 0x0A, st.code, x.copied + 4294967296 * x.zeroed, runsLen x.targets - x.copied - x.zeroed⟩ s)

/-! ### The data mover (chapter 5) -/

/-- Units and the engine (R50, R86, R96 to R99): the arbiter serves, of the first class after the rotation pointer in the cycle RESTORE, SHIP, LAND that has an entry, the one that has waited
longest; a segment's destination blocks take, access by access, the bytes its source had, block for block of the two run lists, those of the staging slot, or zeros for a zero source, and no
other byte of PCI Express memory changes; SEGMENT_COMPLETE moves the primary segment and the second begins; UNIT_COMPLETE of a restore's unit moves the last one, ends its piece with FILLING
cleared and its blocks counted, lets the creates that wait complete when no FILLING record is left, releases the engine and grants it anew. That a segment's bytes are those its source holds at
its end is notes/assumptions/34.md, and the order of release, telling and grant notes/assumptions/19.md. -/
def Obligations.UnitsMoveTheirBlocks : Prop :=
  (∀ (ptr a b c : MoverClass) (w : List MoverUnit),
    (ptr, a, b, c) ∈ [(.restore, .ship, .land, .restore), (.ship, .land, .restore, .ship), (.land, .restore, .ship, .land)] →
    nextEntry ptr w = ((w.find? fun u => decide (u.cls = a)).or (w.find? fun u => decide (u.cls = b))).or (w.find? fun u => decide (u.cls = c))) ∧
  (∀ (s : State) (u : MoverUnit), s.dm.engine = none → nextEntry s.dm.pointer s.dm.waiting = some u → u.cls ≠ .ship →
    grantNext s = s.setDm { s.dm with
      engine := some u, pointer := u.cls, waiting := s.dm.waiting.filter fun y => !(decide (y.cls = u.cls) && decide (y.num = u.num)) }) ∧
  (∀ (s : State), s.dm.engine ≠ none ∨ s.dm.waiting = [] → grantNext s = s) ∧
  (∀ (s : State) (v : Vol) (source : MoveEnd) (ds : List Run) (k n bb : Nat) (blocks : List Run → List Nat) (place : List Run → Nat → Nat), memOk s.mem →
    (∀ rs, blocks rs = rs.flatMap fun r => (List.range r.len).map (r.first + ·)) → bb = (s.vol v).defn.blockKiB * 1024 → (s.vol v).defn.blockKiB % 4 = 0 →
    (∀ rs q, place rs q = (s.vol v).defn.aperture + (blocks rs).getD (q / bb) 0 * bb + q % bb) →
    (blocks ds).Nodup → (∀ b ∈ blocks ds, (s.vol v).defn.aperture + (b + 1) * bb ≤ 2 ^ 64) → 4096 * n ≤ (blocks ds).length * bb →
    (source = .zero ∨ (∃ bs, source = .staging bs ∧ bs.length = (blocks ds).length * bb) ∨
      ∃ rs, source = .aperture v rs ∧ (blocks rs).length = (blocks ds).length ∧ ∀ b ∈ blocks rs, (s.vol v).defn.aperture + (b + 1) * bb ≤ 2 ^ 64) →
    moveSegment ⟨source, .aperture v ds, k⟩ s = moveAccesses ⟨source, .aperture v ds, k⟩ ((blocks ds).length * bb / 4096) s ∧
    ∃ t, moveAccesses ⟨source, .aperture v ds, k⟩ n s = t ∧ t = s.setMem t.mem ∧
      (∀ q < 4096 * n, t.readByte (place ds q) =
        match source with | .staging bs => bs.getD q 0 | .aperture _ rs => s.readByte (place rs q) | _ => 0) ∧
      ∀ a < 2 ^ 64, (∀ q < 4096 * n, a ≠ place ds q) → t.readByte a = s.readByte a) ∧
  ∀ (s : State) (u : MoverUnit), s.dm.engine = some u →
    (u.second = false → u.seg2.blocks ≠ 0 → exec .segmentComplete s =
      .next ((moveSegment u.seg1 s).setDm { s.dm with engine := some { u with second := true } })) ∧
    ∀ (c : Ctx) (x : RestoreCtx) (f : Flight) (t w : State), u.cls = .restore → u.num = c → (u.second = true ∨ u.seg2.blocks = 0) →
      x = s.restoreCtx c → x.flight = some f →
      t = (moveSegment (if u.second then u.seg2 else u.seg1) s).setDm { s.dm with engine := none } →
      w = (f.segs.foldl (fun y g => y.setExtents
          (y.extents.map fun e => if e.volume = x.volume ∧ e.first = g.first then { e with filling := false } else e)) t).setRestoreCtx c { x with
        flight := none
        copied := if f.piece.source = none then x.copied else x.copied + f.piece.len
        zeroed := if f.piece.source = none then x.zeroed + f.piece.len else x.zeroed } →
      exec .unitComplete s = .next (grantNext
        (if x.stepwise then
          stepAnswer c ⟨x.tag, if x.probe then 0x31 else 0x30, 0x07, if f.piece.source = none then 1 else 0, f.piece.offset, f.piece.len⟩ (gateLook x.volume w)
        else continueRestore c (gateLook x.volume w)))

/-- Completion errors and FAULT_CLEAR (R87, R92, R97, R103, R105, R106, R108, R149, R177, R182). An access of the engine's unit that fails, a read or the confirming read, keeps what the segment had
written before it, records its address, kind and target, empties the class's waiting set, releases the engine, raises MOVER_FAULT and tells the requesters: the active run ends MOVER_FAULT;
a piece's records leave, their blocks return to the claim and their charge is refunded, and every RESTORE ends FAULT; or a landing is given up and every OPEN inbound run aborts MOVER_FAULT. A
RING-class access that fails, be it the read of a request record, the write of an answer, a transfer of a host buffer, a record of a SCAN_OUT, a run of a TAKE_RELEASED or a piece of a PROBE, keeps the
bytes moved before it, leaves its request unanswered, records the first fault and makes its running ring FAULTED with cause ACCESS. A clear of a set flag empties the record. The failing access is an
operand of the command and the bytes of an answer whose write failed are free (notes/assumptions/20.md); that the bytes moved before a fault are those the source holds at the fault is
notes/assumptions/34.md, the order of telling and grant, and that of the owner's notices and the group's, notes/assumptions/19.md, the order of the FAULT answers notes/assumptions/9.md, the address
of an access past 2^64−1 notes/assumptions/44.md, and the look after a clear of SHIP notes/assumptions/7.md. -/
def Obligations.CompletionErrorsAreRecorded : Prop :=
  (∀ (s : State) (u : MoverUnit) (acc : UnitAccess) (g : Segment) (v : Vol) (a k : Nat) (kind : AccessKind) (t : State),
    s.dm.engine = some u → g = (if u.second then u.seg2 else u.seg1) →
    ((∃ n written rs, acc = .read n written ∧ g.source = .aperture v rs ∧ (s.accesses v rs)[n]? = some a ∧ k = min written n ∧ kind = .read ∧
        (u.cls = .ship → u.handed ≤ 4096 * n ∧ 4096 * n < u.handed + 8192)) ∨
      (∃ l r, acc = .confirm ∧ g.dest = .aperture v (l ++ [r]) ∧
        a = ((s.vol v).defn.aperture + (r.first + r.len - 1) * ((s.vol v).defn.blockKiB * 1024)) % 2 ^ 64 ∧ k = (g.writes s).length ∧ kind = .confirm)) →
    t = raise .moverFault u.cls.code 0 ((moveAccesses g k s).setDm { s.dm with
      engine := none, waiting := s.dm.waiting.filter (fun w => decide (w.cls ≠ u.cls))
      faults := s.dm.faults.set u.cls.index ⟨true, a, kind, .volume v, false⟩ }) →
    (u.cls = .ship → exec (.moverAccessFault acc) s = .next (grantNext (endRun 0x26 0 true t))) ∧
    (u.cls = .land → ∀ x w, x = s.inCtx u.num → w = t.setReplVol x.volume { t.replVol x.volume with takeMark := 0 } →
      exec (.moverAccessFault acc) s = .next (grantNext ([0, 1, 2, 3].foldl (fun y d => abortCtx 0x16 true d y)
        (if x.state = .aborting ∧ x.walkDone = true then (raise .inboundAborted x.volume.val (x.reason.getD 0) w).setInCtx u.num .free else w)))) ∧
    (u.cls = .restore → ∀ x f, x = s.restoreCtx u.num → x.flight = some f → f.created = true → (s.account x.owner).kind = .user →
      (∀ i, x.group = some i → (s.account i).kind = .group) → ∀ q, q = f.piece.len * (s.vol x.volume).defn.blockKiB →
      ∀ back : Nat → Account × List NoticeKind, (∀ i, back i = rateUser s.qu.clock { s.account i with
        usage := (s.account i).usage - q, records := (s.account i).records - f.segs.length }) →
      ∃ m, ((t.setExtents (s.extents.filter fun e => !(decide (e.volume = x.volume) && f.segs.any fun y => decide (e.first = y.first)))).setRestoreCtx u.num
          { x with claim := x.claim ++ f.segs, flight := none }).accountsOnly m (ownerThenGroup x.owner x.group back) ∧
        (∀ i, m.account i = if i = x.owner ∨ x.group = some i then (back i).1 else s.account i) ∧
        exec (.moverAccessFault acc) s = .next (grantNext (faultRestores (endWith u.num
          ⟨x.tag, if x.probe then 0x31 else 0x30, 0x0B, 0, x.copied + 4294967296 * x.zeroed, runsLen x.targets - x.copied - x.zeroed⟩
          (gateLook x.volume m)))))) ∧
  (∀ (s : State), faultRestores s = [0, 1, 2, 3].foldl (fun (t : State) (c : Ctx) =>
      if (t.restoreCtx c).phase ≠ .free ∧ (t.restoreCtx c).phase ≠ .ending ∧ (t.restoreCtx c).probe = false then faultRestore c t else t) s ∧
    ∀ (c : Ctx) (x : RestoreCtx), x = s.restoreCtx c → (∀ f ∈ x.flight, f.created = false) → faultRestore c s = endWith c
      ⟨x.tag, if x.probe then 0x31 else 0x30, 0x0B, 0, x.copied + 4294967296 * x.zeroed, runsLen x.targets - x.copied - x.zeroed⟩ s) ∧
  (∀ (s : State) (r : RingNo) (a : Nat) (t : State),
    t = raise .moverFault 3 0 (s.setDm { s.dm with
      faults := s.dm.faults.set 3 (if (s.dm.faults[3]).fault then { s.dm.faults[3] with further := true } else ⟨true, a % 2 ^ 64, .host, .host, false⟩) }) →
    ((s.ring r).state = .enabled ∨ (s.ring r).state = .stalled → (s.ring r).waiting = [] →
      ringFault r a s = t.setRing r { s.ring r with state := .faulted, cause := .access, holder := [] }) ∧
    ((s.ring r).state = .disabled ∨ (s.ring r).state = .faulted → ringFault r a s = t)) ∧
  (∀ (s : State) (r : RingNo) (g : Ring), g = s.ring r →
    (s.mayTake r = true → exec (.ringAccessFault (.requestRead r)) s = .next (ringFault r (g.setup.reqBase + 64 * g.head) s)) ∧
    (∀ place < g.setup.ansSize, ∃ bs : List Byte, bs.length = 32 ∧ exec (.ringAccessFault (.answerWrite r place)) s =
      .next (ringFault r (g.setup.ansBase + 32 * place) ((s.writeBytes (g.setup.ansBase + 32 * place) bs).setFree (s.free + 1)))) ∧
    (∀ q a n bs moved, transferOf q s = some (a, n, bs) → moved < n →
      exec (.ringAccessFault (.buffer r q moved)) s = .next (ringFault r (a + moved) (s.writeBytes a (bs.take moved))) ∧
      (s.mayTake r = true → readRequest (s.readBytes (g.setup.reqBase + 64 * g.head) 64) = some q → exec (.ringAccessFault (.bufferAtHead r moved)) s =
        .next (ringFault r (a + moved) ((s.setRing r { g with head := if g.head + 1 < g.setup.reqSize then g.head + 1 else 0 }).writeBytes a (bs.take moved))))) ∧
    (∀ x bs key moved, s.scanOf r = some x → x.count < x.max → s.scanNext x.volume x.what x.key = some (bs, key) → moved < bs.length →
      exec (.ringAccessFault (.scanOut r moved)) s = .next (ringFault r (x.buffer + x.what.width * x.count + moved)
        ((s.writeBytes (x.buffer + x.what.width * x.count) (bs.take moved)).setScan r none)))) ∧
  (∀ (s : State), s.up →
    (∀ p, p.account ≤ 262143 →
      transferOf (.queryAccount p) s = some (p.buffer, 32, accountBytes p.account (s.account p.account))) ∧
    (∀ p v e, p.volume = (v : Vol).val → (s.vol v).state ≠ .undefined → s.recordHolding v p.block = some e →
      transferOf (.queryExtent p) s = some (p.buffer, 64, extentBytes e)) ∧
    (∀ p, p.page ≤ 64 → (∀ c, s.ps.commit = some c → c.page ≠ p.page) → transferOf (.storeRead p) s =
      some (p.buffer, 256, (List.range 256).map fun i => if p.page = 64 then s.ps.staged i else s.ps.byte (256 * p.page + i))) ∧
    (∀ p, formOk (.restore p) = true → transferOf (.restore p) s = some (p.buffer, 16 * p.runs, [])) ∧
    (∀ p v, formOk (.giveRuns p) = true → p.volume = (v : Vol).val → (s.vol v).state ≠ .undefined → (s.vol v).defn.role ≠ .primary →
      transferOf (.giveRuns p) s = some (p.buffer, 8 * p.count, []))) ∧
  (∀ (s : State) (v : Vol) (t : Taking) (bs : List Byte) (moved : Nat), (s.snapVol v).taking = some t →
    bs = ((s.snapVol v).release.take t.count).flatMap (fun g => le 6 g.first ++ le 2 g.len) → moved < bs.length →
    exec (.ringAccessFault (.takeReleased v moved)) s = .next (ringFault t.ring (t.buffer + moved)
      ((s.writeBytes t.buffer (bs.take moved)).setSnapVol v { s.snapVol v with taking := none }))) ∧
  (∀ (s : State) (c : Ctx) (x : RestoreCtx) (p : Piece) (rest : List Piece) (moved : Nat), x = s.restoreCtx c → x.plan = p :: rest → x.phase ≠ .free →
    x.phase ≠ .ending → x.probe = true → x.stepDue = false → x.acceptedDue = false → moved < 24 →
    exec (.ringAccessFault (.probeWrite c moved)) s = .next (ringFault x.ring (x.buffer + 24 * x.written + moved)
      ((endCtx c (s.writeBytes (x.buffer + 24 * x.written) ((pieceBytes p).take moved))).setRestoreCtx c .free))) ∧
  ∀ (s : State) (r : RingNo) (tag : Nat) (k : MoverClass), s.ps.safe = false →
    ((s.faultRec k).fault = false → exec (.faultClear r tag k.code) s = .next (answer r ⟨tag, 0x39, 0x00, 0, 0, 0⟩ s)) ∧
    ((s.faultRec k).fault = true → ∃ t, t = s.setDm { s.dm with faults := s.dm.faults.set k.index ⟨false, 0, .none, .none, false⟩ } ∧
      exec (.faultClear r tag k.code) s = .next (answer r ⟨tag, 0x39, 0x00, 1, 0, 0⟩
        (if k = .ship then t.setDs { s.ds with lookDue := true } else t)))

/-! ### The Duplication Sender (chapter 6) -/

/-- RUN_START, RUN_CANCEL and RUN_DEQUEUE (R111 to R115, R132): an admitted run joins the queue, its named target held, with its place in the answer; a cancel takes a queued run off the
queue with a FAILED answer of its own, its named target losing REPL_TARGET, or ends the active run; and a look at the queue starts its front run when no run is active, the link is UP, the strap is
clear and SHIP is not faulted: the run takes the next run id, and with a named target its OFFER goes to its peer; one with a new snapshot has it made at once with REPL_TARGET, waits on the gate
while a FILLING record is left, or ends NO_TARGET with the status that refused its create (R51). The OK of a queued run's cancel is handed on before its FAILED answer, as R132 gives; the completion
answer of the active run is handed on before the cancel's OK, which is the model's choice (notes/assumptions/9.md). The look is a mark that RUN_DEQUEUE reads (notes/assumptions/7.md), and the zeros of
NO_OPERATION are notes/assumptions/8.md. -/
def Obligations.RunsAreQueuedCancelledAndStarted : Prop :=
  (∀ (s : State) (r : RingNo) (tag : Nat) (p : RunStartParams) (v : Vol) (base i m : Nat), s.up → p.volume = v.val →
    (s.vol v).defn.role = .primary → (s.vol v).state = .online ∨ (s.vol v).state = .sealed → (s.vol v).defn.peer = some i → (s.vol v).defn.remote = some m →
    i ≤ 3 → (s.lc.peers[(Fin.ofNat 4 i : Ctx)]).enabled = true → s.strap = false → s.faulted .ship = false →
    (∀ x ∈ s.ds.queue, x.volume ≠ v) → (∀ x, s.ds.active = some x → x.volume ≠ v) →
    base = (if p.full then 0 else match (s.snapVol v).snaps.find? (·.replBase) with | some b => b.epoch | none => 0) →
    (p.newSnapshot = true → (∀ x ∈ (s.snapVol v).snaps, x.label ≠ p.label) → p.label ∉ (s.snapVol v).reserved →
      exec (.runStart r tag p) s = .next (answer r ⟨tag, 0x40, 0x01, s.ds.queue.length + 1, 0, base⟩
        (s.setDs { s.ds with queue := s.ds.queue ++ [⟨v, r, tag, p.label, true, p.full⟩], lookDue := s.ds.lookDue || s.ds.queue.isEmpty }))) ∧
    ∀ x, p.newSnapshot = false → (s.snapVol v).snaps.find? (fun y => decide (y.label = p.label)) = some x → x.active = true → base < x.epoch →
      exec (.runStart r tag p) s = .next (answer r ⟨tag, 0x40, 0x01, s.ds.queue.length + 1, x.epoch, base⟩
        ((s.setSnapVol v { s.snapVol v with
          snaps := (s.snapVol v).snaps.map fun y => if y.epoch = x.epoch then { y with replTarget := true } else y }).setDs
          { s.ds with queue := s.ds.queue ++ [⟨v, r, tag, p.label, false, p.full⟩], lookDue := s.ds.lookDue || s.ds.queue.isEmpty }))) ∧
  (∀ (s : State) (r : RingNo) (tag : Nat) (v : Vol), s.ps.safe = false →
    (∀ l x rest, s.ds.queue = l ++ x :: rest → x.volume = v → (∀ y ∈ l ++ rest, y.volume ≠ v) → x.newSnapshot = true →
      exec (.runCancel r tag v.val) s = .next (answer x.ring ⟨x.tag, 0x40, 0x0C, 0x27, 0, 0⟩
        (answer r ⟨tag, 0x41, 0x00, 1, 0, 0⟩ (s.setDs { s.ds with queue := l ++ rest })))) ∧
    (∀ l x rest y, s.ds.queue = l ++ x :: rest → x.volume = v → (∀ y ∈ l ++ rest, y.volume ≠ v) → x.newSnapshot = false →
      (s.snapVol v).snaps.find? (·.replTarget) = some y →
      exec (.runCancel r tag v.val) s = .next (answer x.ring ⟨x.tag, 0x40, 0x0C, 0x27, 0, 0⟩
        (answer r ⟨tag, 0x41, 0x00, 1, 0, 0⟩ (leftUnheld v y.epoch ((s.setDs { s.ds with queue := l ++ rest }).setSnapVol v { s.snapVol v with
          snaps := (s.snapVol v).snaps.map fun z => if z.epoch = y.epoch then { z with replTarget := false } else z }))))) ∧
    (∀ x, (∀ y ∈ s.ds.queue, y.volume ≠ v) → s.ds.active = some x → x.volume = v → x.state ≠ .ended →
      exec (.runCancel r tag v.val) s = .next (answer r ⟨tag, 0x41, 0x00, 2, 0, 0⟩ (endRun 0x27 0 true s))) ∧
    ((∀ y ∈ s.ds.queue, y.volume ≠ v) → (∀ x, s.ds.active = some x → x.volume ≠ v ∨ x.state = .ended) →
      exec (.runCancel r tag v.val) s = .next (answer r ⟨tag, 0x41, 0x39, 0, 0, 0⟩ s))) ∧
  ∀ s : State,
    (s.ds.lookDue = false → exec .runDequeue s = .next s) ∧
    (s.ds.lookDue = true → s.ds.queue = [] ∨ s.ds.active ≠ none ∨ s.lc.up = false ∨ s.strap = true ∨ s.faulted .ship = true →
      exec .runDequeue s = .next (s.setDs { s.ds with lookDue := false })) ∧
    (∀ x rest z base w, s.ds.lookDue = true → s.ds.queue = x :: rest → s.ds.active = none → s.lc.up = true → s.strap = false → s.faulted .ship = false →
      x.newSnapshot = true →
      base = (if x.full then 0 else match (s.snapVol x.volume).snaps.find? (·.replBase) with | some b => b.epoch | none => 0) →
      z = { runId := s.ds.nextRunId, volume := x.volume, ring := x.ring, tag := x.tag, label := x.label, newSnapshot := true, full := x.full, base := base
            target := none, peer := none, state := .offering, adopted := false, resends := 0, exchange := none, offerSent := false, digest := 0, nextSeq := 1
            counts := ⟨0, 0, 0, 0⟩, batchResends := 0, ending := none } →
      w = s.setDs { s.ds with
        lookDue := false, queue := rest, active := some z, nextRunId := if s.ds.nextRunId = 4294967295 then 1 else s.ds.nextRunId + 1 } →
      (∀ st, createRefusal s x.volume x.label = some st → exec .runDequeue s = .next (endRun 0x29 st.code true w)) ∧
      (createRefusal s x.volume x.label = none →
        ((∃ e ∈ s.extents, e.volume = x.volume ∧ e.filling = true) → exec .runDequeue s =
          .next (w.setSnapVol x.volume { s.snapVol x.volume with gate := (s.snapVol x.volume).gate ++ [.sender x.label] })) ∧
        ((∀ e ∈ s.extents, e.volume = x.volume → e.filling = false) → exec .runDequeue s = .next (completeCreate x.volume (.sender x.label) w)))) ∧
    (∀ z i m base, s.ds.active = some z → z.peer = none → (s.vol z.volume).defn.peer = some i → (s.vol z.volume).defn.remote = some m → s.lc.up = true →
      s.lc.control.length < 16 → z.adopted = false →
      base = (if z.full then 0 else match (s.snapVol z.volume).snaps.find? (·.replBase) with | some b => b.epoch | none => 0) →
      sendOffer s = (s.setDs { s.ds with
          active := some { z with
            base := base
            exchange := none
            peer := some ⟨(s.lc.peers[(Fin.ofNat 4 i : Ctx)]).address, (s.lc.peers[(Fin.ofNat 4 i : Ctx)]).id, m⟩ } }).setLc
        { s.lc with control := s.lc.control ++ [⟨(s.lc.peers[(Fin.ofNat 4 i : Ctx)]).address, .offer, .forward, z.runId, z.volume.val, m, 0, 0,
          le 4 (s.vol z.volume).defn.blockKiB ++ le 4 base ++ le 4 (z.target.getD 0)⟩] }) ∧
    ∀ x rest y base i m, s.ds.lookDue = true → s.ds.queue = x :: rest → s.ds.active = none → s.lc.up = true → s.strap = false → s.faulted .ship = false →
      x.newSnapshot = false → (s.snapVol x.volume).snaps.find? (fun y => decide (y.label = x.label)) = some y →
      (s.vol x.volume).defn.peer = some i → (s.vol x.volume).defn.remote = some m → s.lc.control.length < 16 →
      base = (if x.full then 0 else match (s.snapVol x.volume).snaps.find? (·.replBase) with | some b => b.epoch | none => 0) →
      ∃ z, z.runId = s.ds.nextRunId ∧ z.volume = x.volume ∧ z.ring = x.ring ∧ z.tag = x.tag ∧ z.state = .offering ∧ z.base = base ∧ z.target = some y.epoch ∧
        z.nextSeq = 1 ∧ z.resends = 0 ∧ z.counts = ⟨0, 0, 0, 0⟩ ∧ z.offerSent = false ∧
        z.peer = some ⟨(s.lc.peers[(Fin.ofNat 4 i : Ctx)]).address, (s.lc.peers[(Fin.ofNat 4 i : Ctx)]).id, m⟩ ∧
        exec .runDequeue s = .next ((s.setDs { s.ds with
          lookDue := false, queue := rest, active := some z, nextRunId := if s.ds.nextRunId = 4294967295 then 1 else s.ds.nextRunId + 1 }).setLc
          { s.lc with control := s.lc.control ++ [⟨(s.lc.peers[(Fin.ofNat 4 i : Ctx)]).address, .offer, .forward, z.runId, x.volume.val, m, 0, 0,
            le 4 (s.vol x.volume).defn.blockKiB ++ le 4 base ++ le 4 y.epoch⟩] })

/-- DELTA_SCAN_STEP (R4, R118, R120): in ascending first block, a record born after the base, at or before the target, and not dead by it becomes a payload entry; one born at or before
the base that died after it and at or before the target becomes a deletion entry; any other is passed over; a batch closes with its 32nd payload entry, its 128th deletion or at 8,192 KiB; an entry
that would pass 8,192 KiB is sliced, and its rest goes first into the next batch, whole when it fits; the scanner waits while a closed batch waits behind the holding slot; at the end of the walk,
which is a step of its own (notes/assumptions/14.md), the batch closes if it holds anything; with every closed batch entered the run drains, and with none outstanding it moves to CLOSING and its
first CLOSE goes to its peer (R129; after batches that have all landed, notes/assumptions/39.md). -/
def Obligations.DeltaScanFillsBatches : Prop :=
  (∀ (s : State) (x : OutRun) (b : Batch), s.ds.active = some x → b = { s.ds.assembly with seq := x.nextSeq, stage := .held } →
    closeAssembly s = s.setDs (if s.ds.holding = none then
        { s.ds with assembly := .empty, active := some { x with nextSeq := x.nextSeq + 1 }, holding := some b }
      else { s.ds with assembly := .empty, active := some { x with nextSeq := x.nextSeq + 1 }, closed := some b })) ∧
  ∀ (s : State) (x : OutRun) (cursor target : Nat) (full : Batch → Prop), s.ds.active = some x → s.ds.scanning = some cursor → x.target = some target →
    full = (fun b => 32 ≤ b.payload.length ∨ 128 ≤ b.deletions.length ∨ 8192 ≤ b.kib) →
    (s.ds.closed ≠ none → exec .deltaScanStep s = .next s) ∧
    (s.ds.closed = none →
    (∀ e b q, s.ds.rest = none → s.nextRecord x.volume cursor = some e → q = e.len * (s.vol x.volume).defn.blockKiB →
      (x.base < e.birth → e.birth ≤ target → (∀ d, e.death = some d → target < d) → s.ds.assembly.kib + q ≤ 8192 →
        b = { s.ds.assembly with
          payload := s.ds.assembly.payload ++ [⟨e.first, e.len, e.object, e.offset, e.owner, e.group, e.birth⟩], kib := s.ds.assembly.kib + q } →
        ∃ t, t = s.setDs { s.ds with scanning := some (e.first + e.len), assembly := b } ∧
          (¬full b → exec .deltaScanStep s = .next t) ∧ (full b → exec .deltaScanStep s = .next (closeAssembly t))) ∧
      (∀ n, x.base < e.birth → e.birth ≤ target → (∀ d, e.death = some d → target < d) → 0 < (s.vol x.volume).defn.blockKiB → 8192 < s.ds.assembly.kib + q →
        s.ds.assembly.kib + n * (s.vol x.volume).defn.blockKiB = 8192 →
        exec .deltaScanStep s = .next (closeAssembly (s.setDs { s.ds with
          scanning := some (e.first + e.len)
          rest := some ⟨e.first + n, e.len - n, e.object, e.offset + n, e.owner, e.group, e.birth⟩
          assembly := { s.ds.assembly with
            payload := s.ds.assembly.payload ++ [⟨e.first, n, e.object, e.offset, e.owner, e.group, e.birth⟩], kib := 8192 } }))) ∧
      (e.birth ≤ x.base → (∃ d, e.death = some d ∧ x.base < d ∧ d ≤ target) →
        b = { s.ds.assembly with deletions := s.ds.assembly.deletions ++ [⟨e.first, e.len⟩] } →
        ∃ t, t = s.setDs { s.ds with scanning := some (e.first + e.len), assembly := b } ∧
          (¬full b → exec .deltaScanStep s = .next t) ∧ (full b → exec .deltaScanStep s = .next (closeAssembly t))) ∧
      ((target < e.birth ∨ (e.birth ≤ x.base ∧ ∀ d, e.death = some d → d ≤ x.base ∨ target < d) ∨ ∃ d, e.death = some d ∧ x.base < e.birth ∧ d ≤ target) →
        exec .deltaScanStep s = .next (s.setDs { s.ds with scanning := some (e.first + e.len) }))) ∧
    (∀ e b q, s.ds.rest = some e → q = e.len * (s.vol x.volume).defn.blockKiB →
      (s.ds.assembly.kib + q ≤ 8192 → b = { s.ds.assembly with payload := s.ds.assembly.payload ++ [e], kib := s.ds.assembly.kib + q } →
        ∃ t, t = s.setDs { s.ds with rest := none, assembly := b } ∧
          (¬full b → exec .deltaScanStep s = .next t) ∧ (full b → exec .deltaScanStep s = .next (closeAssembly t))) ∧
      ∀ n, 0 < (s.vol x.volume).defn.blockKiB → 8192 < s.ds.assembly.kib + q → s.ds.assembly.kib + n * (s.vol x.volume).defn.blockKiB = 8192 →
        exec .deltaScanStep s = .next (closeAssembly (s.setDs { s.ds with
          rest := some { e with first := e.first + n, len := e.len - n, offset := e.offset + n }
          assembly := { s.ds.assembly with payload := s.ds.assembly.payload ++ [{ e with len := n }], kib := 8192 } }))) ∧
    (s.ds.rest = none → s.nextRecord x.volume cursor = none →
      (s.ds.assembly.payload = [] → s.ds.assembly.deletions = [] → s.ds.holding = none → s.ds.outstanding ≠ [] → x.state = .shipping →
        exec .deltaScanStep s = .next (s.setDs { s.ds with scanning := none, active := some { x with state := .draining } })) ∧
      (∀ p, s.ds.assembly.payload = [] → s.ds.assembly.deletions = [] → s.ds.holding = none → s.ds.outstanding = [] → x.state = .shipping → x.peer = some p →
        s.lc.up = true → s.lc.control.length < 16 →
        exec .deltaScanStep s = .next ((s.setDs { s.ds with
            scanning := none, active := some { x with state := .closing, resends := 0, exchange := none } }).setLc { s.lc with control := s.lc.control ++
          [⟨p.address, .close, .forward, x.runId, x.volume.val, p.remote, x.nextSeq - 1, x.digest.toNat, le 4 target⟩] })) ∧
      (s.ds.assembly.payload ≠ [] ∨ s.ds.assembly.deletions ≠ [] →
        exec .deltaScanStep s = .next (closeAssembly (s.setDs { s.ds with scanning := none })))))

/-- BATCH_TRANSMIT_START, RESEND_START, SHIP_PIECE_HANDOVER and UNIT_COMPLETE of a SHIP unit (R95, R98 to R101, R121, R122, R127, R130, R166, R168): the held batch, or the lowest PENDING_RESEND
one, asks for its SHIP unit when its conditions hold, and while the engine is busy its request waits; granted, at once by an idle engine or later by the arbiter, it is SENDING and its BATCH_HEAD is
handed over, and the run is DRAINING when this was the last batch and its scan has ended; the unit's payload goes to the link in pieces of 8,192 bytes, its digest carried on, each taken when the
transmit holding slot is empty; and when the last piece has been taken the unit completes: the batch keeps the digest it formed and is AWAITING, with no receipt timer yet, its BATCH_END enters the
slot or waits behind it, and the engine is granted anew. The pieces of an abandoned send are taken and dropped, and at its completion no BATCH_END is sent, its digest is dropped, and the engine is
granted anew. That a piece's bytes are those memory holds at its handover is notes/assumptions/34.md, the order of release, telling and grant notes/assumptions/19.md, one request of the sender at a
time notes/assumptions/29.md, a batch that is AWAITING while its BATCH_END waits behind the slot notes/assumptions/51.md, and a UNIT_COMPLETE before the last piece was taken notes/assumptions/4.md. -/
def Obligations.BatchesAreSentInPieces : Prop :=
  (∀ (s : State) (x : OutRun) (p : PeerCopy) (b : Batch) (unit : MoverUnit) (head : OutFrame) (c : Instr) (sent : Dm → State), s.ds.active = some x → x.peer = some p →
    s.lc.up = true → s.lc.slot = none → s.ds.handover = [] →
    unit = ⟨.ship, 0, ⟨.aperture x.volume (b.payload.map fun e => ⟨e.first, e.len⟩), .link, (b.payload.map PayloadEntry.len).sum⟩, ⟨.zero, .zero, 0⟩,
      false, b.seq, 0, 0, false⟩ →
    head = ⟨p.address, .batchHead, .forward, x.runId, x.volume.val, p.remote, b.seq, b.payload.length + 65536 * b.deletions.length,
      b.payload.flatMap entryBytes ++ b.deletions.flatMap runBytes⟩ →
    (c = .batchTransmitStart ∧ s.ds.holding = some b ∧ s.ds.outstanding.length < 8 ∧ (∀ y ∈ s.ds.outstanding, y.stage ≠ .sending ∧ y.stage ≠ .pendingResend) ∧
        (s.ds.scanning ≠ none ∨ s.ds.rest ≠ none ∨ s.ds.assembly.payload ≠ [] ∨ s.ds.assembly.deletions ≠ [] ∨ s.ds.closed ≠ none ∨ x.state ≠ .shipping) ∧
        sent = (fun m => ((s.setDm m).setDs { s.ds with
          outstanding := s.ds.outstanding ++ [{ b with stage := .sending }]
          holding := s.ds.closed.map fun y => { y with stage := .held }
          closed := none }).setLc { s.lc with slot := some head }) ∨
      c = .batchTransmitStart ∧ s.ds.holding = some b ∧ s.ds.outstanding.length < 8 ∧ (∀ y ∈ s.ds.outstanding, y.stage ≠ .sending ∧ y.stage ≠ .pendingResend) ∧
        s.ds.scanning = none ∧ s.ds.rest = none ∧ s.ds.assembly.payload = [] ∧ s.ds.assembly.deletions = [] ∧ s.ds.closed = none ∧ x.state = .shipping ∧
        sent = (fun m => ((s.setDm m).setDs { s.ds with
          outstanding := s.ds.outstanding ++ [{ b with stage := .sending }], holding := none
          active := some { x with state := .draining } }).setLc { s.lc with slot := some head }) ∨
      c = .resendStart ∧ s.ds.outstanding.find? (fun y => decide (y.stage = .pendingResend)) = some b ∧ (∀ y ∈ s.ds.outstanding, y.stage ≠ .sending) ∧
        (∀ y ∈ s.ds.outstanding, y.seq = b.seq → y = b) ∧ (∀ h, s.ds.holding = some h → h.seq ≠ b.seq) ∧
        sent = (fun m => ((s.setDm m).setDs { s.ds with
          outstanding := s.ds.outstanding.map fun y => if y.seq = b.seq then { y with stage := .sending } else y
          active := some { x with batchResends := x.batchResends + 1 } }).setLc { s.lc with slot := some head })) →
    (s.dm.engine = none → nextEntry s.dm.pointer s.dm.waiting = some unit →
      grantNext s = sent { s.dm with
        engine := some unit, pointer := .ship, waiting := s.dm.waiting.filter fun y => !(decide (y.cls = .ship) && decide (y.num = 0)) }) ∧
    (s.faulted .ship = false → s.ds.busyWait = false → (24 + (32 * b.payload.length + 8 * b.deletions.length) + 4095) / 4096 ≤ s.ds.bucket →
      (s.dm.engine = none → s.dm.waiting = [] → exec c s = .next (sent { s.dm with engine := some unit, pointer := .ship })) ∧
      (s.dm.engine ≠ none ∨ s.dm.waiting ≠ [] → (∀ y ∈ s.dm.units, y.cls ≠ .ship) → exec c s = .next (s.setDm { s.dm with waiting := s.dm.waiting ++ [unit] })))) ∧
  (∀ (s : State) (u : MoverUnit) (x : OutRun) (p : PeerCopy) (bs : List Byte), s.dm.engine = some u → u.cls = .ship → u.handed < 4096 * (u.seg1.reads s).length →
    bs = (((u.seg1.reads s).drop (u.handed / 4096)).take 2).flatMap (fun a => s.readBytes a 4096) → s.ds.active = some x → x.peer = some p →
    (u.discard = false → s.lc.up = true → s.lc.slot = none → s.ds.handover = [] → exec .shipPieceHandover s = .next
      ((s.setLc { s.lc with slot := some ⟨p.address, .batchData, .forward, x.runId, x.volume.val, p.remote, u.seq, u.handed, bs⟩ }).setDm
        { s.dm with engine := some { u with handed := u.handed + bs.length, digest := digestFeed u.digest bs } })) ∧
    (u.discard = true ∨ s.lc.up = false → exec .shipPieceHandover s = .next
      (s.setDm { s.dm with engine := some { u with handed := u.handed + bs.length, digest := digestFeed u.digest bs } })) ∧
    (u.discard = false → s.lc.up = true → s.lc.slot ≠ none ∨ s.ds.handover ≠ [] → exec .shipPieceHandover s = .next s)) ∧
  ∀ (s : State) (u : MoverUnit), s.dm.engine = some u → u.cls = .ship → u.seg1.dest = .link → u.second = false → u.seg2.blocks = 0 →
    (u.handed < 4096 * (u.seg1.reads s).length → exec .unitComplete s = .next s) ∧
    (4096 * (u.seg1.reads s).length ≤ u.handed →
      (u.discard = true → exec .unitComplete s = .next (grantNext (s.setDm { s.dm with engine := none }))) ∧
      ∀ x p f out, u.discard = false → s.ds.active = some x → x.peer = some p → s.lc.up = true →
        f = ⟨p.address, .batchEnd, .forward, x.runId, x.volume.val, p.remote, u.seq, u.digest.toNat, []⟩ →
        out = (s.ds.outstanding.map fun y => if y.seq = u.seq then { y with stage := .awaiting, digest := some u.digest, timer := none } else y) →
        (∀ g rest, s.lc.slot = none → s.ds.handover ++ [f] = g :: rest → exec .unitComplete s = .next (grantNext
          (((s.setDm { s.dm with engine := none }).setDs { s.ds with outstanding := out, handover := rest }).setLc { s.lc with slot := some g }))) ∧
        (s.lc.slot ≠ none → exec .unitComplete s = .next (grantNext
          ((s.setDm { s.dm with engine := none }).setDs { s.ds with outstanding := out, handover := s.ds.handover ++ [f] }))))

/-- The sender's timers, the pacer and the leaving of frames (R115, R122, R123, R126 to R129, R162, R166, R167). An exchange timer that expires sends its OFFER or CLOSE again, and after three
sends more ends the run NO_ANSWER; a receipt timer goes back: the batch and its AWAITING followers become PENDING_RESEND, their timers stopped, their frames not yet on the wire and the waiting
SHIP request gone, and so does a follower that is SENDING, whose send is abandoned: its frames not yet on the wire are gone too, and the SHIP unit's remaining pieces are to be discarded; a batch
sent again three times ends the run RETRY_LIMIT; the BUSY wait ends; the bucket gains one credit up to 64. FRAME_TRANSMIT sends the oldest control frame first, and the
exchange timer of the run's OFFER or CLOSE starts; with no control frame the batch frame in the slot leaves when the bucket holds a credit for each started 4,096 bytes of it, the next batch
frame takes the slot, and a BATCH_END's receipt timer starts. The port pads a frame on the wire to 46 bytes of Ethernet payload (R158), with 0 in every byte past its fields (R203). That a timer that
does not run changes nothing is the model's choice (notes/assumptions/10.md); so are the base of an adopted run's OFFER (notes/assumptions/28.md), the sender's frames behind the slot (notes/assumptions/51.md), the wire as a field (notes/assumptions/32.md) and
the number 46 (notes/assumptions/37.md). -/
def Obligations.TimersActAndFramesLeave : Prop :=
  ((∀ bs : List Byte, padded bs = bs ++ List.replicate (46 - bs.length) 0) ∧
  (∀ (s : State) (x : OutRun), s.ds.active = some x →
    (x.exchange = none → exec .exchangeTimerExpiry s = .next s) ∧
    (x.exchange.isSome → 3 ≤ x.resends → exec .exchangeTimerExpiry s = .next (endRun 0x22 0 true s)) ∧
    ∀ p t, x.exchange.isSome → x.resends < 3 → x.peer = some p → x.target = some t → s.lc.up = true → s.lc.control.length < 16 →
      (x.state = .closing → exec .exchangeTimerExpiry s = .next
        ((s.setDs { s.ds with active := some { x with resends := x.resends + 1, exchange := none } }).setLc { s.lc with
          control := s.lc.control ++ [⟨p.address, .close, .forward, x.runId, x.volume.val, p.remote, x.nextSeq - 1, x.digest.toNat, le 4 t⟩] })) ∧
      ∀ base, x.state = .offering →
        base = (if x.full = true ∧ x.adopted = false then 0 else match (s.snapVol x.volume).snaps.find? (·.replBase) with | some b => b.epoch | none => 0) →
        exec .exchangeTimerExpiry s = .next
          ((s.setDs { s.ds with active := some { x with resends := x.resends + 1, exchange := none, base := base } }).setLc { s.lc with
            control := s.lc.control ++ [⟨p.address, .offer, .forward, x.runId, x.volume.val, p.remote, 0, 0,
              le 4 (s.vol x.volume).defn.blockKiB ++ le 4 base ++ le 4 t⟩] })) ∧
  (∀ (s : State) (k : Nat) (b : Batch), s.ds.outstanding.find? (fun y => decide (y.seq = k)) = some b →
    (b.stage ≠ .awaiting ∨ b.timer = none → exec (.receiptTimerExpiry k) s = .next s) ∧
    (b.stage = .awaiting → b.timer.isSome → 3 ≤ b.resends → exec (.receiptTimerExpiry k) s = .next (endRun 0x24 0 true s)) ∧
    ∀ (slot : Option OutFrame) (kept : List OutFrame), b.stage = .awaiting → b.timer.isSome → b.resends < 3 →
      (∀ y ∈ s.ds.outstanding, y.stage = .sending → k < y.seq) → s.lc.up = true ∨ s.ds.handover = [] →
      slot = s.lc.slot.filter (fun f => decide (f.seq < k)) → kept = s.ds.handover.filter (fun f => decide (f.seq < k)) →
      exec (.receiptTimerExpiry k) s = .next (((s.setDs { s.ds with
        outstanding := s.ds.outstanding.map fun y =>
          { y with
            stage := if y.stage = .sending ∨ (k ≤ y.seq ∧ y.stage = .awaiting) then .pendingResend else y.stage
            timer := if y.stage = .sending ∨ (k ≤ y.seq ∧ y.stage = .awaiting) then none else y.timer
            resends := if y.seq = k then y.resends + 1 else y.resends }
        handover := if slot.isSome then kept else kept.tail
        busyWait := false }).setLc { s.lc with slot := slot.or kept.head? }).setDm { s.dm with
          waiting := s.dm.waiting.filter fun u => !(decide (u.cls = .ship) && decide (u.num = 0))
          engine := if ∃ y ∈ s.ds.outstanding, y.stage = .sending then s.dm.engine.map fun u => { u with discard := u.discard || decide (u.cls = .ship) }
            else s.dm.engine })) ∧
  ∀ s : State,
    exec .busyWaitEnd s = .next (s.setDs { s.ds with busyWait := false }) ∧
    exec .pacerInterval s = .next (s.setDs { s.ds with bucket := if s.ds.bucket < 64 then s.ds.bucket + 1 else s.ds.bucket })) ∧
  ((∀ (s : State), s.lc.up = false ∨ (s.lc.control = [] ∧ s.lc.slot = none) → exec .frameTransmit s = .next s) ∧
  (∀ (s : State) (f : OutFrame) (rest : List OutFrame) (t : State), s.lc.up = true → s.lc.control = f :: rest →
    t = s.setLc { s.lc with
      control := rest
      wire := some ⟨true, f.dest, s.lc.station, s.lc.etherType, padded (frameBytes s.lc.localId f)⟩ } →
    ((∀ x, s.ds.active = some x → f.dir = .backward ∨ f.runId ≠ x.runId ∨ (f.kind ≠ .offer ∧ f.kind ≠ .close)) →
      exec .frameTransmit s = .next t) ∧
    ∀ x, s.ds.active = some x → f.dir = .forward → f.runId = x.runId →
      (f.kind = .offer → x.state = .offering → exec .frameTransmit s = .next (t.setDs
        { s.ds with active := some { x with exchange := some s.ds.settings.receiptTimeout, offerSent := true } })) ∧
      (f.kind = .close → x.state = .closing → exec .frameTransmit s = .next (t.setDs
        { s.ds with active := some { x with exchange := some s.ds.settings.receiptTimeout } }))) ∧
  ∀ (s : State) (f : OutFrame) (n : Nat), s.lc.up = true → s.lc.control = [] → s.lc.slot = some f → n = (24 + f.payload.length + 4095) / 4096 →
    (s.ds.bucket < n → exec .frameTransmit s = .next s) ∧
    ∀ t, n ≤ s.ds.bucket →
      t = s.setLc { s.lc with
        slot := s.ds.handover.head?
        wire := some ⟨true, f.dest, s.lc.station, s.lc.etherType, padded (frameBytes s.lc.localId f)⟩ } →
      (f.kind ≠ .batchEnd → exec .frameTransmit s = .next (t.setDs { s.ds with bucket := s.ds.bucket - n, handover := s.ds.handover.tail })) ∧
      ∀ b, f.kind = .batchEnd → s.ds.outstanding.find? (fun y => decide (y.seq = f.seq)) = some b → b.stage = .awaiting →
        exec .frameTransmit s = .next (t.setDs { s.ds with
          bucket := s.ds.bucket - n
          handover := s.ds.handover.tail
          outstanding := s.ds.outstanding.map fun y => if y.seq = f.seq then { y with timer := some s.ds.settings.receiptTimeout } else y }))

/-- The frames of the receiving side (R116 to R118, R125 to R129, R165): of the active run's peer and run id, an ACCEPT starts the delta scan; a DECLINE ends the run, or for a base that an ACTIVE
snapshot of the volume has moves REPL_BASE there and offers again; a LANDED receipt takes the batches up to its seq off the list, whatever their stage, adding their digests and counts, abandons the
send of one that is SENDING and withdraws a SHIP request that waits for one, and when the list empties while DRAINING the run moves to CLOSING and its first CLOSE goes to its peer (R129); the other
receipts restart the timer, go back, wait or end the run, a send under way being abandoned by the two that call batches back; a CLOSED ends it. In any other state of the run, of another run id or
peer, and with no active run, each of the four is discarded. That a send under way when its batch leaves is abandoned also when it is the first is notes/assumptions/47.md, the free digest of such
a batch notes/assumptions/5.md; that QUEUED starts the timer of a batch whose BATCH_END has not yet left is notes/assumptions/40.md, that the OFFER after an adoption carries the adopted base
notes/assumptions/28.md, that the run goes on counting as offered after it notes/assumptions/17.md, and the sender's frames behind the slot notes/assumptions/51.md. -/
def Obligations.RunsFollowTheirPeersFrames : Prop :=
  (∀ (s : State) (f : EthFrame) (p : InFrame), s.arrival f = .pass p →
    p.header.dir = .forward ∨ (∀ x c, s.ds.active = some x → x.peer = some c →
      s.lc.peers[p.entry].address ≠ c.address ∨ s.lc.peers[p.entry].id ≠ c.id ∨ p.header.runId ≠ x.runId) →
    exec (.accept f) s = .next s ∧ exec (.decline f) s = .next s ∧ exec (.receipt f) s = .next s ∧ exec (.closed f) s = .next s) ∧
  ∀ (s : State) (f : EthFrame) (p : InFrame) (x : OutRun) (c : PeerCopy), s.arrival f = .pass p → p.header.dir = .backward → s.ds.active = some x → x.peer = some c →
    s.lc.peers[p.entry].address = c.address → s.lc.peers[p.entry].id = c.id → p.header.runId = x.runId →
    (p.header.kind = .accept → x.state = .offering → x.offerSent = true → exec (.accept f) s = .next
      (s.setDs { s.ds with active := some { x with state := .shipping, exchange := none, digest := 0 }, scanning := some 0, rest := none })) ∧
    (x.state ≠ .offering ∨ x.offerSent = false → exec (.accept f) s = .next s ∧ exec (.decline f) s = .next s) ∧
    (x.state ≠ .closing → exec (.closed f) s = .next s) ∧
    (x.state ≠ .shipping → x.state ≠ .draining → exec (.receipt f) s = .next s) ∧
    (p.header.kind = .decline → x.state = .offering → x.offerSent = true →
      (p.header.arg ≠ 7 → exec (.decline f) s = .next (endRun 0x21 p.header.arg true s)) ∧
      ∀ e, p.header.arg = 7 → e = field p.payload 0 4 →
        (x.adopted = true ∨ e = 0 ∨ (∀ y ∈ (s.snapVol x.volume).snaps, y.epoch = e → y.active = false) →
          exec (.decline f) s = .next (endRun 0x28 0 true s)) ∧
        ∀ y t, x.adopted = false → e ≠ 0 → (s.snapVol x.volume).snaps.find? (fun z => decide (z.epoch = e)) = some y → y.active = true → y.replBase = false →
          (s.snapVol x.volume).auto ≠ .stalled → x.target = some t → s.lc.up = true → s.lc.control.length < 16 →
          exec (.decline f) s = .next ((((s.setSnapVol x.volume { s.snapVol x.volume with
              snaps := (s.snapVol x.volume).snaps.map fun z => { z with replBase := decide (z.epoch = e) } }).setVol x.volume
                { s.vol x.volume with baseLabel := some y.label }).setDs
              { s.ds with active := some { x with adopted := true, resends := 0, exchange := none, base := e } }).setLc
              { s.lc with control := s.lc.control ++ [⟨c.address, .offer, .forward, x.runId, x.volume.val, c.remote, 0, 0,
                le 4 (s.vol x.volume).defn.blockKiB ++ le 4 e ++ le 4 t⟩] })) ∧
    (p.header.kind = .closed → x.state = .closing →
      (p.header.arg = 1 → exec (.closed f) s = .next (endRun 0x20 0 false s)) ∧
      (p.header.arg ≠ 1 → exec (.closed f) s = .next (endRun 0x21 0x15 true s))) ∧
    (p.header.kind = .receipt → x.state = .shipping ∨ x.state = .draining →
      ((∀ b ∈ s.ds.outstanding, b.seq ≠ p.header.seq) → exec (.receipt f) s = .next s) ∧
      ∀ b, s.ds.outstanding.find? (fun y => decide (y.seq = p.header.seq)) = some b →
        (∀ (bs stay : List Batch) (y : OutRun) (sent : Option Batch) (slot : Option OutFrame) (kept : List OutFrame) (u : State), p.header.arg = 1 →
          bs = s.ds.outstanding.filter (fun z => decide (z.seq ≤ p.header.seq)) → stay = s.ds.outstanding.filter (fun z => decide (p.header.seq < z.seq)) →
          y = { x with
            digest := bs.foldl (fun d z => digestAdd d (z.digest.getD (Config.freeDigest s.free))) x.digest
            counts := ⟨x.counts.batches + bs.length, x.counts.kib + (bs.map Batch.kib).sum, x.counts.entries + (bs.map fun z => z.payload.length).sum,
              x.counts.deletions + (bs.map fun z => z.deletions.length).sum⟩ } →
          sent = bs.find? (fun z => decide (z.stage = .sending)) → sent = none ∨ s.lc.up = true ∨ s.ds.handover = [] →
          slot = s.lc.slot.filter (fun g => decide (∀ z ∈ sent, g.seq ≠ z.seq)) → kept = s.ds.handover.filter (fun g => decide (∀ z ∈ sent, g.seq ≠ z.seq)) →
          u = (((s.setDs { s.ds with
              outstanding := stay, active := some y, handover := if sent.isSome ∧ slot = none then kept.tail else kept }).setLc
            { s.lc with slot := if sent.isSome then slot.or kept.head? else slot }).setDm { s.dm with
              waiting := if ∃ w ∈ s.dm.waiting, w.cls = .ship ∧ ∃ z ∈ bs, z.seq = w.seq then
                  s.dm.waiting.filter fun w => !(decide (w.cls = .ship) && decide (w.num = 0)) else s.dm.waiting
              engine := if sent.isSome then s.dm.engine.map fun w => { w with discard := w.discard || decide (w.cls = .ship) } else s.dm.engine }).setFree
            (if ∀ z ∈ bs, z.digest.isSome then s.free else s.free + 1) →
          (stay ≠ [] ∨ x.state = .shipping → exec (.receipt f) s = .next u) ∧
          ∀ t, stay = [] → x.state = .draining → x.target = some t → s.lc.up = true → s.lc.control.length < 16 →
            exec (.receipt f) s = .next ((u.setDs { u.ds with active := some { y with state := .closing, resends := 0, exchange := none } }).setLc { u.lc with
              control := s.lc.control ++ [⟨c.address, .close, .forward, x.runId, x.volume.val, c.remote, x.nextSeq - 1, y.digest.toNat, le 4 t⟩] })) ∧
        (p.header.arg = 2 → b.stage = .awaiting → exec (.receipt f) s = .next (s.setDs { s.ds with
          outstanding := s.ds.outstanding.map fun y => if y.seq = p.header.seq then { y with timer := some s.ds.settings.receiptTimeout } else y })) ∧
        (p.header.arg = 3 → b.stage = .awaiting → 3 ≤ b.resends → exec (.receipt f) s = .next (endRun 0x24 0 true s)) ∧
        (∀ (k : Nat) (slot : Option OutFrame) (kept : List OutFrame) (u : State), k = p.header.seq → b.stage = .awaiting →
          (∀ y ∈ s.ds.outstanding, y.stage = .sending → k < y.seq) → s.lc.up = true ∨ s.ds.handover = [] →
          slot = s.lc.slot.filter (fun g => decide (g.seq < k)) → kept = s.ds.handover.filter (fun g => decide (g.seq < k)) →
          u = ((s.setDs { s.ds with
              outstanding := s.ds.outstanding.map fun y =>
                if y.stage = .sending ∨ (k ≤ y.seq ∧ y.stage = .awaiting) then { y with stage := .pendingResend, timer := none } else y
              handover := if slot.isSome then kept else kept.tail }).setLc { s.lc with slot := slot.or kept.head? }).setDm { s.dm with
            waiting := s.dm.waiting.filter fun w => !(decide (w.cls = .ship) && decide (w.num = 0))
            engine := if ∃ y ∈ s.ds.outstanding, y.stage = .sending then s.dm.engine.map fun w => { w with discard := w.discard || decide (w.cls = .ship) }
              else s.dm.engine } →
          (p.header.arg = 3 → b.resends < 3 → exec (.receipt f) s = .next (u.setDs { u.ds with
            outstanding := u.ds.outstanding.map fun y => if y.seq = k then { y with resends := y.resends + 1 } else y, busyWait := false })) ∧
          (p.header.arg = 4 → exec (.receipt f) s = .next (u.setDs { u.ds with busyWait := true }))) ∧
        (p.header.arg = 5 → b.stage = .awaiting → exec (.receipt f) s = .next (endRun 0x25 0 true s)) ∧
        (p.header.arg = 6 ∨ (p.header.arg ∈ [2, 3, 4, 5] ∧ b.stage ≠ .awaiting) → exec (.receipt f) s = .next s))

/-- The end of a run (R54, R110, R130): of a run that ends otherwise than DONE the target loses REPL_TARGET and no snapshot loses its REPL_BASE, an ABORT with the reason goes to its peer where
the reason asks for one, a create of the sender that waits is withdrawn, and scanner, batches, frames and the SHIP request are gone; at DONE, REPL_BASE moves to the target and REPL_TARGET is
released; the run's one completion answer carries its reason, the detail (the peer's reason of a DECLINED end, the status of a NO_TARGET one) and its counts; the run stays ENDED in the active place
while the answer waits, and the place is empty once the answer is handed on, and the queue is looked at. The byte of a detail above 255 is free (notes/assumptions/11.md). That the ABORT of a run without a
peer copy goes to the peer its OFFER would is notes/assumptions/21.md, and the look as a mark notes/assumptions/7.md. -/
def Obligations.RunsEndOnceWithTheirCounts : Prop :=
  ∀ (s : State) (x : OutRun) (p : PeerCopy) (reason detail n : Nat) (e : RunEnd) (y : OutRun) (d : Ds) (m : Dm) (a : Answer) (sv : SnapVol), s.ds.active = some x →
    (x.peer = some p ∨ (x.peer = none ∧ ∃ i n, (s.vol x.volume).defn.peer = some i ∧ (s.vol x.volume).defn.remote = some n ∧
      p = ⟨(s.lc.peers[(Fin.ofNat 4 i : Ctx)]).address, (s.lc.peers[(Fin.ofNat 4 i : Ctx)]).id, n⟩)) →
    x.counts.batches < 2 ^ 32 → x.counts.entries < 2 ^ 32 → x.counts.kib < 2 ^ 40 → x.counts.deletions < 2 ^ 24 → x.batchResends < 2 ^ 16 →
    s.lc.up = true → s.lc.control.length < 16 → sv = s.snapVol x.volume →
    e = ⟨reason, detail⟩ → n = (if detail < 256 then s.free else s.free + 1) → y = { x with state := .ended, exchange := none, ending := some e } →
    d = { s.ds with
      scanning := none, rest := none, assembly := .empty, closed := none, holding := none, outstanding := [], busyWait := false, handover := [], active := some y } →
    m = { s.dm with
      waiting := s.dm.waiting.filter fun u => !(decide (u.cls = .ship) && decide (u.num = 0))
      engine := s.dm.engine.map fun u => if u.cls = .ship then { u with discard := true } else u } →
    a = ⟨x.tag, 0x40, if reason = 0x20 then 0x02 else 0x0C, reason + 256 * (if detail < 256 then detail else (Config.freeByte s.free 0).toNat) + 65536 * x.batchResends, x.counts.batches + 4294967296 * x.counts.entries,
      x.counts.kib + 1099511627776 * x.counts.deletions⟩ →
    (x.state = .ended → ∀ abort, endRun reason detail abort s = s) ∧
    (x.state ≠ .ended → reason ≠ 0x20 → ∀ (abort : Bool) (u w t : State),
      u = (match sv.snaps.find? (·.replTarget) with
        | some g => leftUnheld x.volume g.epoch (s.setSnapVol x.volume { sv with
            snaps := sv.snaps.map fun z => if z.epoch = g.epoch then { z with replTarget := false } else z })
        | none => s) →
      w = ((u.setDs d).setDm m).setLc { s.lc with
        slot := none
        control := if abort then s.lc.control ++ [⟨p.address, .abort, .forward, x.runId, x.volume.val, p.remote, 0, reason, []⟩] else s.lc.control } →
      t = (w.setSnapVol x.volume { w.snapVol x.volume with gate := sv.gate.filter fun g => !g.ofSender }).setFree n →
      ((answerDue x.ring a .runEnd t).2 = false → endRun reason detail abort s = (answerDue x.ring a .runEnd t).1) ∧
      ((answerDue x.ring a .runEnd t).2 = true → endRun reason detail abort s = (answerDue x.ring a .runEnd t).1.setDs { d with active := none, lookDue := true })) ∧
    ∀ (g : Snapshot) (k : Nat) (t : State), x.state ≠ .ended → reason = 0x20 → sv.gate = [] → sv.auto ≠ .stalled → x.target = some k →
      sv.snaps.find? (fun z => decide (z.epoch = k)) = some g → g.replBase = false →
      g.replTarget = true → (∀ z ∈ sv.snaps, z.replTarget = true → z.epoch = k) →
      t = (((((s.setDs d).setDm m).setLc { s.lc with slot := none }).setSnapVol x.volume { sv with
          snaps := sv.snaps.map fun z => { z with replBase := decide (z.epoch = k), replTarget := false } }).setVol x.volume
            { s.vol x.volume with baseLabel := some g.label }).setFree n →
      ((answerDue x.ring a .runEnd t).2 = false → endRun reason detail false s = (answerDue x.ring a .runEnd t).1) ∧
      ((answerDue x.ring a .runEnd t).2 = true → endRun reason detail false s = (answerDue x.ring a .runEnd t).1.setDs { d with active := none, lookDue := true })

/-! ### The Duplication Receiver (chapter 7) -/

/-- OFFER (R138, R139): an OFFER of a volume number above 15 is discarded; one that repeats an OPEN context's is accepted again; any other is tested by Table 7-3, in its order, and declined with
the reason of the first test it fails, the payload naming REPL_BASE for BASE_MISMATCH; one that passes opens the lowest-numbered FREE context. That a repeat is one from the same
peer id and address is notes/assumptions/18.md. -/
def Obligations.OffersAreJudgedInOrder : Prop :=
  ∀ (s : State) (f : EthFrame) (p : InFrame), s.arrival f = .pass p → p.header.kind = .offer → p.header.dir = .forward → s.lc.up = true → s.lc.control.length < 16 →
    (15 < p.header.recvVol → exec (.offer f) s = .next s) ∧
    ∀ (v : Vol) (k base target : Nat), p.header.recvVol = v.val → k = field p.payload 0 4 → base = field p.payload 4 4 → target = field p.payload 8 4 →
      (∀ c x, x = s.inCtx c → x.state = .open → x.volume = v → x.runId = p.header.runId → x.peerId = p.header.peerId → x.peerAddr = p.src →
        (∀ d, d ≠ c → (s.inCtx d).state = .free ∨ (s.inCtx d).volume ≠ v) →
        exec (.offer f) s = .next ((s.setInCtx c { x with idle := some s.ds.settings.idleTimeout }).setLc { s.lc with
          control := s.lc.control ++ [⟨x.peerAddr, .accept, .backward, x.runId, x.sendVol, v.val, 0, 0, []⟩] })) ∧
      ∀ (empty busy : Bool) (tests : List (Bool × Nat)),
        (∀ c, (s.inCtx c).state = .open → (s.inCtx c).volume = v →
          ¬((s.inCtx c).runId = p.header.runId ∧ (s.inCtx c).peerId = p.header.peerId ∧ (s.inCtx c).peerAddr = p.src)) →
        (empty = true ↔ (∀ e ∈ s.extents, e.volume ≠ v) ∧ (s.snapVol v).snaps = []) →
        (busy = true ↔ (∃ c, (s.inCtx c).state ≠ .free ∧ (s.inCtx c).volume = v) ∨ (s.replVol v).reset ≠ none ∨ ∀ c, (s.inCtx c).state ≠ .free) →
        tests = [(decide ((s.vol v).defn.role ≠ .replica ∨ (s.vol v).state ≠ .online), 1), (s.strap, 2), (s.faulted .land, 3), (busy, 4),
          (decide (k ≠ (s.vol v).defn.blockKiB), 5), (decide (base = 0) && !empty, 6),
          (decide (base ≠ 0) && decide (((s.snapVol v).snaps.find? (·.replBase)).map Snapshot.epoch ≠ some base), 7),
          (decide (target ≤ base) || decide (target = 4294967295) || (!empty && decide (target < (s.vol v).epoch.getD 0)), 8)] → target < 2 ^ 32 →
        (∀ r, tests.find? Prod.fst = some (true, r) → exec (.offer f) s = .next (s.setLc { s.lc with
          control := s.lc.control ++ [⟨p.src, .decline, .backward, p.header.runId, p.header.sendVol, v.val, p.header.seq, r,
            le 4 (if r = 7 then match (s.snapVol v).snaps.find? (·.replBase) with | some b => b.epoch | none => 0 else 0)⟩] })) ∧
        ∀ c, tests.find? Prod.fst = none → (s.inCtx c).state = .free → (∀ d, d < c → (s.inCtx d).state ≠ .free) →
          exec (.offer f) s = .next ((s.setInCtx c ⟨.open, v, p.header.runId, p.entry, p.header.peerId, p.src, p.header.sendVol, base, target, 1, 0,
              Vector.replicate 2 .clear, none, some s.ds.settings.idleTimeout, none, 0, false⟩).setLc
            { s.lc with control := s.lc.control ++ [⟨p.src, .accept, .backward, p.header.runId, p.header.sendVol, v.val, 0, 0, []⟩] })

/-- BATCH_HEAD, BATCH_DATA and BATCH_END taken by an OPEN context (R137, R140 to R143), each of which restarts its idle timer: the expected head goes into a slot, or aborts the run BAD_BATCH when
its form is bad, or waits for its BATCH_END as BUSY when no slot is EMPTY; an earlier seq is answered as a duplicate, again at its BATCH_END, and a later one SKIPPED; data that follows on is taken with its digest, any
other sets the gap flag; a batch that is whole with the digest sent becomes READY and the next seq is expected, any other is DIGEST_BAD and its slot is emptied. The check of the deletions' lengths
is notes/assumptions/31.md. -/
def Obligations.BatchesAreStagedAndJudged : Prop :=
  ∀ (s : State) (f : EthFrame) (p : InFrame) (c : Ctx) (x y : InCtx) (n : Nat), s.arrival f = .pass p → p.header.dir = .forward → s.lc.up = true → s.lc.control.length < 16 →
    x = s.inCtx c → x.state = .open → p.header.recvVol = x.volume.val → x.runId = p.header.runId → x.peerId = p.header.peerId →
    (∀ d, d ≠ c → (s.inCtx d).state = .free ∨ (s.inCtx d).volume ≠ x.volume) → y = { x with idle := some s.ds.settings.idleTimeout } → n = p.header.seq →
    (p.header.kind = .batchHead →
      (n = 0 → exec (.batchHead f) s = .next (s.setInCtx c y)) ∧
      (∀ (i : Fin 2) es ds total good, n ≠ 0 → n = x.expected →
        (x.slots[i].state = .filling ∧ x.slots[i].seq = n ∧ ∀ j, j < i → ¬(x.slots[j].state = .filling ∧ x.slots[j].seq = n)) ∨
          ((∀ j : Fin 2, ¬(x.slots[j].state = .filling ∧ x.slots[j].seq = n)) ∧ x.slots[i].state = .empty ∧ ∀ j, j < i → x.slots[j].state ≠ .empty) →
        es = (readHead p.header.arg p.payload).1 → ds = (readHead p.header.arg p.payload).2 →
        total = (es.map PayloadEntry.len).sum * ((s.vol x.volume).defn.blockKiB * 1024) →
        (good ↔ es.length ≤ 32 ∧ ds.length ≤ 128 ∧ total ≤ 8388608 ∧ (∀ d ∈ ds, 1 ≤ d.len ∧ d.len ≤ 4096) ∧
          ∀ e ∈ es, 1 ≤ e.len ∧ e.len ≤ 4096 ∧ e.object ≠ 0 ∧ e.offset + e.len ≤ 1099511627776 ∧ x.base < e.birth ∧ e.birth ≤ x.target) →
        (good → exec (.batchHead f) s = .next (s.setInCtx c { y with slots := y.slots.set i ⟨.filling, n, es, ds, total, [], false, 0, 0, []⟩ })) ∧
        (¬good → exec (.batchHead f) s = .next (abortCtx 0x14 true c (s.setInCtx c y)))) ∧
      (n ≠ 0 → n = x.expected → (∀ j : Fin 2, x.slots[j].state ≠ .empty ∧ ¬(x.slots[j].state = .filling ∧ x.slots[j].seq = n)) →
        exec (.batchHead f) s = .next (s.setInCtx c { y with reply := some (n, .busy) })) ∧
      (n ≠ 0 → n < x.expected → ∀ a, a = (if ∃ j : Fin 2, x.slots[j].seq = n ∧ (x.slots[j].state = .ready ∨ x.slots[j].state = .landing) then 2 else 1) →
        exec (.batchHead f) s = .next ((s.setInCtx c { y with reply := some (n, .duplicate) }).setLc { s.lc with
          control := s.lc.control ++ [⟨x.peerAddr, .receipt, .backward, x.runId, x.sendVol, x.volume.val, n, a, []⟩] })) ∧
      (x.expected < n → exec (.batchHead f) s = .next ((s.setInCtx c y).setLc { s.lc with
        control := s.lc.control ++ [⟨x.peerAddr, .receipt, .backward, x.runId, x.sendVol, x.volume.val, n, 6, []⟩] }))) ∧
    (p.header.kind = .batchData →
      ((∀ j : Fin 2, ¬(x.slots[j].state = .filling ∧ x.slots[j].seq = n)) → exec (.batchData f) s = .next (s.setInCtx c y)) ∧
      ∀ (i : Fin 2) (g : Slot), g = x.slots[i] → g.state = .filling → g.seq = n → (∀ j, j < i → ¬(x.slots[j].state = .filling ∧ x.slots[j].seq = n)) →
        (p.header.arg = g.payload.length → g.payload.length + p.payload.length ≤ g.total → exec (.batchData f) s = .next
          (s.setInCtx c { y with slots := y.slots.set i { g with payload := g.payload ++ p.payload, arrival := digestFeed g.arrival p.payload } })) ∧
        (p.header.arg ≠ g.payload.length ∨ g.total < g.payload.length + p.payload.length → exec (.batchData f) s = .next
          (s.setInCtx c { y with slots := y.slots.set i { g with gap := true } }))) ∧
    (p.header.kind = .batchEnd →
      (∀ (i : Fin 2) (g : Slot), g = x.slots[i] → g.state = .filling → g.seq = n → (∀ j, j < i → ¬(x.slots[j].state = .filling ∧ x.slots[j].seq = n)) →
        (g.gap = false → g.payload.length = g.total → g.arrival = BitVec.ofNat 32 p.header.arg → ∃ t,
          t = s.setInCtx c { y with slots := y.slots.set i { g with state := .ready, sent := BitVec.ofNat 32 p.header.arg }, expected := x.expected + 1 } ∧
          exec (.batchEnd f) s = .next (landNext c t) ∧ ((∃ j : Fin 2, j ≠ i ∧ x.slots[j].state = .landing) → exec (.batchEnd f) s = .next t)) ∧
        (g.gap = true ∨ g.payload.length ≠ g.total ∨ g.arrival ≠ BitVec.ofNat 32 p.header.arg →
          exec (.batchEnd f) s = .next ((s.setInCtx c { y with slots := y.slots.set i .clear }).setLc { s.lc with
            control := s.lc.control ++ [⟨x.peerAddr, .receipt, .backward, x.runId, x.sendVol, x.volume.val, n, 3, []⟩] }))) ∧
      ((∀ j : Fin 2, ¬(x.slots[j].state = .filling ∧ x.slots[j].seq = n)) →
        (x.reply = some (n, .busy) → exec (.batchEnd f) s = .next ((s.setInCtx c { y with reply := none }).setLc { s.lc with
          control := s.lc.control ++ [⟨x.peerAddr, .receipt, .backward, x.runId, x.sendVol, x.volume.val, n, 4, []⟩] })) ∧
        (x.reply = some (n, .duplicate) →
          ∀ a, a = (if ∃ j : Fin 2, x.slots[j].seq = n ∧ (x.slots[j].state = .ready ∨ x.slots[j].state = .landing) then 2 else 1) →
          exec (.batchEnd f) s = .next ((s.setInCtx c { y with reply := none }).setLc { s.lc with
            control := s.lc.control ++ [⟨x.peerAddr, .receipt, .backward, x.runId, x.sendVol, x.volume.val, n, a, []⟩] })) ∧
        ((∀ k, x.reply ≠ some (n, k)) → exec (.batchEnd f) s = .next (s.setInCtx c y))))

/-- Landing (R97, R102, R144, R146 to R149). The payload entries of a READY batch take the first blocks of the pool in entry order, each from one run or two; with room in the table and in the
LANDING account its blocks are marked taken, and its LAND unit, from the staging slot to those blocks, is asked for, and granted at once by an idle engine; a batch of deletions only lands at once;
otherwise the receipt is NO_SPACE and the run aborts. When the unit completes, the slot's payload stands at the taken blocks (as the statement of the units gives), each entry becomes a LIVE record on
each run of its blocks, marked PROV_BIRTH with its source first block, the blocks leave the pool, the LANDING account is charged, the run digest takes the batch's, and the receipt is LANDED; a deletion
entry marks PROV_DEATH the part of a LIVE unmarked record whose source blocks it names, splitting the record where it must. That HARD_EXCEEDED stands before SOFT_CROSSED of one landing, and the order
of release, telling and grant, are notes/assumptions/19.md; that the unit carries the slot's payload is notes/assumptions/34.md. -/
def Obligations.BatchesLandOnThePool : Prop :=
  (∀ (n : Nat) (r : Run) (rest : List Run), 0 < n → 0 < r.len →
    (n < r.len → takeBlocks n (r :: rest) = some ([⟨r.first, n⟩], ⟨r.first + n, r.len - n⟩ :: rest)) ∧
    (n = r.len → takeBlocks n (r :: rest) = some ([r], rest)) ∧
    (r.len < n → rest = [] → takeBlocks n (r :: rest) = none) ∧
    ∀ t more, r.len < n → rest = t :: more →
      (r.len + t.len < n → takeBlocks n (r :: rest) = none) ∧
      (n = r.len + t.len → takeBlocks n (r :: rest) = some ([r, t], more)) ∧
      (n < r.len + t.len → takeBlocks n (r :: rest) =
        some ([r, ⟨t.first, n - r.len⟩], ⟨t.first + (n - r.len), t.len - (n - r.len)⟩ :: more))) ∧
  (∀ (es : List PayloadEntry) (pool : List Run) (blocks : List Run → List Nat), (∀ rs, blocks rs = rs.flatMap fun r => (List.range r.len).map (r.first + ·)) →
    (∀ n, blocks (poolDrop n pool) = (blocks pool).drop n) ∧
    (∀ tk, takeAll es pool = some tk → tk.map runsLen = es.map PayloadEntry.len ∧ (∀ rs ∈ tk, rs.length = 1 ∨ rs.length = 2) ∧
      blocks tk.flatten = (blocks pool).take (es.map PayloadEntry.len).sum) ∧
    ∀ e rest, es = e :: rest →
      (takeAll es pool = none ↔ takeBlocks e.len pool = none ∨ ∃ rs left, takeBlocks e.len pool = some (rs, left) ∧ takeAll rest left = none)) ∧
  (∀ (s : State) (c : Ctx) (x : InCtx) (i : Fin 2) (y : Slot) (n : Nat) (limit : Prop), x = s.inCtx c → x.state = .open → y = x.slots[i] → y.state = .ready →
    (∀ j : Fin 2, j ≠ i → x.slots[j].state ≠ .ready ∧ x.slots[j].state ≠ .landing) → n = (y.entries.map PayloadEntry.len).sum →
    limit = ((s.account (16 + x.volume.val)).hard = 0 ∨
      (s.account (16 + x.volume.val)).usage + n * (s.vol x.volume).defn.blockKiB ≤ (s.account (16 + x.volume.val)).hard) →
    (∀ tk, takeAll y.entries (s.replVol x.volume).pool = some tk → s.extents.length + (tk.flatten.length + 2 * y.deletions.length) ≤ 16777216 → limit →
      ∀ unit t, unit = ⟨.land, c, ⟨.staging y.payload, .aperture x.volume tk.flatten, n⟩, ⟨.zero, .zero, 0⟩, false, y.seq, 0, 0, false⟩ →
      t = (s.setReplVol x.volume { s.replVol x.volume with takeMark := n }).setInCtx c
        { x with slots := x.slots.set i { y with state := .landing, taken := tk } } →
      (y.entries ≠ [] → s.faulted .land = false →
        (s.dm.engine = none → s.dm.waiting = [] → landNext c s = t.setDm { s.dm with engine := some unit, pointer := .land }) ∧
        (s.dm.engine ≠ none ∨ s.dm.waiting ≠ [] → landNext c s = t.setDm { s.dm with waiting := s.dm.waiting ++ [unit] })) ∧
      (y.entries = [] → landNext c s = landEnd c i t)) ∧
    ((∀ tk, takeAll y.entries (s.replVol x.volume).pool = some tk → 16777216 < s.extents.length + (tk.flatten.length + 2 * y.deletions.length)) ∨ ¬limit →
      s.lc.up = true → s.lc.control.length < 16 → landNext c s = abortCtx 0x13 false c (s.setLc { s.lc with
        control := s.lc.control ++ [⟨x.peerAddr, .receipt, .backward, x.runId, x.sendVol, x.volume.val, y.seq, 5, []⟩] }))) ∧
  (∀ (s : State) (u : MoverUnit) (c : Ctx) (x : InCtx) (i : Fin 2), s.dm.engine = some u → u.cls = .land → u.num = c →
    u.second = true ∨ u.seg2.blocks = 0 → x = s.inCtx c → x.state = .open → x.slots[i].state = .landing →
    (∀ j : Fin 2, j ≠ i → x.slots[j].state ≠ .ready ∧ x.slots[j].state ≠ .landing) →
    exec .unitComplete s = .next (grantNext (landEnd c i
      ((moveSegment (if u.second then u.seg2 else u.seg1) s).setDm { s.dm with engine := none })))) ∧
  (∀ (s : State) (c : Ctx) (x : InCtx) (i : Fin 2) (y : Slot) (n k : Nat) (made : PayloadEntry → List Run → List Extent) (final : List Extent) (b : State),
    x = s.inCtx c → y = x.slots[i] → y.taken.length = y.entries.length → (∀ rs ∈ y.taken, rs.length = 1 ∨ rs.length = 2) →
    s.lc.up = true → s.lc.control.length < 16 → k = 16 + x.volume.val → (s.account k).kind = .landing → n = (y.entries.map PayloadEntry.len).sum →
    (∀ e g, made e [g] =
      [⟨x.volume, g.first, g.len, e.object, e.offset, e.owner, e.group, e.birth, none, false, some ⟨x.runId, .provBirth⟩, some e.first⟩]) →
    (∀ e g h, made e [g, h] =
      [⟨x.volume, g.first, g.len, e.object, e.offset, e.owner, e.group, e.birth, none, false, some ⟨x.runId, .provBirth⟩, some e.first⟩,
        ⟨x.volume, h.first, h.len, e.object, e.offset + g.len, e.owner, e.group, e.birth, none, false, some ⟨x.runId, .provBirth⟩, some (e.first + g.len)⟩]) →
    final = applyDeletions x.volume x.runId y.deletions
      (((y.entries.zip y.taken).flatMap fun et => made et.1 et.2).foldl (fun l e => insertExtent e l) s.extents) →
    b = (s.setExtents final).setReplVol x.volume { s.replVol x.volume with
      pool := poolDrop (s.replVol x.volume).takeMark (s.replVol x.volume).pool, takeMark := 0 } →
    (final.length ≤ 16777216 → ∃ a,
      b.accountsOnly a (landingNotices k (s.account k).usage { s.account k with usage := (s.account k).usage + n * (s.vol x.volume).defn.blockKiB }) ∧
      (∀ m, a.account m = if m = k then { (rateLanding (s.account k).usage { s.account k with
          usage := (s.account k).usage + n * (s.vol x.volume).defn.blockKiB }).1 with
            records := (s.account k).records + (final.length - s.extents.length) } else s.account m) ∧
      landEnd c i s = (a.setInCtx c { x with slots := x.slots.set i .clear, digest := digestAdd x.digest y.arrival }).setLc { s.lc with
        control := s.lc.control ++ [⟨x.peerAddr, .receipt, .backward, x.runId, x.sendVol, x.volume.val, y.seq, 1, []⟩] }) ∧
    (16777216 < final.length → landEnd c i s =
      abortCtx 0x13 false c ((s.setReplVol x.volume { s.replVol x.volume with takeMark := 0 }).setLc { s.lc with
        control := s.lc.control ++ [⟨x.peerAddr, .receipt, .backward, x.runId, x.sendVol, x.volume.val, y.seq, 5, []⟩] }))) ∧
  (∀ (v : Vol) (run : Nat) (ds : List Run) (es : List Extent),
    applyDeletions v run ds es = ds.foldl (fun l d => l.flatMap fun e => applyDeletion v run [e] d) es) ∧
  ∀ (v : Vol) (run : Nat) (d : Run) (e : Extent) (b : Nat), e.source = some b →
    (e.volume ≠ v ∨ e.death ≠ none ∨ e.mark ≠ none ∨ b + e.len ≤ d.first ∨ d.first + d.len ≤ b → applyDeletion v run [e] d = [e]) ∧
    ∀ lo hi, e.volume = v → e.death = none → e.mark = none → 0 < e.len → 0 < d.len → b < d.first + d.len → d.first < b + e.len →
      lo = d.first - b → hi = min e.len (d.first + d.len - b) → applyDeletion v run [e] d =
        (if 0 < lo then [{ e with len := lo }] else []) ++
          [{ e with first := e.first + lo, len := hi - lo, offset := e.offset + lo, source := some (b + lo), mark := some ⟨run, .provDeath⟩ }] ++
          (if hi < e.len then [{ e with first := e.first + hi, len := e.len - hi, offset := e.offset + hi, source := some (b + hi) }] else [])

/-- CLOSE (R52, R137, R150): of an OPEN context whose batches have not all landed it changes nothing but the idle timer; with the right final seq and digest, and a place for the target snapshot, the
context commits with that place reserved; otherwise CLOSED REFUSED goes and the run aborts. A CLOSE of a run that is aborting is refused; one that matches no context is answered from the volume's
last committed run, by its run id, peer id and address (notes/assumptions/18.md). -/
def Obligations.ClosesCommitOrAreRefused : Prop :=
  ∀ (s : State) (f : EthFrame) (p : InFrame) (v : Vol), s.arrival f = .pass p → p.header.kind = .close → p.header.dir = .forward → s.lc.up = true → s.lc.control.length < 16 →
    p.header.recvVol = v.val →
    (∀ (c : Ctx) (x y : InCtx), x = s.inCtx c → x.volume = v → x.runId = p.header.runId → x.peerId = p.header.peerId →
      (∀ d, d ≠ c → (s.inCtx d).state = .free ∨ (s.inCtx d).volume ≠ v) → y = { x with idle := some s.ds.settings.idleTimeout } →
      (x.state = .committing → exec (.close f) s = .next s) ∧
      (x.state = .aborting → exec (.close f) s = .next (s.setLc { s.lc with
        control := s.lc.control ++ [⟨x.peerAddr, .closed, .backward, x.runId, x.sendVol, v.val, 0, 2, []⟩] })) ∧
      (x.state = .open →
        (x.expected - 1 < p.header.seq ∨ (∃ j : Fin 2, x.slots[j].state ≠ .empty) → exec (.close f) s = .next (s.setInCtx c y)) ∧
        ((∀ j : Fin 2, x.slots[j].state = .empty) → p.header.seq = x.expected - 1 → x.digest = BitVec.ofNat 32 p.header.arg →
          (∀ z ∈ (s.snapVol v).snaps, z.label ≠ x.target) → (s.snapVol v).snaps.length + (s.snapVol v).reserved.length < 64 →
          exec (.close f) s = .next ((s.setSnapVol v { s.snapVol v with commitPlace := some x.target }).setInCtx c
            { x with state := .committing, idle := none, cursor := 0, walkDone := false })) ∧
        ((∀ j : Fin 2, x.slots[j].state = .empty) → p.header.seq ≤ x.expected - 1 →
          p.header.seq ≠ x.expected - 1 ∨ x.digest ≠ BitVec.ofNat 32 p.header.arg ∨ (∃ z ∈ (s.snapVol v).snaps, z.label = x.target) ∨
            64 ≤ (s.snapVol v).snaps.length + (s.snapVol v).reserved.length →
          exec (.close f) s = .next (abortCtx 0x15 false c ((s.setInCtx c y).setLc { s.lc with
            control := s.lc.control ++ [⟨x.peerAddr, .closed, .backward, x.runId, x.sendVol, v.val, 0, 2, []⟩] }))))) ∧
    ((∀ c, (s.inCtx c).state ≠ .free → (s.inCtx c).volume ≠ v) → exec (.close f) s = .next (s.setLc { s.lc with
      control := s.lc.control ++ [⟨p.src, .closed, .backward, p.header.runId, p.header.sendVol, v.val, p.header.seq,
        if (s.replVol v).last = some ⟨p.header.runId, p.header.peerId, p.src⟩ then 1 else 2, []⟩] }))

/-- The commit and rollback scans (R4, R12, R65, R66, R151 to R153): a commit passes over a record that its run did not mark PROV_DEATH, holds a marked one that an ACTIVE snapshot protects from the
target epoch on, and removes any other, whose run joins the release list; at its end the marks go, the target snapshot is made with REPL_BASE, the epoch is one more, and CLOSED COMMITTED is sent
and INBOUND_COMMITTED raised. A rollback removes the records its run made, unmarks those it would have ended, and at its end raises INBOUND_ABORTED. The end
of a walk is a step of its own (notes/assumptions/14.md). -/
def Obligations.CommitAndRollbackScans : Prop :=
  ∀ (s : State) (c : Ctx) (x : InCtx) (v : Vol), x = s.inCtx c → x.volume = v →
    (x.state = .committing → .commit c ∉ (s.snapVol v).producers →
      (∀ e, s.nextRecord v x.cursor = some e → (s.vol v).defn.role = .replica →
        (e.mark ≠ some ⟨x.runId, .provDeath⟩ → exec (.commitScanStep c) s = .next (s.setInCtx c { x with cursor := e.first + e.len })) ∧
        (e.mark = some ⟨x.runId, .provDeath⟩ →
          ((∃ y ∈ (s.snapVol v).snaps, y.active = true ∧ e.birth ≤ y.epoch ∧ y.epoch < x.target) →
            ∃ t, t = chargeAccount v.val (e.len * (s.vol v).defn.blockKiB) 1 (refundAccount (16 + v.val) (e.len * (s.vol v).defn.blockKiB) 1
                (s.setExtents (s.extents.map fun z => if z.volume = v ∧ z.first = e.first then { z with death := some x.target } else z))) ∧
              exec (.commitScanStep c) s = .next (t.setInCtx c { x with cursor := e.first + e.len })) ∧
          ((∀ y ∈ (s.snapVol v).snaps, y.active = true → y.epoch < e.birth ∨ x.target ≤ y.epoch) →
            (∀ w, releaseAppend v ⟨e.first, e.len⟩ s = some w → ∃ t, t = refundAccount (16 + v.val) (e.len * (s.vol v).defn.blockKiB) 1
                (w.setExtents (s.extents.filter fun z => !(decide (z.volume = v) && decide (z.first = e.first)))) ∧
              exec (.commitScanStep c) s = .next (t.setInCtx c { x with cursor := e.first + e.len })) ∧
            (releaseAppend v ⟨e.first, e.len⟩ s = none →
              exec (.commitScanStep c) s = .next (producerWait v (.commit c) (s.setInCtx c { x with cursor := e.first })))))) ∧
      (s.nextRecord v x.cursor = none → (s.snapVol v).auto ≠ .stalled → (∀ y ∈ (s.snapVol v).snaps, y.epoch < x.target) → s.lc.up = true → s.lc.control.length < 16 →
        exec (.commitScanStep c) s = .next ((raise .inboundCommitted v.val x.target
          (((((s.setExtents (s.extents.map fun e =>
                if e.volume = v ∧ (e.mark = some ⟨x.runId, .provBirth⟩ ∨ e.mark = some ⟨x.runId, .provDeath⟩) then { e with mark := none } else e)).setSnapVol v
              { s.snapVol v with
                commitPlace := none
                snaps := ((s.snapVol v).snaps.map fun y => { y with replBase := false }) ++ [⟨x.target, x.target, s.qu.clock, true, true, false, 0⟩] }).setVol v
              { s.vol v with baseLabel := some x.target, epoch := some (x.target + 1) }).setReplVol v
              { s.replVol v with last := some ⟨x.runId, x.peerId, x.peerAddr⟩ }).setLc { s.lc with
                control := s.lc.control ++ [⟨x.peerAddr, .closed, .backward, x.runId, x.sendVol, v.val, 0, 1, []⟩] })).setInCtx c .free))) ∧
    (x.state = .aborting → x.walkDone = false → .rollback c ∉ (s.snapVol v).producers →
      (∀ e, s.nextRecord v x.cursor = some e → (s.vol v).defn.role = .replica →
        (e.mark = some ⟨x.runId, .provBirth⟩ →
          (∀ w, releaseAppend v ⟨e.first, e.len⟩ s = some w → ∃ t, t = refundAccount (16 + v.val) (e.len * (s.vol v).defn.blockKiB) 1
              (w.setExtents (s.extents.filter fun z => !(decide (z.volume = v) && decide (z.first = e.first)))) ∧
            exec (.rollbackScanStep c) s = .next (t.setInCtx c { x with cursor := e.first + e.len })) ∧
          (releaseAppend v ⟨e.first, e.len⟩ s = none →
            exec (.rollbackScanStep c) s = .next (producerWait v (.rollback c) (s.setInCtx c { x with cursor := e.first })))) ∧
        (e.mark = some ⟨x.runId, .provDeath⟩ → exec (.rollbackScanStep c) s = .next
          ((s.setExtents (s.extents.map fun z => if z.volume = v ∧ z.first = e.first then { z with mark := none } else z)).setInCtx c
            { x with cursor := e.first + e.len })) ∧
        (e.mark ≠ some ⟨x.runId, .provBirth⟩ → e.mark ≠ some ⟨x.runId, .provDeath⟩ →
          exec (.rollbackScanStep c) s = .next (s.setInCtx c { x with cursor := e.first + e.len }))) ∧
      (s.nextRecord v x.cursor = none → (∀ u, s.dm.engine = some u → u.cls ≠ .land ∨ u.num ≠ c) → ∀ r, x.reason = some r →
        exec (.rollbackScanStep c) s = .next ((raise .inboundAborted v.val r s).setInCtx c .free)))

/-- How runs abort (R137, R149, R152, R159, R160): an OPEN context that aborts empties its slots, reply and timer, withdraws its waiting LAND request, sends its ABORT where the reason asks for one,
and rolls back; any other context is left alone. An ABORT of the sending side aborts its context PEER_ABORT, and one of the receiving side ends the active run DECLINED with its reason; an idle timer
aborts IDLE_TIMEOUT; a change of the carrier raises LINK_CHANGE, and a loss of it empties the control queue and the slot, ends the run LINK_DOWN and aborts every OPEN context. An idle timer that does not run
(notes/assumptions/10.md), a carrier change to the state it has (notes/assumptions/4.md) the look as a mark (notes/assumptions/7.md), and
the slots that empty while the context's LAND unit still holds the engine (notes/assumptions/50.md) are the model's choices. -/
def Obligations.AbortsAndCarrierChanges : Prop :=
  (∀ (s : State) (c : Ctx) (x : InCtx) (reason : Nat), x = s.inCtx c →
    (x.state ≠ .open → ∀ send, abortCtx reason send c s = s) ∧
    (x.state = .open → s.lc.up = true → s.lc.control.length < 16 → ∀ send,
      abortCtx reason send c s = (((s.setDm { s.dm with
          waiting := s.dm.waiting.filter fun u => !(decide (u.cls = .land) && decide (u.num = c)) }).setReplVol x.volume
        (if ∃ u, s.dm.engine = some u ∧ u.cls = .land ∧ u.num = c then s.replVol x.volume else { s.replVol x.volume with takeMark := 0 })).setInCtx c
        { x with
          state := .aborting, reason := some reason, slots := Vector.replicate 2 .clear, reply := none, idle := none, cursor := 0, walkDone := false }).setLc
        { s.lc with control := if send then s.lc.control ++ [⟨x.peerAddr, .abort, .backward, x.runId, x.sendVol, x.volume.val, 0, reason, []⟩]
            else s.lc.control }) ∧
    (x.idle = none → exec (.idleTimerExpiry c) s = .next s) ∧ (x.idle.isSome → exec (.idleTimerExpiry c) s = .next (abortCtx 0x11 true c s))) ∧
  (∀ (s : State) (f : EthFrame) (p : InFrame), s.arrival f = .pass p → p.header.kind = .abort →
    (∀ c x, p.header.dir = .forward → x = s.inCtx c → x.state = .open → p.header.recvVol = x.volume.val → x.runId = p.header.runId → x.peerId = p.header.peerId →
      (∀ d, d ≠ c → (s.inCtx d).state = .free ∨ (s.inCtx d).volume ≠ x.volume) →
      exec (.abort f) s = .next (abortCtx 0x10 false c (s.setInCtx c { x with idle := some s.ds.settings.idleTimeout }))) ∧
    ∀ x q, p.header.dir = .backward → s.ds.active = some x → x.peer = some q → s.lc.peers[p.entry].address = q.address → s.lc.peers[p.entry].id = q.id →
      p.header.runId = x.runId → exec (.abort f) s = .next (endRun 0x21 p.header.arg false s)) ∧
  ∀ s : State,
    (s.lc.up = true → exec .carrierUp s = .next s) ∧
    (s.lc.up = false → exec .carrierUp s = .next ((raise .linkChange 1 0 (s.setLc { s.lc with up := true })).setDs { s.ds with lookDue := true })) ∧
    (s.lc.up = false → exec .carrierDown s = .next s) ∧
    (s.lc.up = true → ∃ t, t = (raise .linkChange 0 0 (s.setLc { s.lc with up := false, control := [], slot := none })).setDs { s.ds with handover := [] } ∧
      exec .carrierDown s = .next (abortCtx 0x12 false 3 (abortCtx 0x12 false 2 (abortCtx 0x12 false 1 (abortCtx 0x12 false 0 (endRun 0x23 0 false t))))))

/-- GIVE_RUNS and REPLICA_RESET with its two later stages (R72, R145, R154): runs in range that share no block with each other or with the volume's records, claims, release list and pool join the
back of the pool; a reset of a volume that is not committing is ACCEPTED and aborts its OPEN context; once the volume has no context the entries of its retire queue are answered DONE or reported, and
it loses its records, whose charges its accounts get back, its snapshots and its last committed run; its records' runs then join the release list one by one, and DONE counts records, snapshots and
blocks. The entries are reported in queue order, and the LANDING account's notices stand before the RESERVE account's, which are notes/assumptions/9.md and notes/assumptions/19.md;
that the refund which takes the RESERVE account out of OVER makes no report to auto-trim is notes/assumptions/49.md. -/
def Obligations.PoolsAreGivenAndReplicasReset : Prop :=
  (∀ (s : State) (r : RingNo) (tag : Nat) (p : GiveRunsParams) (runs : List Run) (v : Vol) (pool : List Run), s.up → formOk (.giveRuns p) = true → p.volume = v.val →
    (s.vol v).state ≠ .undefined → (s.vol v).defn.role = .replica → (∀ g ∈ runs, 1 ≤ g.len ∧ g.len ≤ 65535 ∧ g.first + g.len ≤ (s.vol v).defn.blockCount ∧ s.taken v g = false) →
    anyOverlap runs = false → pool = (s.replVol v).pool ++ runs → pool.length ≤ 4096 →
    exec (.giveRuns r tag p runs) s = .next (answer r ⟨tag, 0x48, 0x00, pool.length, 0, (pool.map Run.len).sum - (s.replVol v).takeMark⟩
      (s.setReplVol v { s.replVol v with pool := pool }))) ∧
  (∀ (s : State) (r : RingNo) (tag : Nat) (v : Vol) (t : State), s.up → (s.vol v).state = .online ∨ (s.vol v).state = .sealed → (s.vol v).defn.role = .replica →
    (s.replVol v).reset = none → t = s.setReplVol v { s.replVol v with reset := some ⟨some (r, tag), false, [], 0, 0, 0⟩ } →
    ((∀ c, (s.inCtx c).state ≠ .free → (s.inCtx c).volume ≠ v) → exec (.replicaReset r tag v.val) s = .next (answer r ⟨tag, 0x49, 0x01, 0, 0, 0⟩ t)) ∧
    ∀ c, (s.inCtx c).state = .open → (s.inCtx c).volume = v → (∀ d, d ≠ c → (s.inCtx d).state = .free ∨ (s.inCtx d).volume ≠ v) →
      exec (.replicaReset r tag v.val) s = .next (answer r ⟨tag, 0x49, 0x01, 0, 0, 0⟩ (abortCtx 0x17 true c t))) ∧
  (∀ (s : State) (v : Vol) (j : ResetJob) (es : List Extent) (charge : List Extent → Nat) (b : State), (s.replVol v).reset = some j → j.emptied = false →
    (∀ c, (s.inCtx c).state ≠ .free → (s.inCtx c).volume ≠ v) → es = s.extents.filter (fun e => decide (e.volume = v)) → es ≠ [] → (∀ x ∈ (s.snapVol v).retire, x.records < 2 ^ 32) →
    (s.account (16 + v.val)).kind = .landing → (s.account v.val).kind = .reserve →
    charge = (fun l => (l.map fun e => e.len * (s.vol v).defn.blockKiB).sum) →
    b = (((s.snapVol v).retire.foldl (fun y x => match x.origin with
        | .host r tag => answer r ⟨tag, 0x21, 0x02, x.records, x.epoch, x.kib⟩ y
        | _ => raise .snapshotTrimmed v.val x.epoch y) (s.setSnapVol v { s.snapVol v with
        trim := .idle, retire := [], snaps := [], auto := .off, producers := (s.snapVol v).producers.filter fun q => decide (q ≠ .trim) })).setVol v
      { s.vol v with baseLabel := none }).setExtents (s.extents.filter fun e => decide (e.volume ≠ v)) →
    ∀ live held z, live = es.filter (fun e => e.death.isNone) → held = es.filter (fun e => e.death.isSome) →
      z = reserveState (s.account v.val).hard ((s.account v.val).usage - charge held) →
    ∃ m, b.accountsOnly m (landingNotices (16 + v.val) (s.account (16 + v.val)).usage
        { s.account (16 + v.val) with usage := (s.account (16 + v.val)).usage - charge live } ++ reserveNotice v (s.account v.val).state z) ∧
      (∀ k, m.account k =
        if k = 16 + v.val then (rateLanding (s.account k).usage { s.account k with
          usage := (s.account k).usage - charge live, records := (s.account k).records - live.length }).1
        else if k = v.val then { s.account k with
          usage := (s.account k).usage - charge held, records := (s.account k).records - held.length, state := z }
        else s.account k) ∧
      exec (.replicaResetEmpty v) s = .next ((reserveTrim v (s.account v.val).state z m).setReplVol v { s.replVol v with
        last := none
        reset := some ⟨j.answer, true, es.map fun e => ⟨e.first, e.len⟩, es.length, (s.snapVol v).snaps.length, (es.map Extent.len).sum⟩ })) ∧
  ∀ (s : State) (v : Vol) (j : ResetJob) (g : Run) (rest : List Run), (s.replVol v).reset = some j → j.emptied = true → j.outgoing = g :: rest →
    .reset ∉ (s.snapVol v).producers → j.records < 2 ^ 32 →
    (releaseAppend v g s = none → exec (.replicaResetAppend v) s = .next (producerWait v .reset s)) ∧
    ∀ t, releaseAppend v g s = some t →
      (rest ≠ [] → exec (.replicaResetAppend v) s = .next (t.setReplVol v { s.replVol v with reset := some { j with outgoing := rest } })) ∧
      ∀ r tag, rest = [] → j.answer = some (r, tag) →
        exec (.replicaResetAppend v) s = .next (answer r ⟨tag, 0x49, 0x02, j.records, j.snaps, j.blocks⟩ (t.setReplVol v { s.replVol v with reset := none }))

/-! ### The policy store, definitions, FORMAT and the resets (chapters 10 and 9) -/

/-- The policy store's pages (R190 to R195). The CRC of the nine bytes 31 to 39 is 29B1. STORE_STAGE writes the used bytes into the staging page; STORE_COMMIT begins an erase, program or
erase-and-program unless one is in progress, page 0 would be erased without the strap, or the lock protects the page; at its end an erased byte is FF, a programmed byte the old one and the staged one
bit by bit, an erased and programmed byte the staged one, every other byte of the store is as before, and the lock is set afresh from the lock byte; a byte that does not read back is counted.
STORE_VERIFY compares the CRC over pages 0 to 21 with the one stored. The zeros of BUSY, SERVICE_REQUIRED and LOCKED (notes/assumptions/8.md), the misread bytes as an operand
(notes/assumptions/20.md) and a STORE_COMMIT_END without a commit (notes/assumptions/4.md) are the model's choices. -/
def Obligations.StorePagesAreStagedAndCommitted : Prop :=
  crc16 [0x31, 0x32, 0x33, 0x34, 0x35, 0x36, 0x37, 0x38, 0x39] = 0x29B1 ∧
  (∀ (s : State) (r : RingNo) (tag : Nat) (p : StoreStageParams), s.ps.ok → 1 ≤ p.count → p.count ≤ 32 → p.offset + p.count ≤ 256 → p.data.length = 32 →
    (s.ps.commit = none → ∃ g, (∀ i, sparseGet 0xFF g i = if p.offset ≤ i ∧ i < p.offset + p.count then p.data.getD (i - p.offset) 0 else sparseGet 0xFF s.ps.staging i) ∧
      exec (.storeStage r tag p) s = .next (answer r ⟨tag, 0x60, 0x00, p.offset + p.count, 0, 0⟩ (s.setPs { s.ps with staging := g }))) ∧
    (s.ps.commit ≠ none → exec (.storeStage r tag p) s = .next (answer r ⟨tag, 0x60, 0x37, 0, 0, 0⟩ s))) ∧
  (∀ (s : State) (r : RingNo) (tag : Nat) (p : StoreCommitParams) (op : CommitOp), p.page ≤ 63 → (p.op, op) ∈ [(1, .erase), (2, .program), (3, .eraseProgram)] →
    (s.ps.commit ≠ none → exec (.storeCommit r tag p) s = .next (answer r ⟨tag, 0x61, 0x37, 0, 0, 0⟩ s)) ∧
    (s.ps.commit = none → p.page = 0 → op ≠ .program → s.strap = false → exec (.storeCommit r tag p) s = .next (answer r ⟨tag, 0x61, 0x41, 0, 0, 0⟩ s)) ∧
    (s.ps.commit = none → s.ps.locked = true → p.page ≤ 22 → p.page ≠ 0 ∨ op = .program →
      exec (.storeCommit r tag p) s = .next (answer r ⟨tag, 0x61, 0x40, 0, 0, 0⟩ s)) ∧
    (s.ps.commit = none → s.ps.locked = false ∨ 23 ≤ p.page ∨ (p.page = 0 ∧ op ≠ .program) → p.page ≠ 0 ∨ op = .program ∨ s.strap = true →
      exec (.storeCommit r tag p) s = .next (answer r ⟨tag, 0x61, 0x01, 0, 0, 0⟩ (s.setPs { s.ps with commit := some ⟨p.page, op, some (r, tag)⟩ })))) ∧
  (∀ (s : State) (c : Commit) (r : RingNo) (tag : Nat) (good : Nat → Byte), s.ps.ok → s.ps.commit = some c → c.answer = some (r, tag) →
    good = (fun i => match c.op with
      | .erase => 0xFF
      | .program => sparseGet 0xFF s.ps.pages (256 * c.page + i) &&& sparseGet 0xFF s.ps.staging i
      | .eraseProgram => sparseGet 0xFF s.ps.staging i) →
    ∀ (bad : List (Nat × Byte)) (found : Nat → Byte), bad = [] ∧ found = good ∨ (∃ k b, k < 256 ∧ b ≠ good k ∧ bad = [(k, b)] ∧ found = fun i => if i = k then b else good i) →
      ∃ g : Ps, g.staging = s.ps.staging ∧ g.commit = none ∧ g.safe = s.ps.safe ∧ g.format = s.ps.format ∧
        (∀ a, sparseGet 0xFF g.pages a = if a / 256 = c.page then found (a % 256) else sparseGet 0xFF s.ps.pages a) ∧
        (g.locked = true ↔ sparseGet 0xFF g.pages 38 = 0) ∧
        exec (.storeCommitEnd bad) s = .next (answer r ⟨tag, 0x61, 0x02, bad.length, crc16 ((List.range 5632).map (sparseGet 0xFF g.pages)),
          ofLe [sparseGet 0xFF g.pages 5632, sparseGet 0xFF g.pages 5633]⟩ (s.setPs g))) ∧
  (∀ (s : State) (bad : List (Nat × Byte)), s.ps.commit = none → exec (.storeCommitEnd bad) s = .next s) ∧
  ∀ (s : State) (r : RingNo) (tag : Nat) (computed stored : Nat), s.ps.commit = none → computed = crc16 ((List.range 5632).map (sparseGet 0xFF s.ps.pages)) →
    stored = ofLe [sparseGet 0xFF s.ps.pages 5632, sparseGet 0xFF s.ps.pages 5633] →
    exec (.storeVerify r tag) s = .next (answer r ⟨tag, 0x62, if computed = stored then 0x05 else 0x06, 0, computed, stored⟩ s)

/-- Definitions and FORMAT (R5, R22, R23, R46, R70, R124, R157, R161, R171, R197, R198, R201, R202). A PRIMARY or REPLICA page whose fields are good is its volume's definition, without a peer when the
peer index or the remote volume number of a PRIMARY page is out of range; a page with a bad field, or of another role code, defines none.
APPLY_DEFINITIONS, when the store verifies, gives every volume that is UNDEFINED, or DEFINED and empty, the definition of its page, with its two accounts, and empties its landing pool when the role, block size or
block count changes; the peer table, local peer id, EtherType and settings take theirs, the P in use is the one the new settings give at the clock (R124), and an entry whose address or peer id
changes loses its frame-error flag.
FORMAT needs the strap and a part with nothing under way; it empties the extent table, every snapshot list, release list and landing pool, leaves each volume DEFINED with the definition it has or
UNDEFINED, and resets the accounts; FORMAT_END answers DONE, and brings a part in SAFE state up when its store verifies: every volume, accounts
0 to 31, the peer table, local peer id, EtherType, settings and P take the store's values. Each queued run has ended
FAILED CANCELLED by then, its named target without REPL_TARGET (R134). That a PRIMARY page decodes whatever its landing fields hold is notes/assumptions/23.md, the record of a volume that is UNDEFINED
notes/assumptions/1.md, the refusals' zeros notes/assumptions/8.md, the order of the queued runs' answers and ACCEPTED notes/assumptions/9.md, a FORMAT taken while the unit of an ended run holds the
engine notes/assumptions/42.md, and a FORMAT_END without a FORMAT notes/assumptions/4.md. -/
def Obligations.DefinitionsTakeEffectAndFormatEmpties : Prop :=
  (∀ (b : List Byte) (k : Nat) (bad good : Prop), k = field b 1 1 →
    bad = (k ∉ [4, 8, 16, 32, 64] ∨ field b 8 8 = 0 ∨ 1099511627776 < field b 8 8 ∨ field b 16 8 % (k * 1024) ≠ 0 ∨ 281474976710655 < field b 24 8 ∨ 7 < field b 3 1) →
    good = (field b 5 1 ≤ 3 ∧ field b 6 1 ≤ 15) →
    (field b 0 1 ≠ 1 → field b 0 1 ≠ 2 → volumeDefOf b = .unused) ∧
    (field b 0 1 = 1 → bad → volumeDefOf b = .unused) ∧
    (field b 0 1 = 2 → (bad ∨ 281474976710655 < field b 32 8 ∨ 7 < field b 4 1) → volumeDefOf b = .unused) ∧
    (field b 0 1 = 1 → ¬bad → good →
      volumeDefOf b = ⟨.primary, k, field b 8 8, field b 16 8, field b 24 8, field b 3 1, decide (field b 2 1 = 1), some (field b 5 1), some (field b 6 1), 0, 0⟩) ∧
    (field b 0 1 = 1 → ¬bad → ¬good →
      volumeDefOf b = ⟨.primary, k, field b 8 8, field b 16 8, field b 24 8, field b 3 1, decide (field b 2 1 = 1), none, none, 0, 0⟩) ∧
    (field b 0 1 = 2 → ¬bad → field b 32 8 ≤ 281474976710655 → field b 4 1 ≤ 7 →
      volumeDefOf b = ⟨.replica, k, field b 8 8, field b 16 8, field b 24 8, field b 3 1, decide (field b 2 1 = 1), none, none, field b 32 8, field b 4 1⟩)) ∧
  (∀ (s : State) (r : RingNo) (tag : Nat) (page : Nat → List Byte) (d : Vol → VolumeDef) (takes : Vol → Bool), s.up → s.ps.commit = none → s.qu.ok →
    page = (fun n => (List.range 256).map fun i => sparseGet 0xFF s.ps.pages (256 * n + i)) → d = (fun v => volumeDefOf (page (1 + v.val))) →
    (∀ v, takes v = true ↔ (s.vol v).state = .undefined ∨ ((s.vol v).state = .defined ∧ (∀ e ∈ s.extents, e.volume ≠ v) ∧ (s.snapVol v).snaps = [])) →
    (s.ps.verifies 0 = false → exec (.applyDefinitions r tag) s = .next (answer r ⟨tag, 0x64, 0x3F, 0, 0, 0⟩ s)) ∧
    (s.ps.verifies 0 = true → ∃ t, exec (.applyDefinitions r tag) s = .next (answer r ⟨tag, 0x64, 0x00, (volList.filter takes).length, volumeMask takes,
        volumeMask fun v => !takes v && decide (d v ≠ (s.vol v).defn)⟩ t) ∧
      (∀ v, takes v = true → t.setBy v (d v)) ∧
      (∀ v, takes v = false → t.vol v = s.vol v ∧ t.account v.val = s.account v.val ∧ t.account (16 + v.val) = s.account (16 + v.val) ∧ t.replVol v = s.replVol v) ∧
      (∀ i, 32 ≤ i → t.account i = s.account i) ∧
      t.lc = { s.lc with peers := t.lc.peers, localId := t.lc.localId, etherType := t.lc.etherType } ∧ t.lc.setBy page ∧
      (∀ i : Ctx, t.lc.peers[i].frameError = true ↔
        s.lc.peers[i].frameError = true ∧ t.lc.peers[i].address = s.lc.peers[i].address ∧ t.lc.peers[i].id = s.lc.peers[i].id) ∧
      (∀ v, takes v = true → t.replVol v =
        if (d v).role ≠ (s.vol v).defn.role ∨ (d v).blockKiB ≠ (s.vol v).defn.blockKiB ∨ (d v).blockCount ≠ (s.vol v).defn.blockCount then
          { s.replVol v with pool := [], takeMark := 0 } else s.replVol v) ∧
      t.ds = { s.ds with settings := t.ds.settings, p := t.ds.p } ∧ t.ds.setBy (page 21) s.qu.clock ∧
      t.extents = s.extents ∧ t.su = s.su ∧ t.qu.timers = s.qu.timers ∧ t.qu.clock = s.qu.clock ∧ t.ru = s.ru ∧ t.dm = s.dm ∧ t.dr.ctxs = s.dr.ctxs ∧ t.riu = s.riu ∧
      t.mem = s.mem ∧ t.ps = s.ps)) ∧
  (∀ (s : State) (r : RingNo) (tag : Nat),
    (s.strap = false → exec (.format r tag) s = .next (answer r ⟨tag, 0x65, 0x41, 0, 0, 0⟩ s)) ∧
    (s.strap = true → s.ps.format ≠ none ∨ (∃ c, (s.restoreCtx c).phase ≠ .free) ∨ s.ds.active ≠ none ∨ (∃ c, (s.inCtx c).state ≠ .free) ∨
        (∃ v, (s.replVol v).reset ≠ none ∨ (s.snapVol v).retire ≠ [] ∨ (s.snapVol v).taking ≠ none) →
      exec (.format r tag) s = .next (answer r ⟨tag, 0x65, 0x37, 0, 0, 0⟩ s)) ∧
    (s.strap = true → s.ps.format = none → (∀ c, (s.restoreCtx c).phase = .free) → s.ds.active = none → (∀ c, (s.inCtx c).state = .free) →
      (∀ v, (s.replVol v).reset = none ∧ (s.snapVol v).retire = [] ∧ (s.snapVol v).taking = none) →
      ∀ w, w = s.ds.queue.foldl (fun (y : State) x => answer x.ring ⟨x.tag, 0x40, 0x0C, 0x27, 0, 0⟩ (if x.newSnapshot then y else releaseTarget x.volume y))
        (s.setDs { s.ds with queue := [] }) →
      ∃ t, exec (.format r tag) s = .next (answer r ⟨tag, 0x65, 0x01, 0, 0, 0⟩ t) ∧ t.extents = [] ∧ (∀ v, t.snapVol v = .empty ∧ t.replVol v = .empty) ∧
        (∀ v, t.vol v = { s.vol v with state := if (s.vol v).state = .undefined then .undefined else .defined, epoch := none, baseLabel := none, seen := none }) ∧
        (∀ v, t.account v.val = (if (s.vol v).state = .undefined ∨ (s.vol v).defn.role = .unused then Account.none
            else ⟨.reserve, 0, (s.vol v).defn.reserveLimit, (s.vol v).defn.reserveMargin, 0, none, .under, false, 0⟩) ∧
          t.account (16 + v.val) = (if (s.vol v).state ≠ .undefined ∧ (s.vol v).defn.role = .replica then
            ⟨.landing, 0, (s.vol v).defn.landingLimit, (s.vol v).defn.landingMargin, 0, none, .under, false, 0⟩ else Account.none)) ∧
        (∀ i, 32 ≤ i → t.account i = Account.none) ∧ t.qu.timers = [] ∧ t.qu.clock = s.qu.clock ∧
        t.ps = { s.ps with format := some ⟨some (r, tag), s.extents.length, (volList.map fun v => (s.snapVol v).snaps.length).sum⟩ } ∧
        t.mem = w.mem ∧ t.riu = w.riu ∧ t.ru = s.ru ∧ t.dm = s.dm ∧ t.ds = { s.ds with queue := [] } ∧ t.dr.ctxs = s.dr.ctxs ∧ t.lc = s.lc)) ∧
  ∀ s : State,
    (s.ps.format = none → exec .formatEnd s = .next s) ∧
    ∀ j r tag, s.ps.format = some j → j.answer = some (r, tag) →
      (s.ps.safe = false → exec .formatEnd s = .next (answer r ⟨tag, 0x65, 0x02, 0, j.records, j.snaps⟩ (s.setPs { s.ps with format := none }))) ∧
      (s.ps.safe = true → s.ps.commit = none → s.ps.verifies 0 = false →
        exec .formatEnd s = .next (answer r ⟨tag, 0x65, 0x02, 1, j.records, j.snaps⟩ (s.setPs { s.ps with format := none }))) ∧
      ∀ page : Nat → List Byte, s.ps.safe = true → s.ps.commit = none → s.ps.verifies 0 = true → s.qu.ok →
        page = (fun n => (List.range 256).map fun i => sparseGet 0xFF s.ps.pages (256 * n + i)) →
        ∃ t, exec .formatEnd s = .next (answer r ⟨tag, 0x65, 0x02, 0, j.records, j.snaps⟩ t) ∧
          t.ps = { s.ps with format := none, safe := false } ∧ (∀ v, t.setBy v (volumeDefOf (page (1 + v.val)))) ∧ (∀ i, 32 ≤ i → t.account i = s.account i) ∧
          t.lc = { s.lc with peers := t.lc.peers, localId := t.lc.localId, etherType := t.lc.etherType } ∧ t.lc.setBy page ∧
          (∀ i : Ctx, t.lc.peers[i].frameError = false) ∧ t.ds = { s.ds with settings := t.ds.settings, p := t.ds.p } ∧ t.ds.setBy (page 21) s.qu.clock ∧
          (∀ v, (s.replVol v).pool = [] → (s.replVol v).takeMark = 0 → t.replVol v = s.replVol v) ∧
          t.extents = s.extents ∧ t.su = s.su ∧ t.qu.timers = s.qu.timers ∧ t.qu.clock = s.qu.clock ∧ t.ru = s.ru ∧ t.dm = s.dm ∧ t.dr.ctxs = s.dr.ctxs ∧ t.riu = s.riu ∧
          t.mem = s.mem

/-- The resets (R22, R46, R68, R70, R71, R93, R94, R109, R134, R154, R157, R189, R200). A cold start with the engine idle and no commit under way keeps the store's pages, PCI Express memory and the
station address, and brings every other block to its cold-start value: in SAFE state when the store does not verify, and when it does with the volumes, accounts 0 to 31, peer table,
local peer id, EtherType, settings and P (R124) that the store gives. A function reset leaves every ring
DISABLED, every restore context FREE with its hold released, the mover as after a cold start, no run queued or active and their targets without REPL_TARGET, no create on a gate and no SCAN_OUT or
TAKE_RELEASED under way, every retire entry of the host to be reported by notice, no record FILLING where each was that of a piece in flight, as R74 has it, and the OPEN inbound contexts aborting; the active run's ABORT and theirs join the control queue; records, accounts,
clock, volumes, pools and the store stay. What outlasts a cold start, and the values of its strap and carrier, are the model's choice (notes/assumptions/1.md, notes/assumptions/33.md), and so are a function reset's order and the peer
of an ABORT before the first OFFER (notes/assumptions/16.md, notes/assumptions/21.md). -/
def Obligations.ColdStartAndFunctionReset : Prop :=
  (∀ (s : State) (strap : Bool) (n : Nat) (x : Ps) (page : Nat → List Byte), s.dm.engine = none → s.ps.commit = none → x = ⟨s.ps.pages, [], decide (sparseGet 0xFF s.ps.pages 38 = 0), none, true, none⟩ →
    page = (fun n => (List.range 256).map fun i => sparseGet 0xFF s.ps.pages (256 * n + i)) →
    (s.ps.verifies 0 = false → exec (.coldStart strap n) s = .next { State.reset with
      pending := s.pending, mem := s.mem, strap := strap, free := s.free + 1, lc := { State.reset.lc with station := s.lc.station }, ps := x }) ∧
    (s.ps.verifies 0 = true → ∃ t, exec (.coldStart strap n) s = .next t ∧ t.ps = { x with safe := false } ∧ t.mem = s.mem ∧ t.pending = s.pending ∧ t.strap = strap ∧
      t.riu = .start ∧ t.ru = .start ∧ t.dm = .start ∧ t.dr = .start ∧ t.su = State.reset.su ∧ t.extents = [] ∧ t.qu.timers = [] ∧ t.qu.clock = 0 ∧ t.qu.examining = false ∧
      t.ds = .start t.ds.p t.ds.settings ∧ t.ds.setBy (page 21) 0 ∧
      t.lc = { State.reset.lc with station := s.lc.station, peers := t.lc.peers, localId := t.lc.localId, etherType := t.lc.etherType } ∧ t.lc.setBy page ∧
      (∀ i : Ctx, t.lc.peers[i].frameError = false) ∧ (∀ v, t.setBy v (volumeDefOf (page (1 + v.val)))) ∧ ∀ i, 32 ≤ i → t.account i = Account.none)) ∧
  ∀ (s : State) (n : Nat), ∃ t, exec (.functionReset n) s = .next t ∧
    (∀ r, t.ring r = .off ∧ t.scanOf r = none) ∧ t.dm = .start ∧ (∀ c, (t.restoreCtx c).phase = .free) ∧ t.ru.gateOrder = [] ∧
    t.ds.queue = [] ∧ t.ds.active = none ∧ t.ds.handover = [] ∧ t.lc.slot = none ∧ t.ds.settings = s.ds.settings ∧ t.ds.bucket = s.ds.bucket ∧
    t.lc.up = s.lc.up ∧ t.lc.peers = s.lc.peers ∧ t.lc.localId = s.lc.localId ∧ t.lc.etherType = s.lc.etherType ∧
    (∀ v, (t.snapVol v).gate = [] ∧ (t.snapVol v).taking = none ∧ (t.snapVol v).release = (s.snapVol v).release) ∧
    t.extents = s.extents.map (fun e => { e with filling := e.filling && !(ctxList.any fun c =>
      decide ((s.restoreCtx c).phase ≠ .free ∧ (s.restoreCtx c).volume = e.volume) && (s.restoreCtx c).flight.any fun f =>
        f.created && f.segs.any fun g => decide (g.first = e.first)) }) ∧
    ((∀ e ∈ s.extents, e.filling = true → ∃ c : Ctx, (s.restoreCtx c).phase ≠ .free ∧ (s.restoreCtx c).volume = e.volume ∧
        ∃ f ∈ (s.restoreCtx c).flight, f.created = true ∧ e.run ∈ f.segs) → ∀ e ∈ t.extents, e.filling = false) ∧
    t.qu = s.qu ∧ t.etu.vols = s.etu.vols ∧ (∀ v, (t.replVol v).pool = (s.replVol v).pool ∧ (t.replVol v).last = (s.replVol v).last) ∧
    (s.dm.engine = none → t.mem = s.mem ∧ ∀ c, (s.inCtx c).state = .open → (t.inCtx c).state = .aborting ∧ (t.inCtx c).reason = some 0x18 ∧
      (t.inCtx c).slots = Vector.replicate 2 .clear) ∧
    (∀ v, (t.snapVol v).snaps.map (fun z => (z.epoch, z.label, z.createdAt, z.replBase, z.holds)) =
        (s.snapVol v).snaps.map (fun z => (z.epoch, z.label, z.createdAt, z.replBase, z.holds - (ctxList.filter fun c =>
          (s.restoreCtx c).running && decide ((s.restoreCtx c).volume = v) && decide ((s.restoreCtx c).epoch = z.epoch)).length)) ∧
      (((∃ q ∈ s.ds.queue, q.volume = v ∧ q.newSnapshot = false) ∨ ∃ x ∈ s.ds.active, x.volume = v ∧ x.state ≠ .ended) →
        ((s.snapVol v).snaps.filter (·.replTarget)).length ≤ 1 → ∀ z ∈ (t.snapVol v).snaps, z.replTarget = false) ∧
      (¬((∃ q ∈ s.ds.queue, q.volume = v ∧ q.newSnapshot = false) ∨ ∃ x ∈ s.ds.active, x.volume = v ∧ x.state ≠ .ended) →
        (t.snapVol v).snaps.map (·.replTarget) = (s.snapVol v).snaps.map (·.replTarget)) ∧
      ∃ l, (t.snapVol v).retire = (s.snapVol v).retire.map (fun e => { e with origin := match e.origin with | .host _ _ => .hostSilent | o => o }) ++ l ∧
        ∀ e ∈ l, e.origin = .auto) ∧
    (s.lc.up = false → t.lc.control = s.lc.control) ∧
    (s.lc.up = true → s.lc.control.length ≤ 16 → t.lc.control = (s.lc.control ++
      (match s.ds.active with
        | some x => if x.state = RunState.ended then [] else
          match s.peerFor x with
          | some p => [(⟨p.address, .abort, .forward, x.runId, x.volume.val, p.remote, 0, 0x27, []⟩ : OutFrame)]
          | none => []
        | none => []) ++
      (ctxList.filter fun c => decide ((s.inCtx c).state = InState.open)).map fun c =>
        (⟨(s.inCtx c).peerAddr, .abort, .backward, (s.inCtx c).runId, (s.inCtx c).sendVol, (s.inCtx c).volume.val, 0, 0x18, []⟩ : OutFrame)).take 16) ∧
    t.ps.pages = s.ps.pages ∧ t.ps.staging = s.ps.staging ∧ t.ps.locked = s.ps.locked ∧ t.ps.safe = s.ps.safe ∧
    (∀ c, t.ps.commit = some c → c.answer = none) ∧ (∀ j, t.ps.format = some j → j.answer = none) ∧ t.strap = s.strap ∧ t.pending = s.pending
end

