-- ==== Sys2Proof/Laws/Tables.lean ====
section
/-! SUPPORT. Laws of the sparse tables: reading after writing, and the canonical form that every write keeps; and of PCI Express memory, which is such a table. -/

namespace Sys2Proof.Machine

/-- Every key of a table lies above `a`. -/
def keysAbove {α : Type} (a : Nat) (m : List (Nat × α)) : Prop := ∀ e ∈ m, a < e.1

theorem sparseWf_cons {α : Type} [DecidableEq α] (d : α) (k : Nat) (x : α) (m : List (Nat × α)) :
    sparseWf d ((k, x) :: m) = true ↔ keysAbove k m ∧ x ≠ d ∧ sparseWf d m = true := by
  induction m generalizing k x with
  | nil => simp [sparseWf, keysAbove]
  | cons e m ih =>
    obtain ⟨k', y⟩ := e
    simp only [sparseWf, Bool.and_eq_true, decide_eq_true_eq, ih, keysAbove, List.mem_cons, forall_eq_or_imp]
    constructor
    · rintro ⟨⟨h, hx⟩, h1, hy, hm⟩
      exact ⟨⟨h, fun e he => h.trans (h1 e he)⟩, hx, h1, hy, hm⟩
    · rintro ⟨⟨h, _⟩, hx, h1, hy, hm⟩
      exact ⟨⟨h, hx⟩, h1, hy, hm⟩

/-- A key below every listed one reads as the default. -/
theorem sparseGet_above {α : Type} (d : α) (m : List (Nat × α)) (a : Nat) (h : keysAbove a m) : sparseGet d m a = d := by
  cases m with
  | nil => rfl
  | cons e m => obtain ⟨k, x⟩ := e; simp [sparseGet, h (k, x) (by simp)]

theorem keysAbove_set {α : Type} [DecidableEq α] (d : α) (m : List (Nat × α)) (a b : Nat) (x : α) (h : keysAbove b m) (hb : b < a) :
    keysAbove b (sparseSet d m a x) := by
  induction m with
  | nil => simp only [sparseSet]; split <;> simp [keysAbove, hb]
  | cons e m ih =>
    obtain ⟨k, y⟩ := e
    have hk : b < k := h (k, y) (by simp)
    have hm : keysAbove b m := fun e he => h e (by simp [he])
    simp only [sparseSet]
    split
    · split
      · exact h
      · intro e he
        simp only [List.mem_cons] at he
        rcases he with rfl | rfl | he
        · exact hb
        · exact hk
        · exact hm e he
    · split
      · split
        · exact hm
        · intro e he
          simp only [List.mem_cons] at he
          rcases he with rfl | he
          · exact hb
          · exact hm e he
      · intro e he
        simp only [List.mem_cons] at he
        rcases he with rfl | he
        · exact hk
        · exact ih hm e he

/-- A write keeps the canonical form. -/
theorem sparseWf_set {α : Type} [DecidableEq α] (d : α) (m : List (Nat × α)) (a : Nat) (x : α) (h : sparseWf d m = true) :
    sparseWf d (sparseSet d m a x) = true := by
  induction m with
  | nil => simp only [sparseSet]; split <;> simp_all [sparseWf]
  | cons e m ih =>
    obtain ⟨k, y⟩ := e
    obtain ⟨h1, hy, hm⟩ := (sparseWf_cons d k y m).1 h
    simp only [sparseSet]
    split
    · rename_i hak
      split
      · exact h
      · rename_i hx
        refine (sparseWf_cons d _ _ _).2 ⟨?_, hx, h⟩
        intro e he
        simp only [List.mem_cons] at he
        rcases he with rfl | he
        · exact hak
        · exact hak.trans (h1 e he)
    · split
      · rename_i hak
        split
        · exact hm
        · rename_i hx
          exact (sparseWf_cons d _ _ _).2 ⟨hak ▸ h1, hx, hm⟩
      · exact (sparseWf_cons d _ _ _).2 ⟨keysAbove_set d m a k x h1 (by omega), hy, ih hm⟩

/-- Reading after writing, in a canonical table. -/
theorem sparseGet_set {α : Type} [DecidableEq α] (d : α) (m : List (Nat × α)) (a b : Nat) (x : α) (h : sparseWf d m = true) :
    sparseGet d (sparseSet d m a x) b = if b = a then x else sparseGet d m b := by
  induction m with
  | nil =>
    by_cases hx : x = d
    · simp [sparseSet, hx, sparseGet]
    · simp only [sparseSet, hx, if_false, sparseGet]; split_ifs <;> first | rfl | omega
  | cons e m ih =>
    obtain ⟨k, y⟩ := e
    obtain ⟨h1, hy, hm⟩ := (sparseWf_cons d k y m).1 h
    simp only [sparseSet]
    split
    · split
      · rename_i hak hx
        by_cases hb : b = a
        · subst hb; simp [sparseGet, hak, hx]
        · simp [hb]
      · rename_i hak hx
        by_cases hb : b = a
        · subst hb; simp [sparseGet]
        · by_cases hba : b < a
          · simp [sparseGet, hb, hba, hba.trans hak]
          · simp [sparseGet, hb, hba]
    · split
      · rename_i hak hak'
        subst hak'
        split
        · rename_i hx
          by_cases hb : b = a
          · subst hb; simp [hx, sparseGet_above d m b h1]
          · by_cases hba : b < a
            · have : keysAbove b m := fun e he => hba.trans (h1 e he)
              simp [sparseGet, hb, hba, sparseGet_above d m b this]
            · simp [sparseGet, hb, hba]
        · by_cases hb : b = a
          · subst hb; simp [sparseGet]
          · simp [sparseGet, hb]
      · rename_i hak hak'
        by_cases hbk : b < k
        · have : b ≠ a := by omega
          simp [sparseGet, hbk, this]
        · by_cases hb : b = k
          · have : b ≠ a := by omega
            simp [sparseGet, hb, show k ≠ a from by omega]
          · simp [sparseGet, hbk, hb, ih hm]

/-- Reading after writing a value that is not the default, in any table. -/
theorem sparseGet_set_value {α : Type} [DecidableEq α] (d : α) (m : List (Nat × α)) (a b : Nat) (x : α) (hx : x ≠ d) :
    sparseGet d (sparseSet d m a x) b = if b = a then x else sparseGet d m b := by
  induction m with
  | nil => simp only [sparseSet, hx, if_false, sparseGet]; split_ifs <;> first | rfl | omega
  | cons e m ih =>
    obtain ⟨k, y⟩ := e
    simp only [sparseSet, hx, if_false]
    split
    · simp only [sparseGet]; split_ifs <;> first | rfl | omega
    · split
      · rename_i hak; subst hak; simp only [sparseGet]; split_ifs <;> first | rfl | omega
      · simp only [sparseGet, ih]; split_ifs <;> first | rfl | omega

/-- An entry of a written table is the written one or was there. -/
theorem mem_sparseSet {α : Type} [DecidableEq α] (d : α) (m : List (Nat × α)) (a : Nat) (x : α) (e : Nat × α)
    (h : e ∈ sparseSet d m a x) : (e = (a, x) ∧ x ≠ d) ∨ e ∈ m := by
  induction m with
  | nil =>
    simp only [sparseSet] at h
    split at h
    · simp at h
    · rename_i hx; simp only [List.mem_singleton] at h; exact .inl ⟨h, hx⟩
  | cons e' m ih =>
    obtain ⟨k, y⟩ := e'
    simp only [sparseSet] at h
    split at h
    · split at h
      · exact .inr h
      · rename_i hx
        rcases List.mem_cons.1 h with h | h
        · exact .inl ⟨h, hx⟩
        · exact .inr h
    · split at h
      · split at h
        · exact .inr (by simp [h])
        · rename_i hx
          rcases List.mem_cons.1 h with h | h
          · exact .inl ⟨h, hx⟩
          · exact .inr (by simp [h])
      · rcases List.mem_cons.1 h with h | h
        · exact .inr (by simp [h])
        · rcases ih h with h | h
          · exact .inl h
          · exact .inr (by simp [h])

/-- A listed entry of a canonical table is what its key reads as. -/
theorem sparseGet_of_mem {α : Type} [DecidableEq α] (d : α) (m : List (Nat × α)) (h : sparseWf d m = true) (e : Nat × α) (he : e ∈ m) :
    sparseGet d m e.1 = e.2 := by
  induction m with
  | nil => simp at he
  | cons e' m ih =>
    obtain ⟨k, y⟩ := e'
    obtain ⟨h1, hy, hm⟩ := (sparseWf_cons d k y m).1 h
    rcases List.mem_cons.1 he with rfl | he
    · simp [sparseGet]
    · have := h1 e he
      simp [sparseGet, ih hm he, show ¬e.1 < k from by omega, show e.1 ≠ k from by omega]

/-- What a key reads as is the default or a listed entry's. -/
theorem mem_of_sparseGet {α : Type} [DecidableEq α] (d : α) (m : List (Nat × α)) (a : Nat) (h : sparseGet d m a ≠ d) :
    (a, sparseGet d m a) ∈ m := by
  induction m with
  | nil => simp [sparseGet] at h
  | cons e m ih =>
    obtain ⟨k, y⟩ := e
    by_cases h1 : a < k
    · simp [sparseGet, h1] at h
    · by_cases h2 : a = k
      · simp [sparseGet, h2]
      · simp only [sparseGet, h1, h2, if_false] at h ⊢
        exact List.mem_cons_of_mem _ (ih h)

theorem canonical_set {α : Type} [DecidableEq α] (d : α) (n : Nat) (m : List (Nat × α)) (a : Nat) (x : α) (h : canonical d n m) (ha : a < n) :
    canonical d n (sparseSet d m a x) := by
  refine ⟨sparseWf_set d m a x h.1, fun e he => ?_⟩
  rcases mem_sparseSet d m a x e he with ⟨rfl, _⟩ | he
  · exact ha
  · exact h.2 e he

theorem addr64_lt (a : Nat) : addr64 a < 18446744073709551616 := Nat.mod_lt _ (by decide)

/-- A write to PCI Express memory keeps its canonical form. -/
theorem memOk_write (m : List Host.Cell) (a : Nat) (bs : List Byte) (h : memOk m) : memOk (memWrite m a bs) := by
  induction bs generalizing m a with
  | nil => exact h
  | cons b bs ih => exact ih _ _ (canonical_set 0 _ m _ b h (addr64_lt a))

/-- A byte outside the written run reads as before. -/
theorem readByte_write_other (m : List Host.Cell) (a : Nat) (bs : List Byte) (h : memOk m) (b : Nat)
    (hb : ∀ i < bs.length, addr64 (a + i) ≠ b) : sparseGet 0 (memWrite m a bs) b = sparseGet 0 m b := by
  induction bs generalizing m a with
  | nil => rfl
  | cons x bs ih =>
    simp only [memWrite]
    rw [ih _ _ (canonical_set 0 _ m _ x h (addr64_lt a)) (fun i hi => by
      have := hb (i + 1) (by simp; omega)
      rwa [show a + 1 + i = a + (i + 1) by omega])]
    rw [sparseGet_set 0 m _ b x h.1, if_neg]
    have := hb 0 (by simp)
    simpa using fun h => this h.symm

/-- A byte of the written run reads as written, for a run that does not pass round the address space. -/
theorem readByte_write_same (m : List Host.Cell) (a : Nat) (bs : List Byte) (h : memOk m) (i : Nat) (hi : i < bs.length)
    (hn : a + bs.length ≤ 18446744073709551616) : sparseGet 0 (memWrite m a bs) (a + i) = bs[i] := by
  induction bs generalizing m a i with
  | nil => simp at hi
  | cons x bs ih =>
    simp only [List.length_cons] at hn hi
    simp only [memWrite]
    cases i with
    | zero =>
      rw [readByte_write_other _ _ _ (canonical_set 0 _ m _ x h (addr64_lt a))]
      · rw [sparseGet_set 0 m _ _ x h.1]
        simp [addr64, Nat.mod_eq_of_lt (show a < 18446744073709551616 by omega)]
      · intro j hj
        simp only [addr64]
        rw [Nat.mod_eq_of_lt (by omega)]; omega
    | succ i =>
      rw [show a + (i + 1) = a + 1 + i by omega]
      exact ih _ _ (canonical_set 0 _ m _ x h (addr64_lt a)) _ (by omega) (by omega)

end Sys2Proof.Machine
end

