-- ==== Sys2Proof/Laws/Operations.lean ====
section
/-! SUPPORT. What the shared operations can do: the gates of a request, the raising of notices, and the charges of accounts. -/

namespace Sys2Proof.Machine

/-! ### Volumes and contexts -/

@[simp] theorem toVol_val (v : Vol) : toVol v.val = v := by simp [toVol, Fin.ofNat, Nat.mod_eq_of_lt v.isLt]
@[simp] theorem volumeOk_val (v : Vol) : volumeOk v.val = true := by simp [volumeOk]; omega

/-- The lowest-numbered context of a property. -/
theorem find_ctx (P : Ctx → Bool) (c : Ctx) (hc : P c = true) (hb : ∀ d, d < c → P d = false) : ctxList.find? P = some c := by
  have h : ∀ d : Fin 4, d = 0 ∨ d = 1 ∨ d = 2 ∨ d = 3 := by decide
  rcases h c with rfl | rfl | rfl | rfl
  · simp [ctxList, hc]
  · simp [ctxList, hc, hb 0 (by decide)]
  · simp [ctxList, hc, hb 0 (by decide), hb 1 (by decide)]
  · simp [ctxList, hc, hb 0 (by decide), hb 1 (by decide), hb 2 (by decide)]

/-- A request whose kind SAFE state and FORMAT gated passes the gates in every state. -/
theorem gated_always (s : State) (r : RingNo) (tag : Nat) (q : Request) (act : State → State) (h1 : safeAdmits q = true)
    (h2 : formatAdmits q = true) : gated r tag q true act s = act s := by
  simp [gated, State.gateRefusal, h1, h2]

/-! ### The gates -/

theorem gateRefusal_up (s : State) (q : Request) (h : s.up) : s.gateRefusal q true = none := by
  simp [State.gateRefusal, h.1, h.2]

/-- A request that passes the gates is acted on. -/
theorem gated_up (r : RingNo) (tag : Nat) (q : Request) (act : State → State) (s : State) (h : s.up) : gated r tag q true act s = act s := by
  simp [gated, gateRefusal_up s q h]

/-- A request whose form fails is refused BAD_REQUEST. -/
theorem gated_false (r : RingNo) (tag : Nat) (q : Request) (act : State → State) (s : State) :
    gated r tag q false act s = refuse r tag q .badRequest s := rfl

@[simp] theorem checked_none (r : RingNo) (tag : Nat) (q : Request) (act : State → State) (s : State) : checked r tag q none act s = act s := rfl
@[simp] theorem checked_some (r : RingNo) (tag : Nat) (q : Request) (st : Status) (act : State → State) (s : State) :
    checked r tag q (some st) act s = refuse r tag q st s := rfl
@[simp] theorem firstFailure_nil : firstFailure [] = none := rfl
@[simp] theorem firstFailure_cons (b : Bool) (st : Status) (l : List (Bool × Status)) :
    firstFailure ((b, st) :: l) = if b then some st else firstFailure l := rfl

/-! ### Notices -/

theorem State.noticesOnly.refl (s : State) : s.noticesOnly s := rfl

theorem State.noticesOnly.trans {s t u : State} (h : s.noticesOnly t) (h' : t.noticesOnly u) : s.noticesOnly u := by
  unfold State.noticesOnly at *
  rw [h'] ; rw [h]; rfl

@[simp] theorem noticesOnly_raise (k : NoticeKind) (b c : Nat) (s : State) : s.noticesOnly (raise k b c s) := by
  unfold State.noticesOnly raise; split_ifs <;> rfl

@[simp] theorem noticesOnly_raiseAll (ks : List NoticeKind) (i : Nat) (s : State) : s.noticesOnly (raiseAll ks i s) := by
  induction ks generalizing s with
  | nil => exact .refl s
  | cons k ks ih => exact (noticesOnly_raise k i 0 s).trans (ih _)

section
variable {s u : State} (h : s.noticesOnly u)
include h
theorem State.noticesOnly.mem : u.mem = s.mem := by rw [h]; rfl
theorem State.noticesOnly.etu : u.etu = s.etu := by rw [h]; rfl
theorem State.noticesOnly.qu : u.qu = s.qu := by rw [h]; rfl
theorem State.noticesOnly.su : u.su = s.su := by rw [h]; rfl
theorem State.noticesOnly.ru : u.ru = s.ru := by rw [h]; rfl
theorem State.noticesOnly.dm : u.dm = s.dm := by rw [h]; rfl
theorem State.noticesOnly.ds : u.ds = s.ds := by rw [h]; rfl
theorem State.noticesOnly.dr : u.dr = s.dr := by rw [h]; rfl
theorem State.noticesOnly.lc : u.lc = s.lc := by rw [h]; rfl
theorem State.noticesOnly.ps : u.ps = s.ps := by rw [h]; rfl
theorem State.noticesOnly.pending : u.pending = s.pending := by rw [h]; rfl
theorem State.noticesOnly.strap : u.strap = s.strap := by rw [h]; rfl
theorem State.noticesOnly.free : u.free = s.free := by rw [h]; rfl
theorem State.noticesOnly.rings : u.riu.rings = s.riu.rings := by rw [h]; rfl
theorem State.noticesOnly.account (i : Nat) : u.account i = s.account i := by simp only [State.account, h.qu]
theorem State.noticesOnly.extents : u.extents = s.extents := by simp only [State.extents, h.etu]
end

/-! ### Answers -/

/-- Writing an answer changes PCI Express memory and the ring alone. -/
theorem writeAnswer_frame (r : RingNo) (x : Answer) (s : State) :
    ∃ m u, writeAnswer r x s = (s.setMem m).setRiu u ∧ u.notices = s.riu.notices ∧ u.overflow = s.riu.overflow ∧ u.lost = s.riu.lost :=
  ⟨_, _, rfl, rfl, rfl, rfl⟩

/-- An answer that becomes due changes PCI Express memory and the ring alone. -/
theorem answerDue_frame (r : RingNo) (x : Answer) (o : AnswerOwner) (s : State) :
    ∃ m u, (answerDue r x o s).1 = (s.setMem m).setRiu u ∧ u.notices = s.riu.notices ∧ u.overflow = s.riu.overflow ∧ u.lost = s.riu.lost := by
  unfold answerDue
  dsimp only
  split
  · exact ⟨s.mem, s.riu, rfl, rfl, rfl, rfl⟩
  · exact ⟨s.mem, s.riu, rfl, rfl, rfl, rfl⟩
  · split <;> exact ⟨s.mem, _, rfl, rfl, rfl, rfl⟩
  · split
    · exact writeAnswer_frame r x s
    · split
      · exact ⟨s.mem, _, rfl, rfl, rfl, rfl⟩
      · exact ⟨s.mem, _, rfl, rfl, rfl, rfl⟩

section
variable (r : RingNo) (x : Answer) (o : AnswerOwner) (s : State)
@[simp] theorem answerDue_etu : (answerDue r x o s).1.etu = s.etu := by obtain ⟨m, u, h, -⟩ := answerDue_frame r x o s; rw [h]; rfl
@[simp] theorem answerDue_qu : (answerDue r x o s).1.qu = s.qu := by obtain ⟨m, u, h, -⟩ := answerDue_frame r x o s; rw [h]; rfl
@[simp] theorem answerDue_su : (answerDue r x o s).1.su = s.su := by obtain ⟨m, u, h, -⟩ := answerDue_frame r x o s; rw [h]; rfl
@[simp] theorem answerDue_ru : (answerDue r x o s).1.ru = s.ru := by obtain ⟨m, u, h, -⟩ := answerDue_frame r x o s; rw [h]; rfl
@[simp] theorem answerDue_dm : (answerDue r x o s).1.dm = s.dm := by obtain ⟨m, u, h, -⟩ := answerDue_frame r x o s; rw [h]; rfl
@[simp] theorem answerDue_ds : (answerDue r x o s).1.ds = s.ds := by obtain ⟨m, u, h, -⟩ := answerDue_frame r x o s; rw [h]; rfl
@[simp] theorem answerDue_dr : (answerDue r x o s).1.dr = s.dr := by obtain ⟨m, u, h, -⟩ := answerDue_frame r x o s; rw [h]; rfl
@[simp] theorem answerDue_lc : (answerDue r x o s).1.lc = s.lc := by obtain ⟨m, u, h, -⟩ := answerDue_frame r x o s; rw [h]; rfl
@[simp] theorem answerDue_ps : (answerDue r x o s).1.ps = s.ps := by obtain ⟨m, u, h, -⟩ := answerDue_frame r x o s; rw [h]; rfl
@[simp] theorem answerDue_pending : (answerDue r x o s).1.pending = s.pending := by obtain ⟨m, u, h, -⟩ := answerDue_frame r x o s; rw [h]; rfl
@[simp] theorem answerDue_strap : (answerDue r x o s).1.strap = s.strap := by obtain ⟨m, u, h, -⟩ := answerDue_frame r x o s; rw [h]; rfl
@[simp] theorem answerDue_free : (answerDue r x o s).1.free = s.free := by obtain ⟨m, u, h, -⟩ := answerDue_frame r x o s; rw [h]; rfl
end

/-! ### Accounts -/

/-- `u` differs from `s` in the accounts, the grace timer list and the notices `ns`, raised in their order, at most (R28, R43, R45): the frame of `State.accountsOnly`. -/
def State.accountsFrame (s u : State) (ns : List (NoticeKind × Nat)) : Prop :=
  u = (s.raising ns).setQu u.qu ∧ u.qu.clock = s.qu.clock ∧ u.qu.examining = s.qu.examining

theorem State.accountsOnly.frame {s u : State} {ns : List (NoticeKind × Nat)} (h : s.accountsOnly u ns) : s.accountsFrame u ns := ⟨h.1, h.2.1, h.2.2.1⟩

theorem State.accountsFrame.only {s u : State} {ns : List (NoticeKind × Nat)} (h : s.accountsFrame u ns) (hq : s.qu.ok → u.qu.ok) :
    s.accountsOnly u ns := ⟨h.1, h.2.1, h.2.2, hq⟩

@[simp] theorem raising_nil (s : State) : s.raising [] = s := rfl
@[simp] theorem raising_append (l m : List (NoticeKind × Nat)) (s : State) : s.raising (l ++ m) = (s.raising l).raising m := List.foldl_append

theorem raiseAll_eq_raising (ks : List NoticeKind) (i : Nat) (s : State) : raiseAll ks i s = s.raising (ks.map (·, i)) := by
  simp [raiseAll, State.raising, List.foldl_map]

@[simp] theorem noticesOnly_raising (ns : List (NoticeKind × Nat)) (s : State) : s.noticesOnly (s.raising ns) := by
  induction ns generalizing s with
  | nil => exact .refl s
  | cons n ns ih => exact (noticesOnly_raise n.1 n.2 0 s).trans (ih _)

/-- Raising a notice looks at the notice set alone. -/
theorem raise_setQu (k : NoticeKind) (b c : Nat) (q : Qu) (s : State) : raise k b c (s.setQu q) = (raise k b c s).setQu q := by
  unfold raise; rw [apply_ite (State.setQu · q), apply_ite (State.setQu · q)]; rfl

theorem raising_setQu (ns : List (NoticeKind × Nat)) (q : Qu) (s : State) : (s.setQu q).raising ns = (s.raising ns).setQu q := by
  induction ns generalizing s with
  | nil => rfl
  | cons n ns ih => exact (congrArg (·.raising ns) (raise_setQu n.1 n.2 0 q s)).trans (ih _)

theorem State.accountsFrame.trans {s t u : State} {l m : List (NoticeKind × Nat)} (h : s.accountsFrame t l) (h' : t.accountsFrame u m) :
    s.accountsFrame u (l ++ m) := by
  refine ⟨?_, h'.2.1.trans h.2.1, h'.2.2.trans h.2.2⟩
  conv_lhs => rw [h'.1, h.1]
  rw [raising_setQu, raising_append]; rfl

theorem State.accountsFrame.refl (s : State) : s.accountsFrame s [] := ⟨rfl, rfl, rfl⟩

theorem accountsFrame_raiseAll (ks : List NoticeKind) (i : Nat) (s : State) : s.accountsFrame (raiseAll ks i s) (ks.map (·, i)) := by
  have h := (noticesOnly_raiseAll ks i s).qu
  refine ⟨?_, by rw [h], by rw [h]⟩
  rw [h, raiseAll_eq_raising, ← raising_setQu]; rfl

/-- A stored account reads as stored, and no other changes, when its kind is not NONE. -/
theorem account_setAccount (s : State) (i j : Nat) (a : Account) (h : a.kind ≠ .none) :
    (s.setAccount i a).account j = if j = i then a else s.account j :=
  sparseGet_set_value _ _ _ _ _ fun h' => h (by rw [h']; rfl)

theorem account_putUser (s : State) (i j : Nat) (a : Account) (h : a.kind ≠ .none) :
    (s.putUser i a).account j = if j = i then a else s.account j := account_setAccount s i j a h

theorem accountsFrame_setAccount (s : State) (i : Nat) (a : Account) : s.accountsFrame (s.setAccount i a) [] := ⟨rfl, rfl, rfl⟩

theorem accountsFrame_putUser (s : State) (i : Nat) (a : Account) : s.accountsFrame (s.putUser i a) [] := ⟨rfl, rfl, rfl⟩

theorem graceStart_kind (clock : Nat) (a : Account) : (graceStart clock a).1.kind = a.kind := by unfold graceStart; split <;> rfl

/-- Re-rating changes no kind. -/
theorem rateUser_kind (clock : Nat) (a : Account) : (rateUser clock a).1.kind = a.kind := by
  unfold rateUser
  repeat' split
  all_goals first | rfl | exact graceStart_kind clock a

/-- The re-rating of a USER or GROUP account: the account as R28 leaves it, no other, and the notices of R28. -/
theorem rerate_user (i old : Nat) (s : State) (h : (s.account i).kind = .user ∨ (s.account i).kind = .group) :
    s.accountsFrame (rerate i old s) ((rateUser s.qu.clock (s.account i)).2.map (·, i)) ∧
      ∀ j, (rerate i old s).account j = if j = i then (rateUser s.qu.clock (s.account i)).1 else s.account j := by
  have hk : (rateUser s.qu.clock (s.account i)).1.kind ≠ .none := by rw [rateUser_kind]; rcases h with h | h <;> simp [h]
  have : rerate i old s = raiseAll (rateUser s.qu.clock (s.account i)).2 i (s.putUser i (rateUser s.qu.clock (s.account i)).1) := by
    unfold rerate; rcases h with h | h <;> simp [h]
  rw [this]
  have hn := noticesOnly_raiseAll (rateUser s.qu.clock (s.account i)).2 i (s.putUser i (rateUser s.qu.clock (s.account i)).1)
  exact ⟨(accountsFrame_putUser s i _).trans (accountsFrame_raiseAll _ _ _),
    fun j => by rw [hn.account, account_putUser _ _ _ _ hk]⟩

/-- A charge of a USER or GROUP account. -/
theorem chargeAccount_user (i c n : Nat) (s : State) (h : (s.account i).kind = .user ∨ (s.account i).kind = .group) :
    s.accountsFrame (chargeAccount i c n s)
        ((rateUser s.qu.clock { s.account i with usage := (s.account i).usage + c, records := (s.account i).records + n }).2.map (·, i)) ∧
      ∀ j, (chargeAccount i c n s).account j = if j = i then (rateUser s.qu.clock { s.account i with usage := (s.account i).usage + c, records := (s.account i).records + n }).1
      else s.account j := by
  have h0 : (s.account i).kind ≠ .none := by rcases h with h | h <;> simp [h]
  simp only [chargeAccount, h0, if_false]
  set a : Account := { s.account i with usage := (s.account i).usage + c, records := (s.account i).records + n } with ha
  have h1 := account_setAccount s i i a h0
  rw [if_pos rfl] at h1
  have h2 := rerate_user i (s.account i).usage (s.setAccount i a) (by rw [h1]; exact h)
  rw [h1] at h2
  refine ⟨(accountsFrame_setAccount s i a).trans h2.1, fun j => ?_⟩
  rw [h2.2 j]
  split
  · rfl
  · rename_i hj; rw [account_setAccount s i j a h0, if_neg hj]

/-- A refund of a USER or GROUP account. -/
theorem refundAccount_user (i c n : Nat) (s : State) (h : (s.account i).kind = .user ∨ (s.account i).kind = .group) :
    s.accountsFrame (refundAccount i c n s)
        ((rateUser s.qu.clock { s.account i with usage := (s.account i).usage - c, records := (s.account i).records - n }).2.map (·, i)) ∧
      ∀ j, (refundAccount i c n s).account j = if j = i then (rateUser s.qu.clock { s.account i with usage := (s.account i).usage - c, records := (s.account i).records - n }).1
      else s.account j := by
  have h0 : (s.account i).kind ≠ .none := by rcases h with h | h <;> simp [h]
  simp only [refundAccount, h0, if_false]
  set a : Account := { s.account i with usage := (s.account i).usage - c, records := (s.account i).records - n } with ha
  have h1 := account_setAccount s i i a h0
  rw [if_pos rfl] at h1
  have h2 := rerate_user i (s.account i).usage (s.setAccount i a) (by rw [h1]; exact h)
  rw [h1] at h2
  refine ⟨(accountsFrame_setAccount s i a).trans h2.1, fun j => ?_⟩
  rw [h2.2 j]
  split
  · rfl
  · rename_i hj; rw [account_setAccount s i j a h0, if_neg hj]

/-- The owner and the group of a record of a PRIMARY volume are distinct accounts, as their kinds are. -/
theorem group_ne_owner (s : State) (owner : Nat) (group : Option Nat) (ho : (s.account owner).kind = .user)
    (hg : ∀ g, group = some g → (s.account g).kind = .group) : group ≠ some owner := by
  intro h; have := hg owner h; rw [ho] at this; cases this

/-- An operation on single accounts that leaves every other account alone acts on the owner and on the group, each as it stood, and raises the owner's notices before the
group's. -/
theorem onOwnerGroup_accounts (f : Nat → State → State) (g : Nat → Account → Account × List NoticeKind) (s : State) (owner : Nat) (group : Option Nat)
    (hf : ∀ (t : State) (i : Nat), (t.account i).kind = .user ∨ (t.account i).kind = .group →
      t.accountsFrame (f i t) ((g t.qu.clock (t.account i)).2.map (·, i)) ∧
        ∀ j, (f i t).account j = if j = i then (g t.qu.clock (t.account i)).1 else t.account j)
    (ho : (s.account owner).kind = .user) (hg : ∀ i, group = some i → (s.account i).kind = .group) :
    s.accountsFrame (onOwnerGroup f owner group s) (ownerThenGroup owner group fun i => g s.qu.clock (s.account i)) ∧
      ∀ i, (onOwnerGroup f owner group s).account i = if i = owner ∨ group = some i then (g s.qu.clock (s.account i)).1 else s.account i := by
  obtain ⟨a1, b1⟩ := hf s owner (.inl ho)
  cases hp : group with
  | none =>
    refine ⟨by simpa [onOwnerGroup, ownerThenGroup] using a1, fun i => ?_⟩
    simp only [onOwnerGroup, b1 i, reduceCtorEq, or_false]
    split
    · rename_i h; rw [h]
    · rfl
  | some k =>
    have hne : k ≠ owner := fun h => group_ne_owner s owner group ho hg (by rw [hp, h])
    have hk : (f owner s).account k = s.account k := by rw [b1 k, if_neg hne]
    obtain ⟨a2, b2⟩ := hf (f owner s) k (by rw [hk]; exact .inr (hg k hp))
    rw [hk, a1.2.1] at a2
    refine ⟨a1.trans a2, fun i => ?_⟩
    simp only [onOwnerGroup]
    rw [b2 i, hk, a1.2.1]
    by_cases h : i = k
    · simp [h]
    · have h' : k ≠ i := fun e => h e.symm
      simp only [h, if_false, Option.some.injEq, h', or_false, b1 i]
      split
      · rename_i e; rw [e]
      · rfl

/-- The charges of a new LIVE record of a PRIMARY volume (R10, R24). -/
theorem chargeOwnerGroup (s : State) (owner : Nat) (group : Option Nat) (c : Nat) (ho : (s.account owner).kind = .user)
    (hg : ∀ i, group = some i → (s.account i).kind = .group) :
    s.accountsFrame (onOwnerGroup (fun i => chargeAccount i c 1) owner group s) (ownerThenGroup owner group (s.chargedUser c)) ∧
      ∀ i, (onOwnerGroup (fun i => chargeAccount i c 1) owner group s).account i =
        if i = owner ∨ group = some i then (s.chargedUser c i).1 else s.account i :=
  onOwnerGroup_accounts _ (fun clock a => rateUser clock { a with usage := a.usage + c, records := a.records + 1 }) s owner group
    (fun t i h => chargeAccount_user i c 1 t h) ho hg

/-- The refunds of a LIVE record of a PRIMARY volume (R33). -/
theorem refundOwnerGroup (s : State) (owner : Nat) (group : Option Nat) (c : Nat) (ho : (s.account owner).kind = .user)
    (hg : ∀ i, group = some i → (s.account i).kind = .group) :
    s.accountsFrame (onOwnerGroup (fun i => refundAccount i c 1) owner group s) (ownerThenGroup owner group (s.refundedUser c)) ∧
      ∀ i, (onOwnerGroup (fun i => refundAccount i c 1) owner group s).account i =
        if i = owner ∨ group = some i then (s.refundedUser c i).1 else s.account i :=
  onOwnerGroup_accounts _ (fun clock a => rateUser clock { a with usage := a.usage - c, records := a.records - 1 }) s owner group
    (fun t i h => refundAccount_user i c 1 t h) ho hg

/-! ### RESERVE and LANDING accounts -/

/-- The re-rating of the RESERVE account of a volume (R35): the account, its notice, and the volume's auto-trim. -/
theorem rerate_reserve (v : Vol) (old : Nat) (s : State) (h : (s.account v.val).kind = .reserve) :
    rerate v.val old s = reserveTrim v (s.account v.val).state (reserveState (s.account v.val).hard (s.account v.val).usage)
      ((s.setAccount v.val (rateReserve (s.account v.val))).raising
        (reserveNotice v (s.account v.val).state (reserveState (s.account v.val).hard (s.account v.val).usage))) := by
  have hs : (rateReserve (s.account v.val)).state = reserveState (s.account v.val).hard (s.account v.val).usage := rfl
  have hr : reserveState (s.account v.val).hard (s.account v.val).usage = .over ∨
      reserveState (s.account v.val).hard (s.account v.val).usage = .under := by unfold reserveState; split <;> simp
  unfold rerate
  simp only [h, hs, toVol_val]
  rcases hr with e | e <;> rw [e] <;> cases (s.account v.val).state <;>
    simp [reserveTrim, reserveNotice, State.raising]

/-- A charge of a RESERVE account (R26, R35). -/
theorem chargeAccount_reserve (v : Vol) (c : Nat) (s : State) (h : (s.account v.val).kind = .reserve) :
    ∃ m, chargeAccount v.val c 1 s =
        reserveTrim v (s.account v.val).state (reserveState (s.account v.val).hard ((s.account v.val).usage + c)) m ∧
      s.accountsFrame m (reserveNotice v (s.account v.val).state (reserveState (s.account v.val).hard ((s.account v.val).usage + c))) ∧
      ∀ j, m.account j = if j = v.val then
        { s.account v.val with
          usage := (s.account v.val).usage + c
          records := (s.account v.val).records + 1
          state := reserveState (s.account v.val).hard ((s.account v.val).usage + c) }
        else s.account j := by
  have h0 : (s.account v.val).kind ≠ .none := by simp [h]
  simp only [chargeAccount, h0, if_false]
  set a : Account := { s.account v.val with usage := (s.account v.val).usage + c, records := (s.account v.val).records + 1 } with ha
  have h1 := account_setAccount s v.val v.val a h0
  rw [if_pos rfl] at h1
  rw [rerate_reserve v _ (s.setAccount v.val a) (by rw [h1]; exact h), h1]
  refine ⟨_, rfl, ?_, fun j => ?_⟩
  · have hq := (noticesOnly_raising (reserveNotice v a.state (reserveState a.hard a.usage))
      ((s.setAccount v.val a).setAccount v.val (rateReserve a))).qu
    refine ⟨?_, by rw [hq]; rfl, by rw [hq]; rfl⟩
    rw [hq, ← raising_setQu]; rfl
  · have hk : (rateReserve a).kind ≠ .none := by simp [rateReserve, ha, h]
    rw [(noticesOnly_raising _ _).account, account_setAccount _ v.val j _ hk]
    split
    · rfl
    · rename_i hj; rw [account_setAccount s v.val j a h0, if_neg hj]

/-- A charge of a LANDING account (R26, R36). -/
theorem chargeAccount_landing (i c n : Nat) (s : State) (h : (s.account i).kind = .landing) :
    s.accountsFrame (chargeAccount i c n s)
        ((rateLanding (s.account i).usage { s.account i with usage := (s.account i).usage + c, records := (s.account i).records + n }).2.map (·, i)) ∧
      ∀ j, (chargeAccount i c n s).account j =
        if j = i then (rateLanding (s.account i).usage { s.account i with usage := (s.account i).usage + c, records := (s.account i).records + n }).1
        else s.account j := by
  have h0 : (s.account i).kind ≠ .none := by simp [h]
  simp only [chargeAccount, h0, if_false]
  set a : Account := { s.account i with usage := (s.account i).usage + c, records := (s.account i).records + n } with ha
  have h1 := account_setAccount s i i a h0
  rw [if_pos rfl] at h1
  have ha' : a.kind = .landing := h
  have h2 : rerate i (s.account i).usage (s.setAccount i a) =
      raiseAll (rateLanding (s.account i).usage a).2 i ((s.setAccount i a).setAccount i (rateLanding (s.account i).usage a).1) := by
    unfold rerate; simp [h1, ha']
  rw [h2]
  have hn := noticesOnly_raiseAll (rateLanding (s.account i).usage a).2 i ((s.setAccount i a).setAccount i (rateLanding (s.account i).usage a).1)
  refine ⟨((accountsFrame_setAccount s i a).trans (accountsFrame_setAccount _ i _)).trans (accountsFrame_raiseAll _ _ _), fun j => ?_⟩
  rw [hn.account, account_setAccount _ i j _ (by simp [rateLanding, ha'])]
  split
  · rfl
  · rename_i hj; rw [account_setAccount s i j a h0, if_neg hj]

end Sys2Proof.Machine
end

