-- ==== Sys2Proof/Tests/Slice0.lean ====
section
/-! SUPPORT. Tests: each check of `WellFormed` refuses an ill-formed term, the manual's worked examples, and for each statement for the provers a concrete state and operands that
meet its hypotheses: a theorem `witness_X` takes statement `X`, applies it there, and so shows that every hypothesis it has is met. -/

open Sys2Proof Sys2Proof.Machine

namespace Sys2Proof.Tests

-- One theorem at a time: each theorem that is checked in parallel takes a thread with a stack of its own.
set_option Elab.async false

/-! ### A small part -/

/-- A request record's ring at address 0 with 16 requests, and an answer ring of 16 answers at 4,096. -/
def setup : RingSetup := ⟨0, 16, 4096, 16⟩

/-- An ENABLED ring right after its setup. -/
def ringOn : Ring := .enabledWith setup

/-- A STALLED ring whose answer ring is full, with one answer held and one waiting. -/
def ringStalled : Ring := { ringOn with posted := 15, state := .stalled, holder := [⟨1, 1, 0, 0, 0, 0⟩], waiting := [⟨⟨2, 1, 0, 0, 0, 0⟩, .none⟩] }

/-- A PRIMARY volume of 100 blocks of 4 KiB, with a peer. -/
def primary : VolumeDef := ⟨.primary, 4, 100, 0x100000, 0, 0, false, some 0, some 2, 0, 0⟩

/-- A REPLICA volume of 100 blocks of 4 KiB. -/
def replica : VolumeDef := ⟨.replica, 4, 100, 0x200000, 0, 0, false, none, none, 0, 0⟩

/-- A LIVE record of volume 0: blocks 10 to 13, object 7. -/
def live : Extent := ⟨0, 10, 4, 7, 0, 32, none, 1, none, false, none, none⟩

/-- An account of a kind with no limit. -/
def free (k : AccountKind) : Account := ⟨k, 16, 0, 0, 0, none, .under, false, 1⟩

/-- A snapshot of epoch 2, ACTIVE and without holds. -/
def snap : Snapshot := ⟨2, 9, 50, true, false, false, 0⟩

/-- Volume 0 is PRIMARY and ONLINE at epoch 3 with one record and one snapshot; volume 1 is REPLICA and ONLINE, empty. -/
def base : State := { State.reset with
  riu := { Riu.start with rings := Riu.start.rings.set 0 ringOn }
  etu := ⟨[live], ((Vector.replicate 16 Volume.undefined).set 0 ⟨.online, primary, some 3, none, none⟩).set 1 ⟨.online, replica, some 3, none, none⟩⟩
  qu := ⟨[(0, free .reserve), (1, free .reserve), (17, free .landing), (32, free .user), (33, free .group)], [], 100, false⟩
  su := ⟨(Vector.replicate 16 .empty).set 0 { SnapVol.empty with snaps := [snap] }⟩
  lc := { State.reset.lc with up := true, station := 99, localId := 1, etherType := 0x88B5, peers := State.reset.lc.peers.set 0 ⟨17, 1, true, false⟩ }
  ps := { State.reset.ps with safe := false } }

/-- A frame that arrives from the peer of entry 0. -/
def arrives (k : FrameKind) (d : Direction) (run recv seq arg : Nat) (payload : List Byte) : EthFrame :=
  ⟨true, 99, 17, 0x88B5, frameBytes 1 ⟨0, k, d, run, 2, recv, seq, arg, payload⟩⟩

/-- What the Link Controller hands on of that frame. -/
def inFrame (k : FrameKind) (d : Direction) (run recv seq arg : Nat) (payload : List Byte) : InFrame :=
  ⟨0, 17, ⟨k, d, 1, run, 2, recv, seq, arg⟩, payload⟩

/-- The command answers a next state. -/
def ran (c : Instr) (s : State) : Prop := ∃ t, exec c s = .next t

/-! ### Witnesses: the queue, reset, and the laws every step keeps -/

theorem witness_StepRunsTheFrontCommand (h : Obligations.StepRunsTheFrontCommand) :
    step { base with pending := [.pacerInterval] } = exec .pacerInterval base ∧ step base = .next base :=
  ⟨(h _).1 _ _ rfl, (h _).2 rfl⟩

theorem base_mem : memOk base.mem := by constructor <;> simp [base, State.reset, sparseWf]
theorem base_ps : base.ps.ok := by refine ⟨⟨rfl, by simp [base, State.reset]⟩, ⟨rfl, by simp [base, State.reset]⟩, by simp [base, State.reset]⟩
theorem ring_ok : ringStalled.ok := by
  refine ⟨by decide, by simp [ringStalled], by simp [ringStalled], fun _ => by decide +kernel⟩
theorem base_riu : base.riu.ok := by
  refine ⟨fun r => ?_, by decide, by simp [base, Riu.start], by simp [base, Riu.start], by simp [base, Riu.start], by decide⟩
  fin_cases r <;> refine ⟨by decide, by decide, by decide, by decide +kernel⟩
theorem base_qu : base.qu.ok := by
  refine ⟨by decide +kernel, ?_, by decide, by simp [base], ?_⟩
  · simp only [base, List.mem_cons, List.not_mem_nil, or_false]
    rintro e (rfl | rfl | rfl | rfl | rfl) <;> simp [Account.ok, free, kindAt, Account.above]
  · intro d i
    simp only [base, List.not_mem_nil, false_iff, not_and]
    intro h
    have : ∀ j, (sparseGet Account.none [(0, free .reserve), (1, free .reserve), (17, free .landing), (32, free .user), (33, free .group)] j).state = .under := by
      intro j; simp only [sparseGet, free, Account.none]; split_ifs <;> rfl
    rw [this] at h; cases h
theorem base_caps : base.etu.ok ∧ base.su.ok ∧ base.ru.ok ∧ base.dr.ok ∧ base.lc.ok ∧ base.ds.ok := by
  refine ⟨by simp [Etu.ok, base, Config.maxExtents], fun v => ?_, fun c => ?_, fun v => ?_, ⟨by decide, by decide⟩, by simp [Ds.ok, base, State.reset, Ds.start]⟩
  · fin_cases v <;> decide
  · fin_cases c <;> decide
  · fin_cases v <;> decide

/-- `base` with the usage that its record has, and no other: it keeps every law. -/
def lawful : State := { base with
  qu := ⟨[(0, ⟨.reserve, 0, 0, 0, 0, none, .under, false, 0⟩), (1, ⟨.reserve, 0, 0, 0, 0, none, .under, false, 0⟩), (17, ⟨.landing, 0, 0, 0, 0, none, .under, false, 0⟩), (32, free .user)], [], 100, false⟩ }


theorem lawful_rings (r : RingNo) : (lawful.ring r).waiting = [] := by revert r; decide
theorem lawful_vol (v : Vol) : lawful.vol v = if v = 0 then ⟨.online, primary, some 3, none, none⟩ else
    if v = 1 then ⟨.online, replica, some 3, none, none⟩ else Volume.undefined := by revert v; decide
theorem lawful_snap (v : Vol) : lawful.snapVol v = if v = 0 then { SnapVol.empty with snaps := [snap] } else .empty := by revert v; decide
theorem lawful_ctx (c : Ctx) : lawful.restoreCtx c = .free := by revert c; decide
theorem lawful_in (c : Ctx) : lawful.inCtx c = .free := by revert c; decide
theorem lawful_repl (v : Vol) : lawful.replVol v = .empty := by revert v; decide
theorem lawful_account (i : Nat) : lawful.account i = sparseGet Account.none lawful.qu.accounts i := rfl
theorem lawful_linked : lawful.linked := by
  have hu : lawful.dm.units = [] := rfl
  refine ⟨fun r => by simp [lawful_rings], ⟨fun _ _ => lawful_ctx _, fun c => ?_, by decide, fun c => ?_⟩, fun c => ?_, ?_, ?_, ?_⟩
  · have : lawful.ru.ctxs[c] = .free := lawful_ctx c
    simp [this, RestoreCtx.free]
  · simp [RestoreCtx.free, lawful, base, State.reset, Ru.start]
  · have : lawful.dr.ctxs[c] = .free := lawful_in c
    rw [this]; exact ⟨fun _ => rfl, fun _ i => by fin_cases i <;> rfl, by simp [InCtx.free, Slot.clear], by simp [InCtx.free]⟩
  · refine ⟨by simp [hu], by simp [hu], by simp [hu], fun c f hf => ?_, by simp [hu], fun c i hi => ?_, fun c hc => ?_⟩
    · rw [lawful_ctx] at hf; simp [RestoreCtx.free] at hf
    · rw [lawful_in] at hi; fin_cases i <;> simp [InCtx.free, Slot.clear] at hi
    · rw [lawful_in] at hc; simp [InCtx.free] at hc
  · exact ⟨by simp [hu], by intro u hu; exact absurd hu (by simp [lawful, base, State.reset, Dm.start])⟩
  · refine ⟨by decide, by decide, by simp [lawful, base, State.reset, Ds.start], by decide, by decide, fun _ => by unfold Ds.atRest; decide, by simp [lawful, base, State.reset, Ds.start]⟩
theorem lawful_snaps : lawful.snapsLawful := by
  refine ⟨fun v => ?_, fun v => ?_, fun v => ?_, ⟨fun v z hz => ?_, fun c hc => ?_, by simp [lawful, base, State.reset, Ds.start], by simp [lawful, base, State.reset, Ds.start]⟩,
    ⟨fun v g hg => ?_, by simp [lawful, base, State.reset, Ds.start]⟩, ⟨fun c d _ hc => ?_, fun c hc => ?_, fun c hc => ?_, fun v hv => ?_, fun v hv => ?_⟩, by simp [lawful, base]⟩
  · rw [lawful_vol, lawful_snap]; split_ifs <;> simp [volumeOkWith, primary, replica, SnapVol.empty, Volume.isOpen, Volume.undefined, VolumeDef.unused]
  · rw [lawful_vol, lawful_snap]; split_ifs <;> simp [snapshotsOk, SnapVol.empty, SnapVol.reserved, snap, Snapshot.held, Volume.undefined, Config.maxSnapshots]
  · rw [lawful_snap]; split_ifs <;> simp [retireOk, SnapVol.empty, snap]
  · rw [lawful_snap] at hz; split_ifs at hz <;> simp [SnapVol.empty] at hz
    subst hz; simp [snap, lawful_ctx, RestoreCtx.free, RestoreCtx.running]
  · rw [lawful_ctx] at hc; simp [RestoreCtx.free, RestoreCtx.running] at hc
  · rw [lawful_snap] at hg; split_ifs at hg <;> simp [SnapVol.empty] at hg
  · rw [lawful_in] at hc; simp [InCtx.free] at hc
  · rw [lawful_in] at hc; simp [InCtx.free] at hc
  · rw [lawful_in] at hc; simp [InCtx.free] at hc
  · rw [lawful_snap] at hv; split_ifs at hv <;> simp [SnapVol.empty] at hv
  · rw [lawful_repl] at hv; simp [ReplVol.empty] at hv
theorem lawful_records (v : Vol) : lawful.records v = if v = 0 then [live] else [] := by revert v; decide
theorem lawful_blocks : lawful.blocksLawful := by
  have hc : ∀ v, lawful.claimsOf v = [] := by intro v; simp [State.claimsOf, lawful_ctx, RestoreCtx.free]
  refine ⟨by simp [Etu.ordered, lawful, base], fun v => ?_, fun c hc => ?_, fun c d _ _ f hf => ?_, fun e he => ?_, fun v hv => ?_, fun c i => ?_, fun c i hi => ?_, fun v hv => ?_⟩
  · simp only [State.runsOf, hc, lawful_records, lawful_snap, lawful_repl]; split_ifs <;> simp [live, Extent.run, SnapVol.empty, ReplVol.empty, ReplVol.outgoing, apart]
  · rw [lawful_ctx] at hc; simp [RestoreCtx.free, RestoreCtx.running] at hc
  · rw [lawful_ctx] at hf; simp [RestoreCtx.free] at hf
  · intro hf; have he : e = live := by simpa [State.extents, lawful, base] using he
    simp [he, live] at hf
  · rw [lawful_snap] at hv; split_ifs at hv <;> simp [SnapVol.empty] at hv
  · rw [lawful_in]; fin_cases i <;> simp [InCtx.free, Slot.clear, Slot.lensOk]
  · rw [lawful_in] at hi; fin_cases i <;> simp [InCtx.free, Slot.clear] at hi
  · rw [lawful_repl] at hv; simp [ReplVol.empty] at hv
theorem lawful_epochs : lawful.epochsLawful := by
  have he : ∀ e, e ∈ lawful.extents → e = live := by intro e he; simpa [State.extents, lawful, base] using he
  refine ⟨fun e h => ?_, fun e h hd => ?_, fun v ht => ?_, fun e h m hm => ?_, fun c hc => ?_, fun v => ?_⟩
  · rw [he e h]; simp [State.recordOk, State.epochsOk, lawful_vol, live, primary]
  · rw [he e h] at hd; simp [live] at hd
  · rw [lawful_snap] at ht; split_ifs at ht <;> simp [SnapVol.empty] at ht
  · rw [he e h] at hm; simp [live] at hm
  · rw [lawful_in] at hc; simp [InCtx.free] at hc
  · rw [lawful_snap]; split_ifs <;> simp [SnapVol.empty]
theorem lawful_trims : lawful.trimsLawful := by
  intro v t ht; rw [lawful_snap] at ht; split_ifs at ht <;> simp [SnapVol.empty] at ht
theorem lawful_usage : lawful.usageLawful := by
  have he : lawful.extents = [live] := rfl
  have hl : ∀ i, lawful.charges live i = decide (i = 32) := by intro i; simp [State.charges, live, lawful_vol, primary]; congr
  have ha : ∀ i, (lawful.account i).usage = (if i = 32 then 16 else 0) ∧ (lawful.account i).records = if i = 32 then 1 else 0 := by
    intro i; by_cases h : i = 32
    · subst h; exact ⟨rfl, rfl⟩
    · rw [lawful_account]; simp only [lawful, sparseGet, free, Account.none, h, if_false]; split_ifs <;> exact ⟨rfl, rfl⟩
  refine ⟨fun i => ?_, fun i => ?_, fun e h => ?_, fun v => ?_⟩
  · have hc : lawful.chargeOf live.volume live.len = 16 := by decide
    rw [(ha i).1, he]; by_cases h : i = 32 <;> simp [hl, h, hc]
  · rw [(ha i).2, he]; by_cases h : i = 32 <;> simp [hl, h]
  · rw [he] at h; simp at h; subst h; intro _ _; simp [live]; rfl
  · revert v; decide

theorem witness_StepKeepsMemoryAndStoreForms (h : Obligations.StepKeepsMemoryAndStoreForms) : memOk base.mem ∧ base.ps.ok := h base base base_mem base_ps rfl
theorem witness_StepKeepsRingAndNoticeLaws (h : Obligations.StepKeepsRingAndNoticeLaws) : base.riu.ok := h base base base_riu rfl
theorem witness_StepKeepsAccountAndGraceLaws (h : Obligations.StepKeepsAccountAndGraceLaws) : base.qu.ok := h base base base_qu rfl
theorem witness_StepKeepsCapacities (h : Obligations.StepKeepsCapacities) : base.etu.ok :=
  (h base base base_caps.1 base_caps.2.1 base_caps.2.2.1 base_caps.2.2.2.1 base_caps.2.2.2.2.1 base_caps.2.2.2.2.2 rfl).1
theorem witness_StepKeepsWaitingLaws (h : Obligations.StepKeepsWaitingLaws) : lawful.linked := h lawful lawful base_riu lawful_linked rfl
theorem witness_StepKeepsSnapshotLaws (h : Obligations.StepKeepsSnapshotLaws) : lawful.snapsLawful :=
  h lawful lawful base_riu lawful_linked lawful_snaps rfl
theorem witness_StepKeepsBlockLaws (h : Obligations.StepKeepsBlockLaws) : lawful.blocksLawful :=
  h lawful lawful base_riu lawful_linked lawful_snaps lawful_blocks rfl
theorem witness_StepKeepsEpochLaws (h : Obligations.StepKeepsEpochLaws) : lawful.epochsLawful ∧ lawful.trimsLawful :=
  have t := h lawful lawful base_riu lawful_linked lawful_snaps lawful_blocks lawful_epochs rfl
  ⟨t.1, t.2 (fun v _ => by rw [lawful_snap]; split_ifs <;> rfl) lawful_trims⟩
theorem witness_StepKeepsUsageLaws (h : Obligations.StepKeepsUsageLaws) : lawful.usageLawful :=
  h lawful lawful base_riu lawful_linked lawful_snaps lawful_blocks lawful_epochs lawful_usage rfl
theorem witness_StoreChangesOnlyByItsOwnCommands (h : Obligations.StoreChangesOnlyByItsOwnCommands) : base.ps.safe = base.ps.safe ∨ Instr.formatEnd = .formatEnd ∨ ∃ b n, Instr.formatEnd = .coldStart b n :=
  (h .formatEnd base base rfl).2.1

/-! ### Witnesses: records and frames -/

theorem witness_RequestRecordReadsBack (h : Obligations.RequestRecordReadsBack) : (requestBytes 5 (.charge ⟨1, 2, 3, 4, 5, 32, some 33⟩)).length = 64 :=
  (h 5 _ (by decide) (by decide)).1

theorem witness_SentFrameArrivesWhole (h : Obligations.SentFrameArrivesWhole) :
    base.arrival (arrives .batchData .forward 5 1 3 0 [1, 2, 3, 4]) = .pass (inFrame .batchData .forward 5 1 3 0 [1, 2, 3, 4]) ∧
      readHead (headArg [⟨1, 4096, 7, 0, 32, some 33, 2⟩] [⟨9, 3⟩]) (headPayload [⟨1, 4096, 7, 0, 32, some 33, 2⟩] [⟨9, 3⟩]) =
        ([⟨1, 4096, 7, 0, 32, some 33, 2⟩], [⟨9, 3⟩]) :=
  ⟨h.1 base 0 17 1 ⟨0, .batchData, .forward, 5, 2, 1, 3, 0, [1, 2, 3, 4]⟩ (List.replicate 18 0) rfl rfl rfl rfl (by intro j hj; exact absurd hj (by simp))
    rfl rfl rfl (by decide) (by decide) (by decide) (by decide) (by decide) (by decide) (by decide) (by decide),
   (h.2 _ _ (by decide) (by decide) (by simp) (by simp)).2⟩

theorem witness_DigestAndHeaderCheckAreEndAroundSums (h : Obligations.DigestAndHeaderCheckAreEndAroundSums) :
    digestFeed 0 ([1, 2, 3, 4] ++ [5]) = digestFeed (digestFeed 0 [1, 2, 3, 4]) [5] ∧ checkAdd 65535 65535 < 65536 ∧
      ran (.frameRejected ⟨true, 99, 17, 0x88B5, 1 :: List.replicate 45 0⟩) base ∧ ran (.frameRejected ⟨true, 99, 17, 0x88B5, [0, 0, 0, 0, 1, 0, 0, 0]⟩) base ∧
      ran (.frameRejected ⟨true, 99, 17, 0x88B5, [0, 0, 0, 0, 0, 0, 0, 0]⟩) base ∧ ran (.frameRejected ⟨true, 99, 17, 0x88B5, [0, 0, 0, 0, 1, 0, 0]⟩) base ∧
      ran (.frameRejected ⟨true, 99, 17, 0x88B5, headerWith 1 1 ⟨0, .accept, .backward, 5, 2, 1, 3, 0, []⟩⟩) base ∧ ran (.frameRejected ⟨true, 99, 16, 0x88B5, []⟩) base := by
  obtain ⟨-, -, -, -, -, h1, h2, h3, h4⟩ := h
  have ids : ∀ j : Ctx, base.lc.peers[j].enabled = true → base.lc.peers[j].id = 1 := by decide
  have none : ∀ (f : EthFrame), field f.payload 4 4 ≠ 1 ∨ f.payload.length < 8 → ∀ j : Ctx, base.lc.peers[j].enabled = true → base.lc.peers[j].address = f.src →
      (0 : Ctx) ≤ j ∧ (f.payload.length < 8 ∨ base.lc.peers[j].id ≠ field f.payload 4 4) := by
    intro f hf j e _
    rw [ids j e]; exact ⟨Fin.zero_le _, hf.symm.imp_right Ne.symm⟩
  refine ⟨h1 0 [1, 2, 3, 4] [5] rfl, (h2 _ _ (by decide) (by decide)).1, ⟨_, h3 base _ 0 rfl (by decide) (by decide) (.inr (none _ (by decide +kernel))) (.inr (by decide +kernel))⟩,
    ⟨_, h3 base _ 0 rfl (by decide) (by decide) (.inl ⟨by decide, by decide +kernel, by intro j hj; exact absurd hj (by simp)⟩) (.inl (by decide))⟩,
    ⟨_, h3 base _ 0 rfl (by decide) (by decide) (.inr (none _ (by decide +kernel))) (.inl (by decide))⟩,
    ⟨_, h3 base _ 0 rfl (by decide) (by decide) (.inr (none _ (by decide +kernel))) (.inl (by decide))⟩,
    ⟨_, h3 base _ 0 rfl (by decide +kernel) (by decide +kernel) (.inl ⟨by decide +kernel, by decide +kernel, by intro j hj; exact absurd hj (by simp)⟩) (.inr (by decide +kernel))⟩,
    ⟨_, h4 base _ (by decide)⟩⟩

/-! ### Witnesses: answers, rings and notices -/

/-- Ring 0 of `base` replaced. -/
def withRing (g : Ring) : State := base.setRing 0 g

theorem witness_AnswersAreWrittenHeldOrWait (h : Obligations.AnswersAreWrittenHeldOrWait) (x : Answer) :
    writeAnswer 0 x base = writeAnswer 0 x base ∧ answerDue 1 x .none base = (base, true) ∧ answerDue 0 x .none base = (writeAnswer 0 x base, true) ∧
      answerDue 0 x .none (withRing { ringOn with posted := 15 }) = ((withRing { ringOn with posted := 15 }).setRing 0 { ringOn with posted := 15, holder := [x] }, true) ∧
      answerDue 0 x .none (withRing ringStalled) = ((withRing ringStalled).setRing 0 { ringStalled with waiting := ringStalled.waiting ++ [⟨x, .none⟩] }, false) ∧
      answerDue 0 x .none (withRing { ringStalled with waiting := [] }) =
        ((withRing { ringStalled with waiting := [] }).setRing 0 { ringStalled with waiting := [], holder := ringStalled.holder ++ [x] }, true) ∧
      answerDue 0 x .none (withRing { ringOn with holder := [x, x] }) =
        ((withRing { ringOn with holder := [x, x] }).setRing 0 { ringOn with holder := [x, x], waiting := [⟨x, .none⟩], state := .stalled, stallSeen := true }, false) :=
  ⟨(h.1 base 0 x base_mem (by decide)).elim fun _ ht => rfl, (h.2 base 1 x .none).1 (.inl rfl), (h.2 base 0 x .none).2.2.2.1 rfl (by decide) (by decide) rfl,
    (h.2 _ 0 x .none).2.2.2.2.1 rfl (by decide) (.inl (by decide)), (h.2 _ 0 x .none).2.1 rfl (.inl (by decide)), (h.2 _ 0 x .none).2.2.1 rfl rfl (by decide),
    (h.2 _ 0 x .none).2.2.2.2.2 rfl rfl⟩

/-- The notice set holds one notice, or as many as it can. -/
def noticed (n : Nat) : State := base.setRiu { base.riu with notices := (List.range n).map fun i => ⟨.softCrossed, i, 0, 65535⟩ }

theorem witness_NoticesMergeAndPostOldestFirst (h : Obligations.NoticesMergeAndPostOldestFirst) :
    (raise .softCrossed 0 0 (noticed 1)).riu.notices = [⟨.softCrossed, 0, 0, 65535⟩] ∧ (raise .softCrossed 1 0 (noticed 1)).riu.notices.length = 2 ∧
      (raise .softCrossed 64 0 (noticed 64)).riu.lost = 1 ∧ ran .noticePost (noticed 1) ∧
      ran .noticePost (base.setRiu { base.riu with overflow := true, lost := 3 }) ∧ exec .noticePost State.reset = .next State.reset := by
  refine ⟨?_, ?_, ?_, ⟨_, (h.2 (noticed 1)).1 rfl rfl rfl rfl |>.2 rfl _ _ rfl⟩, ⟨_, ((h.2 _).1 rfl rfl rfl rfl).1 rfl⟩, (h.2 _).2 (.inl (by decide))⟩
  · rw [(h.1 _ _ _ _).1 (by decide)]; decide
  · rw [(h.1 _ _ _ _).2.1 (by decide) (by decide)]; decide
  · rw [(h.1 _ _ _ _).2.2 (by decide +kernel) (by decide +kernel)]; rfl

/-- A ring with its setup values written, before its setup act. -/
def ringStored : Ring := { Ring.off with stored := { setup with ansSize := 0 } }

theorem witness_RingsAreSetUpDrainedAndDiscarded (h : Obligations.RingsAreSetUpDrainedAndDiscarded) :
    ran (.ringSetup 0 16) (withRing ringStored) ∧ ran (.ringSetup 0 4096) (withRing ringStored) ∧ ran (.ringSetup 0 8192) (withRing ringStored) ∧ ran (.ringSetup 0 16) base ∧
      ran (.answerConsumedWrite 0 15) (withRing ringStalled) ∧ ran (.ringDisable 0) (withRing ringStalled) ∧
      ran (.ringDisable 0) (withRing { ringStalled with waiting := [⟨⟨2, 1, 0, 0, 0, 0⟩, .restoreEnd 3⟩] }) := by
  refine ⟨⟨_, ((h.1 _ 0 16).1 (.inl rfl)).1 ⟨⟨4, by decide⟩, ⟨4, by decide⟩, by decide⟩⟩, ⟨_, ((h.1 _ 0 4096).1 (.inl rfl)).1 ⟨⟨4, by decide⟩, ⟨12, by decide⟩, by decide⟩⟩,
    ⟨_, ((h.1 _ 0 8192).1 (.inl rfl)).2 ?_⟩, ⟨_, (h.1 _ 0 16).2 (.inl rfl)⟩,
    ⟨_, h.2.1 _ 0 15 ring_ok rfl (by decide) (by decide) (by decide)⟩, ⟨_, (h.2.2 _ 0).1 (by decide)⟩, ⟨_, (h.2.2 _ 0).2 _ 3 rfl⟩⟩
  rintro ⟨-, ⟨i, h1, h2, h3⟩, -⟩
  interval_cases i <;> omega

theorem witness_PointerWritesAreCheckedAndStored (h : Obligations.PointerWritesAreCheckedAndStored) :
    ran (.requestTailWrite 1 0) base ∧ ran (.requestTailWrite 0 15) base ∧ ran (.answerConsumedWrite 0 15) base ∧ ran (.requestTailWrite 0 16) base ∧
      ran (.answerConsumedWrite 0 16) base ∧ ran (.requestTailWrite 0 16) (withRing { ringOn with state := .faulted }) ∧ ran (.stallSeenClear 0 1) base ∧
      ran (.stallSeenClear 0 0) base ∧ ran (.registerWrite 0x110 16) base ∧ ran (.registerWrite 0xFF 0) base ∧ ran (.registerWrite 0x200 0) base :=
  ⟨⟨_, ((h base 1 0).1 rfl).1⟩, ⟨_, (h base 0 15).2.1 (by decide) (by decide)⟩, ⟨_, (h base 0 15).2.2.1 (by decide) (by decide) rfl rfl (by decide)⟩,
    ⟨_, ((h base 0 16).2.2.2.1 (.inl rfl) rfl).1 (by decide)⟩, ⟨_, ((h base 0 16).2.2.2.1 (.inl rfl) rfl).2 (by decide)⟩,
    ⟨_, (h (withRing { ringOn with state := .faulted }) 0 16).2.2.2.2.1 rfl (by decide)⟩, ⟨_, (h base 0 1).2.2.2.2.2.1 rfl⟩, ⟨_, (h base 0 0).2.2.2.2.2.2.1 rfl⟩,
    ⟨_, (h base 0 16).2.2.2.2.2.2.2.2.2.1 (by decide)⟩, ⟨_, (h base 0 0).2.2.2.2.2.2.2.2.2.2.2.2.2.2.2 _ (.inl (by decide))⟩,
    ⟨_, (h base 0 0).2.2.2.2.2.2.2.2.2.2.2.2.2.2.2 _ (.inr (by decide))⟩⟩

theorem witness_IntakeTakesTheRecordAtTheHead (h : Obligations.IntakeTakesTheRecordAtTheHead) :
    ran (.requestIntake 0) (withRing { ringOn with tail := 0, head := 15 }) ∧ ran (.requestIntake 0) ((withRing { ringOn with tail := 1 }).writeBytes 0 (requestBytes 7 (.queryVolume 0))) ∧
      ran (.requestIntake 0) base ∧ exec (.queryVolume 0 7 0) base = .next (handOver 0 7 (.queryVolume 0) base) ∧ ran (.unknownRequest 0 7 0xFE) base := by
  refine ⟨?_, ?_, ⟨_, h.2.1 base 0 (.inr (.inl rfl)) (by decide)⟩, h.2.2.1 _ _ _ _ _ rfl (by simp) (by simp), ⟨_, h.2.2.2 base 0 7 0xFE (by decide)⟩⟩
  · obtain ⟨t, -, -, h2⟩ := h.1 (withRing { ringOn with tail := 0, head := 15 }) 0 _ rfl (by decide) (by decide) rfl (by intro v t; fin_cases v <;> simp [withRing, base, SnapVol.empty, State.snapVol]) rfl
    exact ⟨_, h2 (by decide +kernel)⟩
  · obtain ⟨t, -, h2, -⟩ := h.1 ((withRing { ringOn with tail := 1 }).writeBytes 0 (requestBytes 7 (.queryVolume 0))) 0 _ rfl (by decide) (by decide) rfl
      (by intro v t; fin_cases v <;> simp [withRing, base, SnapVol.empty, State.snapVol, State.writeBytes]) rfl
    exact ⟨_, h2 _ (show _ = some (.queryVolume 0) by decide +kernel)⟩

theorem witness_GateRefusalsAnswerAndChangeNothing (h : Obligations.GateRefusalsAnswerAndChangeNothing) :
    ran (.sealVolume 0 7 16) base ∧ ran (.sealVolume 0 7 15) State.reset ∧ ran (.sealVolume 0 7 15) (base.setPs { base.ps with format := some ⟨none, 0, 0⟩ }) :=
  ⟨⟨_, (h _ base 0 7 _ rfl).1 rfl⟩, ⟨_, (h _ State.reset 0 7 _ rfl).2.1 rfl rfl rfl⟩, ⟨_, (h _ (base.setPs { base.ps with format := some ⟨none, 0, 0⟩ }) 0 7 _ rfl).2.2 rfl rfl rfl rfl⟩⟩

/-! ### Witnesses: extents and volumes -/

theorem base_up : base.up := ⟨rfl, rfl⟩

/-- A charge of the last block of volume 0. -/
def lastBlock : ChargeParams := ⟨0, 99, 1, 8, 0, 32, some 33⟩

theorem witness_ChargeAddsALiveRecord (h : Obligations.ChargeAddsALiveRecord) : ran (.charge 0 7 lastBlock) base := by
  obtain ⟨u, e, -⟩ := h base 0 7 lastBlock 0 base_up (by decide) rfl rfl rfl (by decide) rfl (by rintro g ⟨⟩; rfl) (by decide +kernel) (by decide)
    (by rintro i (rfl | hi); exacts [.inl rfl, by cases hi; exact .inl rfl])
  exact ⟨_, e⟩

/-- `base` with an erase of a page of the store under way. -/
def committingPage (page : Nat) : State := base.setPs { base.ps with commit := some ⟨page, .erase, some (0, 9)⟩ }

theorem witness_RequestsAreRefusedInTheirOrder (h : Obligations.RequestsAreRefusedInTheirOrder) :
    ran (.charge 0 7 { lastBlock with len := 2 }) base ∧
      ran (.charge 0 7 lastBlock) (base.setAccount 33 { free .group with hard := 19 }) ∧ ran (.split 0 7 ⟨0, 11, 1⟩) base ∧ ran (.split 0 7 ⟨0, 10, 4⟩) base ∧ ran (.drop 0 7 ⟨1, 10⟩) base ∧
      ran (.loadSnapshot 0 7 ⟨0, 4, 9, 0, false⟩) base ∧ ran (.loadExtent 0 7 ⟨lastBlock, 2, none, none⟩) base ∧ ran (.openVolume 0 7 ⟨2, 9⟩) base ∧ ran (.sealVolume 0 7 2) base ∧
      ran (.snapshotCreate 0 7 ⟨0, 9⟩) base ∧ ran (.snapshotRetire 0 7 ⟨0, 8⟩) base ∧ ran (.takeReleased (.request 0 7 ⟨15, 0, 1⟩)) base ∧
      ran (.restore 0 7 ⟨0, 8, 7, 0, 1, 1, 0, 32, none, 0, 1, false, false⟩ [⟨20, 0⟩]) base ∧ ran (.restore 0 7 ⟨0, 9, 7, 0, 1, 1, 0, 33, none, 0, 1, false, false⟩ [⟨20, 1⟩]) base ∧
      ran (.restore 0 7 ⟨0, 9, 7, 0, 2, 1, 0, 32, none, 0, 1, false, false⟩ [⟨100, 1⟩]) base ∧ ran (.probe 0 7 ⟨0, 8, 7, 0, 1, 0, 1, false⟩) base ∧
      ran (.runStart 0 7 ⟨0, 9, false, false⟩) (base.setFaultRec .ship { FaultRec.clear with fault := true }) ∧
      ran (.giveRuns 0 7 ⟨1, 0, 2⟩ [⟨20, 2⟩, ⟨21, 1⟩]) base ∧ ran (.replicaReset 0 7 0) base ∧
      (ran (.queryExtent 0 7 ⟨0, 14, 8192⟩) base ∧ ran (.scanOut 0 7 (.request ⟨2, 3, 8192, 1, 0⟩)) base ∧ ran (.setLimit 0 7 ⟨34, 0, 0, 0, false⟩) base ∧
        ran (.loadAccount 0 7 ⟨32, 2, 0, 0, 0, false, none⟩) base ∧ ran (.dropAccount 0 7 32) base ∧ ran (.queryInbound 0 7 2) base ∧ ran (.storeVerify 0 7) (committingPage 22) ∧
        ran (.storeRead 0 7 ⟨22, 8192⟩) (committingPage 22)) := by
  obtain ⟨h1, h2, h3, h4, h5, h6, h7, h8, h9, h10, h11, h12, h13, h14, h15, -⟩ := h base 0 7 0x24 0 base_up
  refine ⟨⟨_, (h1 { lastBlock with len := 2 } (by decide) rfl).1 (by decide +kernel)⟩,
    ⟨_, ((h (base.setAccount 33 { free .group with hard := 19 }) 0 7 0 0 base_up).1 lastBlock (by decide) rfl).2 (by decide +kernel) ⟨.hardLimit, 33, 2⟩ (by decide +kernel)⟩,
    ⟨_, (h base 0 7 0x2C 0 base_up).2.1 ⟨0, 11, 1⟩ (by decide) rfl (by decide +kernel)⟩, ⟨_, h2 ⟨0, 10, 4⟩ (by decide) rfl (by decide +kernel)⟩,
    ⟨_, (h base 0 7 0x22 1 base_up).2.2.1 ⟨1, 10⟩ (by decide) rfl (by decide +kernel)⟩, ⟨_, (h base 0 7 0x23 0 base_up).2.2.2.1 _ (by decide) rfl (by decide +kernel)⟩,
    ⟨_, (h base 0 7 0x23 0 base_up).2.2.2.2.1 ⟨lastBlock, 2, none, none⟩ (by decide) rfl (by decide +kernel)⟩,
    ⟨_, (h base 0 7 0x21 2 base_up).2.2.2.2.2.1 ⟨2, 9⟩ (by decide) rfl (by decide +kernel)⟩, ⟨_, ((h base 0 7 0x21 2 base_up).2.2.2.2.2.2.1 (by decide +kernel)).1⟩,
    ⟨_, (h base 0 7 0x2F 0 base_up).2.2.2.2.2.2.2.1 ⟨0, 9⟩ rfl (by decide +kernel)⟩, ⟨_, (h base 0 7 0x34 0 base_up).2.2.2.2.2.2.2.2.1 ⟨0, 8⟩ rfl (by decide +kernel)⟩,
    ⟨_, (h base 0 7 0x21 15 base_up).2.2.2.2.2.2.2.2.2.1 ⟨15, 0, 1⟩ (by decide) rfl (by decide +kernel)⟩, ?_, ?_, ?_,
    ⟨_, (h base 0 7 0x34 0 base_up).2.2.2.2.2.2.2.2.2.2.2.1 _ (by decide) rfl (by decide +kernel)⟩,
    ⟨_, (h (base.setFaultRec .ship { FaultRec.clear with fault := true }) 0 7 0x38 0 base_up).2.2.2.2.2.2.2.2.2.2.2.2.1 _ rfl (by decide +kernel)⟩,
    ⟨_, (h base 0 7 0x28 1 base_up).2.2.2.2.2.2.2.2.2.2.2.2.2.1 ⟨1, 0, 2⟩ _ (by decide) rfl (by decide +kernel)⟩,
    ⟨_, (h base 0 7 0x22 0 base_up).2.2.2.2.2.2.2.2.2.2.2.2.2.2.1 (by decide +kernel)⟩, ?_⟩
  · exact ⟨_, ((h base 0 7 0x20 0 base_up).2.2.2.2.2.2.2.2.2.2.1 _ [⟨20, 0⟩] (by decide) rfl).1 (by decide +kernel)⟩
  · exact ⟨_, ((h base 0 7 0x20 0 base_up).2.2.2.2.2.2.2.2.2.2.1 _ [⟨20, 1⟩] (by decide) rfl).2.1 (by decide +kernel) (by decide +kernel)⟩
  · exact ⟨_, ((h base 0 7 0x36 0 base_up).2.2.2.2.2.2.2.2.2.2.1 _ [⟨100, 1⟩] (by decide) rfl).2.2 (by decide +kernel) (by decide +kernel) (by decide +kernel)⟩
  · have g (s : State) (hs : s.up) (n : Nat) (v : Vol) := (h s 0 7 n v hs).2.2.2.2.2.2.2.2.2.2.2.2.2.2.2
    refine ⟨⟨_, (g base base_up 0x2C 0).1 _ rfl (by decide +kernel)⟩, ⟨_, (g base base_up 0x21 2).2.1 _ (by decide) rfl (.inr rfl) (by decide +kernel)⟩,
      ⟨_, (g base base_up 0x26 0).2.2.1 _ (by decide) (by decide +kernel)⟩, ⟨_, (g base base_up 0x27 0).2.2.2.1 _ .group (by decide) (by decide) (by decide +kernel)⟩,
      ⟨_, (g base base_up 0x27 0).2.2.2.2.1 32 (by decide) (by decide +kernel)⟩, ⟨_, (g base base_up 0x21 2).2.2.2.2.2.1 (by decide +kernel)⟩,
      ⟨_, (g (committingPage 22) ⟨rfl, rfl⟩ 0x37 0).2.2.2.2.2.2.1 rfl⟩, ⟨_, (g (committingPage 22) ⟨rfl, rfl⟩ 0x37 0).2.2.2.2.2.2.2.1 _ (by decide) (by decide +kernel)⟩⟩

theorem witness_SplitCutsARecordInTwo (h : Obligations.SplitCutsARecordInTwo) : ran (.split 0 7 ⟨0, 10, 3⟩) base := by
  obtain ⟨u, e, -⟩ := h base 0 7 ⟨0, 10, 3⟩ 0 live base_up rfl rfl rfl (by decide +kernel) (by decide) (by decide) rfl rfl (by decide) rfl (by rintro g ⟨⟩)
  exact ⟨_, e⟩

theorem witness_DropHoldsOrRemoves (h : Obligations.DropHoldsOrRemoves) : ran (.drop 0 7 ⟨0, 10⟩) base ∧ ran (.drop 0 7 ⟨0, 10⟩) (base.setSnapVol 0 .empty) := by
  constructor
  · obtain ⟨m, e, -⟩ := (h base 0 7 ⟨0, 10⟩ 0 live 3 16 base_up rfl rfl rfl rfl (by decide +kernel) rfl rfl rfl (by rintro g ⟨⟩) rfl rfl).1
      ⟨snap, by decide +kernel, by decide⟩ _ rfl
    exact ⟨_, e⟩
  · obtain ⟨u, e, -⟩ := (h (base.setSnapVol 0 .empty) 0 7 ⟨0, 10⟩ 0 live 3 16 base_up rfl rfl rfl rfl (by decide +kernel) rfl rfl rfl (by rintro g ⟨⟩) rfl rfl).2
      (by decide +kernel)
    exact ⟨_, e⟩

/-- `base` with a SCAN_OUT of ring 0 under way that has written one record. -/
def exporting (w : ScanWhat) (key max : Nat) : State := base.setScan 0 (some ⟨7, 0, w, 8192, max, key, 1⟩)

theorem witness_BufferQueriesWriteTheirRecords (h : Obligations.BufferQueriesWriteTheirRecords) :
    (base.writeBytes (2 ^ 64 - 2) [1, 2]).readBytes (2 ^ 64 - 2) 2 = [1, 2] ∧ ran (.queryExtent 0 7 ⟨0, 13, 8192⟩) base ∧ ran (.queryAccount 0 7 ⟨262143, 8192⟩) base ∧
      ran (.scanOut 0 7 (.request ⟨0, 1, 8192, 4096, 10⟩)) base ∧ ran (.scanOut 0 7 (.request ⟨255, 2, 8192, 1, 1⟩)) base ∧ ran (.scanOut 0 0 .goOn) base ∧
      ran (.scanOut 0 0 .goOn) (exporting .extents 10 2) ∧ ran (.scanOut 0 0 .goOn) (exporting .accounts 18 2) ∧ ran (.scanOut 0 0 .goOn) (exporting .snapshots 2 2) ∧
      ran (.scanOut 0 0 .goOn) (exporting .snapshots 3 2) ∧ ran (.scanOut 0 0 .goOn) (exporting .extents 10 1) ∧ ran (.storeRead 0 7 ⟨64, 8192⟩) base := by
  obtain ⟨h1, h2, h3, h4, h5, h6⟩ := h.2 base 0 7 0
  have g (w : ScanWhat) (key max : Nat) := (h.2 (exporting w key max) 0 7 0).2.2.2.2.1 _ _ rfl rfl
  exact ⟨(h.1 base _ _ base_mem (by decide)).1, ⟨_, h1 _ live rfl (by decide) (by decide +kernel)⟩, ⟨_, h2 ⟨262143, 8192⟩ (by decide)⟩,
    ⟨_, h3 ⟨0, 1, 8192, 4096, 10⟩ .extents (by decide) (by decide) (by decide) (fun _ => rfl) base_up (by decide)⟩,
    ⟨_, h3 ⟨255, 2, 8192, 1, 1⟩ .accounts (by decide) (by decide) (by decide) (by decide) base_up (by decide)⟩, ⟨_, h4 rfl⟩,
    ⟨_, ((g .extents 10 2).1 (by decide)).1 live rfl (by decide +kernel)⟩, ⟨_, ((g .accounts 18 2).1 (by decide)).2.1 (32, free .user) rfl (by decide +kernel)⟩,
    ⟨_, ((g .snapshots 2 2).1 (by decide)).2.2 snap rfl (by decide +kernel)⟩, ⟨_, (g .snapshots 3 2).2 (.inr (by decide +kernel))⟩,
    ⟨_, (g .extents 10 1).2 (.inl (by decide))⟩, ⟨_, h6 ⟨64, 8192⟩ (by decide) (by rintro c ⟨⟩)⟩⟩

/-- The active outbound run of volume 0, which ships its changes above epoch 1 up to the snapshot of epoch 2. -/
def run : OutRun := ⟨5, 0, 0, 7, 9, false, false, 1, some 2, some ⟨17, 1, 2⟩, .shipping, true, 0, none, true, 0, 1, ⟨0, 0, 0, 0⟩, 0, none⟩

/-- `base` with that run active. -/
def running (x : OutRun) : State := base.setDs { base.ds with active := some x }

/-- An inbound run of the peer of entry 0 on volume 1. -/
def inbound : InCtx := ⟨.open, 1, 5, 0, 1, 17, 2, 1, 3, 1, 0, Vector.replicate 2 .clear, none, none, none, 0, false⟩

/-- `base` with an inbound context. -/
def receiving (x : InCtx) : State := base.setInCtx 0 x

theorem witness_WordQueriesReportTheState (h : Obligations.WordQueriesReportTheState) :
    ran (.queryRun 0 7 0) (running run) ∧ ran (.queryRun 0 7 1) ((running run).setDs { (running run).ds with queue := [⟨1, 0, 7, 0, false, false⟩] }) ∧ ran (.queryRun 0 7 15) base ∧
      ran (.queryInbound 0 7 0) base ∧ ran (.queryInbound 0 7 1) (receiving inbound) ∧ ran (.queryMover 0 7 3) (running run) :=
  ⟨⟨_, (h (running run) 0 7 0).2.2.1 run rfl rfl⟩,
    ⟨_, ((h ((running run).setDs { (running run).ds with queue := [⟨1, 0, 7, 0, false, false⟩] }) 0 7 1).2.2.2.1 (by rintro x ⟨⟩; decide)).1 [] _ [] rfl rfl (by simp)⟩,
    ⟨_, ((h base 0 7 15).2.2.2.1 (by rintro x ⟨⟩)).2 (by rintro x ⟨⟩)⟩, ⟨_, ((h base 0 7 0).2.2.2.2.1 (by decide)).1 (by decide +kernel)⟩,
    ⟨_, ((h (receiving inbound) 0 7 1).2.2.2.2.1 (by decide)).2 0 (by decide +kernel) (by decide +kernel) (by decide)⟩,
    ⟨_, (h (running run) 0 7 0).2.1 3 _ rfl⟩⟩

/-- Volume 0 in DEFINED state, with the greatest epoch seen. -/
def defined (d : VolumeDef) (seen : Option Nat) : State := (base.setVol 0 ⟨.defined, d, none, none, seen⟩).setExtents []

theorem witness_VolumesAreLoadedOpenedAndSealed (h : Obligations.VolumesAreLoadedOpenedAndSealed) :
    ran (.loadSnapshot 0 7 ⟨0, 4294967294, 8, 0, false⟩) (defined primary none) ∧ ran (.loadSnapshot 0 7 ⟨0, 1, 8, 0, true⟩) (defined primary (some 9)) ∧
      ran (.openVolume 0 7 ⟨0, 10⟩) (defined primary (some 9)) ∧ ran (.sealVolume 0 7 0) base ∧ ran (.unsealVolume 0 7 0) (base.setVol 0 ⟨.sealed, primary, some 3, none, none⟩) := by
  obtain ⟨m, u, e, -⟩ := ((h (defined primary (some 9)) 0 7 0 base_up).1 ⟨0, 1, 8, 0, true⟩ rfl rfl (by decide) (by decide) (by decide +kernel) (by decide)).2 rfl
  exact ⟨⟨_, ((h (defined primary none) 0 7 0 base_up).1 ⟨0, 4294967294, 8, 0, false⟩ rfl rfl (by decide) (by decide) (by decide +kernel) (by decide)).1 rfl⟩, ⟨_, e⟩,
    ⟨_, (h (defined primary (some 9)) 0 7 0 base_up).2.1 ⟨0, 10⟩ rfl rfl (by decide) (by rintro m ⟨⟩; decide)⟩, ⟨_, ((h base 0 7 0 base_up).2.2 (.inl rfl)).1⟩,
    ⟨_, ((h (base.setVol 0 ⟨.sealed, primary, some 3, none, none⟩) 0 7 0 base_up).2.2 (.inr rfl)).2⟩⟩

/-- A LOAD_EXTENT of the last block of volume 0. -/
def loadLast (death source : Option Nat) : LoadExtentParams := ⟨lastBlock, 2, death, source⟩

theorem witness_LoadExtentAddsTheRecordGiven (h : Obligations.LoadExtentAddsTheRecordGiven) :
    ran (.loadExtent 0 7 (loadLast none none)) (defined primary none) ∧
      ran (.loadExtent 0 7 (loadLast none (some 0))) ((defined { replica with blockCount := 100 } none).setAccount 16 (free .landing)) ∧
      ran (.loadExtent 0 7 (loadLast (some 3) none)) (defined primary none) := by
  have h1 := h (defined primary none) 0 7 (loadLast none none) 0 4 _ base_up (by decide) rfl rfl (by decide) (by decide +kernel) (by decide) rfl rfl
  have h2 := h ((defined { replica with blockCount := 100 } none).setAccount 16 (free .landing)) 0 7 (loadLast none (some 0)) 0 4 _ base_up (by decide) rfl rfl (by decide) (by decide +kernel)
    (by decide) rfl rfl
  have h3 := h (defined primary none) 0 7 (loadLast (some 3) none) 0 4 _ base_up (by decide) rfl rfl (by decide) (by decide +kernel) (by decide) rfl rfl
  obtain ⟨u1, e1, -⟩ := h1.1 rfl rfl rfl (by rintro g ⟨⟩; rfl)
  obtain ⟨u2, e2, -⟩ := h2.2.1 rfl (by decide) rfl (by decide +kernel)
  obtain ⟨m3, e3, -⟩ := h3.2.2 (.inl rfl) rfl 3 rfl ⟨snap, by decide +kernel, by decide⟩ _ rfl
  exact ⟨⟨_, e1⟩, ⟨_, e2⟩, ⟨_, e3⟩⟩

/-! ### Witnesses: accounts and the clock -/

/-- A USER account with the limit of 2.14's example, 10,240 KiB at margin code 2. -/
def limited (usage : Nat) (st : AccountState) (d : Option Nat) (grace : Nat) : Account := ⟨.user, usage, 10240, 2, grace, d, st, false, 1⟩

theorem witness_ThresholdsDecisionsAndReRating (h : Obligations.ThresholdsDecisionsAndReRating) :
    ((limited 0 .under none 0).soft = 9216 ∧ (limited 0 .under none 0).leave = 8960 ∧ chargeDecision (limited 10239 .under none 0) 1 = none ∧
      chargeDecision (limited 10240 .under none 0) 1 = some .hardLimit ∧ chargeDecision (limited 9000 .expired (some 5) 0) 1 = some .graceExpired ∧
      twoAccountDecision base 32 (some 33) 4 = none ∧ twoAccountDecision (base.setAccount 32 (limited 10240 .under none 0)) 32 none 1 = some ⟨.hardLimit, 32, 1⟩ ∧
      twoAccountDecision (base.setAccount 33 (limited 10240 .under none 0)) 32 (some 33) 1 = some ⟨.hardLimit, 33, 2⟩) ∧
    rateUser 100 (limited 8960 .grace (some 200) 60) = (limited 8960 .under none 60, []) ∧
      rateUser 100 (limited 10241 .grace (some 200) 60) = (limited 10241 .overHard (some 200) 60, [.hardExceeded]) ∧
      rateUser 100 (limited 8961 .grace (some 200) 60) = (limited 8961 .grace (some 200) 60, []) ∧
      rateUser 100 (limited 9216 .under none 60) = (limited 9216 .under none 60, []) ∧
      rateUser 100 (limited 9217 .under none 60) = (limited 9217 .grace (some 160) 60, [.softCrossed]) ∧
      rateUser 100 (limited 9217 .under none 0) = (limited 9217 .expired (some 100) 0, [.softCrossed, .graceExpired]) ∧
      rateUser 100 (limited 10240 .overHard (some 101) 60) = (limited 10240 .grace (some 101) 60, []) ∧
      rateUser 100 (limited 8961 .overHard (some 100) 60) = (limited 8961 .expired (some 100) 60, [.graceExpired]) := by
  obtain ⟨h1, h2, h3, h4⟩ := h
  have t := h1 (limited 0 .under none 0) 100 (by decide)
  refine ⟨⟨t.1, t.2.1, (h2 _ 1).2.2.2 (by decide) (by decide) (.inl (by decide)), (h2 _ 1).2.1 (by decide) (by decide),
    (h2 _ 1).2.2.1 (by decide) (by decide) rfl rfl, ?_, ?_, ?_⟩, (h4 100 _).1 (.inr (by decide)), (h4 100 (limited 10241 .grace (some 200) 60)).2.1 (by decide) (by decide),
    (h4 100 _).2.2.1 (by decide) (by decide) (by decide) (.inl rfl), (h4 100 (limited 9216 .under none 60)).2.2.2.1 (by decide) (by decide) (by decide) rfl,
    ((h4 100 (limited 9217 .under none 60)).2.2.2.2.1 (by decide) (by decide) (.inl ⟨rfl, by decide⟩)).2 (by decide),
    ((h4 100 (limited 9217 .under none 0)).2.2.2.2.1 (by decide) (by decide) (.inl ⟨rfl, by decide⟩)).1 rfl,
    (h4 100 (limited 10240 .overHard (some 101) 60)).2.2.2.2.2 (by decide) (by decide) (by decide) rfl 101 rfl,
    (h4 100 (limited 8961 .overHard (some 100) 60)).2.2.2.2.2 (by decide) (by decide) (by decide) rfl 100 rfl⟩
  · exact (((h3 base 32 (some 33) 4).2 (by decide)).2 33 rfl).2 (by decide)
  · exact (h3 _ 32 none 1).1 .hardLimit (by decide +kernel)
  · exact (((h3 (base.setAccount 33 (limited 10240 .under none 0)) 32 (some 33) 1).2 (by decide +kernel)).2 33 rfl).1 .hardLimit (by decide +kernel)

theorem witness_AccountTermsAreSetAndReRated (h : Obligations.AccountTermsAreSetAndReRated) :
    ran (.setLimit 0 7 ⟨32, 15, 0, 60, false⟩) base ∧ ran (.setLimit 0 7 ⟨0, 15, 7, 0, false⟩) base ∧ ran (.setLimit 0 7 ⟨17, 15, 7, 0, false⟩) base ∧
      ran (.loadAccount 0 7 ⟨32, 1, 10, 7, 16777215, true, some 90⟩) base ∧
      ran (.loadAccount 0 7 ⟨262143, 2, 10, 0, 0, false, none⟩) base ∧ ran (.dropAccount 0 7 34) base := by
  obtain ⟨x1, n1, m1, -, -, e1, -⟩ := (h base 0 7 base_up).1 ⟨32, 15, 0, 60, false⟩ (by decide) (by decide)
  obtain ⟨x2, n2, m2, -, -, -, e2, -⟩ := (h base 0 7 base_up).1 ⟨0, 15, 7, 0, false⟩ (by decide) (by decide)
  obtain ⟨x3, n3, m3, -, -, -, -, e3⟩ := (h base 0 7 base_up).1 ⟨17, 15, 7, 0, false⟩ (by decide) (by decide)
  obtain ⟨u4, e4, -⟩ := (h base 0 7 base_up).2.1 ⟨32, 1, 10, 7, 16777215, true, some 90⟩ .user _ _ _ (by decide) (.inl ⟨rfl, rfl⟩) (.inr (.inl rfl)) rfl rfl
  obtain ⟨u5, e5, -⟩ := (h base 0 7 base_up).2.1 ⟨262143, 2, 10, 0, 0, false, none⟩ .group _ _ _ (by decide) (.inr ⟨rfl, rfl⟩) (.inl (by decide)) rfl rfl
  obtain ⟨u6, e6, -⟩ := (h base 0 7 base_up).2.2 34 (by decide) (by decide) rfl base_qu.1
  exact ⟨⟨_, (e1 (.inl rfl)).2.2⟩, ⟨_, (e2 rfl).2.2⟩, ⟨_, (e3 rfl).2.2⟩, ⟨_, e4⟩, ⟨_, e5⟩, ⟨_, e6⟩⟩

/-- `base` at clock `n` with the account of index 32 in GRACE up to 200. -/
def grace (n : Nat) : State := base.setQu ⟨[(32, limited 9217 .grace (some 200) 60)], [(200, 32)], n, true⟩

theorem grace_ok (n : Nat) (hn : n ≤ 4294967295) : (grace n).qu.ok := by
  refine ⟨show sparseWf Account.none [(32, limited 9217 .grace (some 200) 60)] = true by decide, ?_, hn, by simp [grace, State.setQu], ?_⟩
  · simp [grace, State.setQu, Account.ok, kindAt, limited, Account.above]
  · intro d i
    simp only [grace, State.setQu, List.mem_singleton, Prod.mk.injEq, sparseGet, limited, Account.none]
    split_ifs with h1 h2 <;> simp_all [eq_comm] <;> omega

theorem witness_TheClockMovesAndAccountsExpire (h : Obligations.TheClockMovesAndAccountsExpire) :
    ran (.setClock 0 7 100) base ∧ ran (.setClock 0 7 200) (grace 199) ∧ ran .clockAdvance base ∧ ran .graceExpiry base ∧ ran .graceExpiry (grace 199) ∧ ran .graceExpiry (grace 200) := by
  obtain ⟨u2, e2, -⟩ := (h.2 (grace 199)).2.1 0 7 200 base_up (grace_ok 199 (by decide)) (by decide) (by decide)
  obtain ⟨t6, e6, -⟩ := (h.2 (grace 200)).2.2.2.2.2 200 32 [] (grace_ok 200 (by decide)) rfl rfl (by decide)
  exact ⟨⟨_, (h.2 base).1 0 7 100 base_up (by decide) (by decide)⟩, ⟨_, e2⟩, ⟨_, (h.2 base).2.2.1⟩, ⟨_, (h.2 base).2.2.2.1 rfl⟩,
    ⟨_, (h.2 (grace 199)).2.2.2.2.1 rfl (by rintro d i rest ⟨⟩; decide)⟩, ⟨_, e6⟩⟩

/-! ### Witnesses: snapshots, trimming and release lists -/

/-- `base` with these creates waiting on volume 0's gate, and the outbound run of volume 0 active before its target is known. -/
def gated0 (g : List GateCreate) (es : List Extent) : State :=
  ((running { run with state := .offering, target := none, peer := none }).setSnapVol 0 { SnapVol.empty with snaps := [snap], gate := g }).setExtents es

theorem witness_SnapshotsAreMadeAndRetired (h : Obligations.SnapshotsAreMadeAndRetired) :
    (∃ t, gateLook 0 (gated0 [.host 0 7 10] [live]) = t) ∧ (∃ t, gateLook 0 (gated0 [.sender 11, .host 0 7 10] [live]) = t) ∧
      gateLook 0 (gated0 [.host 0 7 10] [{ live with filling := true }]) = gated0 [.host 0 7 10] [{ live with filling := true }] ∧
      (∃ t, completeCreate 0 (.host 0 7 10) (gated0 [] [live]) = t) ∧ (∃ t, completeCreate 0 (.sender 10) (gated0 [] [live]) = t) ∧
      ran (.snapshotCreate 0 7 ⟨0, 10⟩) base ∧ ran (.snapshotCreate 0 7 ⟨0, 10⟩) (base.setVol 0 ⟨.sealed, primary, some 4294967294, none, none⟩) ∧
      ran (.snapshotCreate 0 7 ⟨0, 10⟩) (base.setExtents [{ live with filling := true }]) ∧ ran (.snapshotRetire 0 7 ⟨0, 9⟩) base := by
  have c := (h base 0 7 ⟨0, 10⟩ 0 3 base_up rfl (.inl rfl)).2.2.2.1 rfl rfl (by decide +kernel) (by decide +kernel) (by decide +kernel) (by decide +kernel)
    (by intro ring t l hl; exact absurd hl (by simp [base, State.snapVol, SnapVol.empty]))
  have d := (h (base.setVol 0 ⟨.sealed, primary, some 4294967294, none, none⟩) 0 7 ⟨0, 10⟩ 0 4294967294 base_up rfl (.inr rfl)).2.2.2.1 rfl rfl (by decide +kernel) (by decide +kernel)
    (by decide +kernel) (by decide +kernel) (by intro ring t l hl; exact absurd hl (by simp [base, State.setVol, State.setEtu, State.snapVol, SnapVol.empty]))
  have f := (h (base.setExtents [{ live with filling := true }]) 0 7 ⟨0, 10⟩ 0 3 base_up rfl (.inl rfl)).2.2.2.1 rfl rfl (by decide +kernel) (by decide +kernel) (by decide +kernel)
    (by decide +kernel) (by intro ring t l hl; exact absurd hl (by simp [base, State.setExtents, State.setEtu, State.snapVol, SnapVol.empty]))
  have g (l : List GateCreate) (es : List Extent) := h (gated0 l es) 0 7 ⟨0, 10⟩ 0 3 base_up rfl (.inl rfl)
  exact ⟨⟨_, ((g [.host 0 7 10] [live]).1 (by decide)).1 _ rfl⟩, ⟨_, ((g [.sender 11, .host 0 7 10] [live]).1 (by decide)).2 _ _ rfl⟩,
    (g [.host 0 7 10] [{ live with filling := true }]).2.1 (.inl (by decide)), ⟨_, ((g [] [live]).2.2.1 false _ rfl rfl).1 rfl⟩,
    ⟨_, ((g [] [live]).2.2.1 true _ rfl rfl).2 rfl _ rfl⟩,
    ⟨_, c.1 (by decide +kernel)⟩, ⟨_, d.1 (by decide +kernel)⟩, ⟨_, f.2 (by decide +kernel)⟩,
    ⟨_, (h base 0 7 ⟨0, 9⟩ 0 3 base_up rfl (.inl rfl)).2.2.2.2 snap (by decide +kernel) rfl rfl rfl rfl⟩⟩

/-- Volume 0 auto-trims, with a reserve account above its soft threshold; `ss` are its snapshots. -/
def trimming (ss : List Snapshot) (a : AutoTrim) : State :=
  ((base.setVol 0 ⟨.online, { primary with autoTrim := true }, some 3, none, none⟩).setAccount 0 { free .reserve with hard := 16 }).setSnapVol 0
    { SnapVol.empty with snaps := ss, auto := a }

/-- Volume 0 with this release list. -/
def released (rs : List Run) : State := base.setSnapVol 0 { SnapVol.empty with release := rs }

/-- Volume 0's trim scan of its snapshot, with these records, ACTIVE snapshots and release list. -/
def scanning (es : List Extent) (ss : List Snapshot) (o : RetireOrigin) (rs : List Run) : State :=
  (base.setExtents es).setSnapVol 0 { SnapVol.empty with snaps := { snap with active := false } :: ss, retire := [⟨2, o, 0, 0⟩], trim := .scanning 0, release := rs }

/-- A HELD record of volume 0, born at epoch 1 and dead at epoch 3. -/
def held : Extent := { live with death := some 3 }

/-- The scan has passed its last record, and a HELD record stands behind its cursor. -/
def passed (ss : List Snapshot) : State :=
  (scanning [held] ss .auto []).setSnapVol 0 { (scanning [held] ss .auto []).snapVol 0 with trim := .scanning 50 }

theorem witness_AutoTrimAndTrimScans (h : Obligations.AutoTrimAndTrimScans) :
    (autoTrimStep 0 base = base.setSnapVol 0 { base.snapVol 0 with auto := .off } ∧
      autoTrimStep 0 (trimming [{ snap with holds := 1 }] .off) = (trimming [{ snap with holds := 1 }] .off).setSnapVol 0 { (trimming [{ snap with holds := 1 }] .off).snapVol 0 with auto := .stalled } ∧
      ((autoTrimStep 0 (trimming [{ snap with holds := 1 }, { snap with epoch := 3 }] .off)).snapVol 0).retire = [⟨3, .auto, 0, 0⟩] ∧
      autoTrimStart 0 (trimming [snap] .working) = trimming [snap] .working ∧ autoTrimStart 0 (trimming [snap] .off) = autoTrimStep 0 (trimming [snap] .off) ∧
      autoTrimAgain 0 (trimming [snap] .off) = trimming [snap] .off ∧ autoTrimAgain 0 (trimming [snap] .stalled) = autoTrimStep 0 (trimming [snap] .stalled)) ∧
    ran (.trimScanStep 0) (scanning [live] [] .auto []) ∧ ran (.trimScanStep 0) (scanning [held] [{ snap with epoch := 1 }] .auto []) ∧ ran (.trimScanStep 0) (scanning [held] [] .auto []) ∧
      ran (.trimScanStep 0) (scanning [held] [] .auto (List.replicate 4096 ⟨1, 1⟩)) ∧ ran (.trimScanStep 0) (scanning [] [] (.host 0 7) []) ∧
      ran (.trimScanStep 0) (scanning [] [] .hostSilent []) ∧ ran (.trimScanStep 0) (scanning [] [] .auto []) ∧
      ran (.trimScanStep 0) (passed []) ∧ ran (.trimScanStep 0) (passed [{ snap with epoch := 1 }]) := by
  obtain ⟨a, h⟩ := h
  have w : ∀ ss a, ((trimming ss a).vol 0).defn.autoTrim = true ∧ ((trimming ss a).account (0 : Vol).val).hard ≠ 0 ∧ ((trimming ss a).account (0 : Vol).val).soft < ((trimming ss a).account (0 : Vol).val).usage :=
    fun ss a => ⟨rfl, show ({ free .reserve with hard := 16 } : Account).hard ≠ 0 by decide,
      show ({ free .reserve with hard := 16 } : Account).soft < ({ free .reserve with hard := 16 } : Account).usage by decide⟩
  have h3 := ((h (scanning [held] [] .auto []) 0 0 ⟨2, .auto, 0, 0⟩ [] rfl rfl).1 held (by decide +kernel)).2 3 rfl (by decide) (by decide) (by decide +kernel)
  have h4 := ((h (scanning [held] [] .auto (List.replicate 4096 ⟨1, 1⟩)) 0 0 ⟨2, .auto, 0, 0⟩ [] rfl rfl).1 held (by decide +kernel)).2 3 rfl (by decide) (by decide)
    (fun y hy => by rw [show (((scanning [held] [] .auto (List.replicate 4096 ⟨1, 1⟩)).snapVol 0).snaps) = [{ snap with active := false }] from rfl, List.mem_singleton] at hy; rw [hy]; decide)
  obtain ⟨m3, u3, -, -, -, e3⟩ := h3.1 _ (show releaseAppend 0 ⟨10, 4⟩ _ = some ((releaseAppend 0 ⟨10, 4⟩ (scanning [held] [] .auto [])).get (by decide +kernel)) by rw [Option.some_get]) (by decide +kernel) _ _ rfl rfl
  obtain ⟨t4, -, e4⟩ := h4.2 (by decide +kernel) (by exact List.not_mem_nil)
  obtain ⟨t5, -, e5, -⟩ := (h (scanning [] [] (.host 0 7) []) 0 0 ⟨2, .host 0 7, 0, 0⟩ [] rfl rfl).2.2 rfl (by decide +kernel)
  obtain ⟨t6, -, -, e6, -⟩ := (h (scanning [] [] .hostSilent []) 0 0 ⟨2, .hostSilent, 0, 0⟩ [] rfl rfl).2.2 rfl (by decide +kernel)
  obtain ⟨t7, -, -, -, e7⟩ := (h (scanning [] [] .auto []) 0 0 ⟨2, .auto, 0, 0⟩ [] rfl rfl).2.2 rfl (by decide +kernel)
  obtain ⟨t8, -, -, -, e8⟩ := (h (passed [{ snap with epoch := 1 }]) 0 50 ⟨2, .auto, 0, 0⟩ [] rfl rfl).2.2 (by decide +kernel)
    (by intro e he d hd _ _; rw [show (passed [{ snap with epoch := 1 }]).records 0 = [held] by decide +kernel, List.mem_singleton] at he; subst he; cases hd; decide +kernel)
  refine ⟨⟨(a base 0 _ _ rfl rfl).1 (by decide +kernel), (a (trimming [{ snap with holds := 1 }] .off) 0 _ _ rfl rfl).2.1 (w _ _) (by decide +kernel), ?_,
      (a (trimming [snap] .working) 0 _ _ rfl rfl).2.2.2.1 rfl, (a (trimming [snap] .off) 0 _ _ rfl rfl).2.2.2.2.1 (by decide),
      (a (trimming [snap] .off) 0 _ _ rfl rfl).2.2.2.2.2.1 (by decide), (a (trimming [snap] .stalled) 0 _ _ rfl rfl).2.2.2.2.2.2.1 rfl⟩,
    ⟨_, ((h (scanning [live] [] .auto []) 0 0 ⟨2, .auto, 0, 0⟩ [] rfl rfl).1 live (by decide +kernel)).1 (by rintro d ⟨⟩)⟩,
    ⟨_, ((h (scanning [held] [{ snap with epoch := 1 }] .auto []) 0 0 ⟨2, .auto, 0, 0⟩ [] rfl rfl).1 held (by decide +kernel)).1
      (by rintro d ⟨⟩ - -; exact ⟨{ snap with epoch := 1 }, by decide +kernel, by decide⟩)⟩,
    ⟨_, e3⟩, ⟨_, e4⟩, ⟨_, e5 0 7 rfl (by decide)⟩, ⟨_, e6 rfl⟩, ⟨_, e7 rfl⟩,
    ⟨_, (h (passed []) 0 50 ⟨2, .auto, 0, 0⟩ [] rfl rfl).2.1 (by decide +kernel) ⟨held, by decide +kernel, 3, rfl, by decide, by decide, by decide +kernel⟩⟩, ⟨_, e8 rfl⟩⟩
  rw [(a (trimming [{ snap with holds := 1 }, { snap with epoch := 3 }] .off) 0 _ _ rfl rfl).2.2.1 (w _ _) [{ snap with holds := 1 }] { snap with epoch := 3 } [] rfl (by decide +kernel) rfl rfl]
  rfl

/-- A TAKE_RELEASED of volume 0's one release entry is in progress, and the trim scan waits. -/
def taking (ps : List Producer) : State :=
  base.setSnapVol 0 { SnapVol.empty with release := [⟨50, 2⟩], taking := some ⟨0, 7, 8192, 1⟩, producers := ps, trim := .waiting 10, retire := [⟨2, .auto, 0, 0⟩] }

theorem witness_ReleaseListsGrowAndAreTaken (h : Obligations.ReleaseListsGrowAndAreTaken) :
    (releaseAppend 0 ⟨10, 65531⟩ (released [⟨6, 4⟩]) = some (released [⟨6, 65535⟩]) ∧ releaseAppend 0 ⟨11, 4⟩ (released [⟨6, 4⟩]) = some (released [⟨6, 4⟩, ⟨11, 4⟩]) ∧
      ((releaseAppend 0 ⟨10, 65532⟩ (released [⟨6, 4⟩])).map fun t => (t.snapVol 0).release) = some [⟨6, 4⟩, ⟨10, 65532⟩] ∧
      releaseAppend 0 ⟨10, 4⟩ (released (List.replicate 4096 ⟨1, 1⟩)) = none) ∧
    ran (.takeReleased (.request 0 7 ⟨0, 8192, 1⟩)) base ∧ ran (.takeReleased (.request 0 7 ⟨0, 8192, 4096⟩)) (released [⟨6, 4⟩]) ∧
      ran (.takeReleased (.writesComplete 0)) (taking []) ∧ ran (.takeReleased (.writesComplete 0)) (taking [.trim]) := by
  obtain ⟨a, h⟩ := h
  obtain ⟨u, e, -⟩ := ((h (taking [.trim]) 0).2 _ _ _ _ rfl rfl rfl rfl).2 10 live rfl rfl (by decide +kernel) (by decide)
  refine ⟨⟨(a (released [⟨6, 4⟩]) 0 ⟨10, 65531⟩).1 [] ⟨6, 4⟩ rfl rfl (by decide) (by rintro t ⟨⟩), ?_, ?_, ?_⟩,
    ⟨_, ((h base 0).1 0 7 ⟨0, 8192, 1⟩ base_up rfl (by decide) (by decide) (by decide) rfl).1 rfl⟩,
    ⟨_, ((h (released [⟨6, 4⟩]) 0).1 0 7 ⟨0, 8192, 4096⟩ base_up rfl (by decide) (by decide) (by decide) rfl).2 (by decide +kernel)⟩,
    ⟨_, ((h (taking []) 0).2 _ _ _ _ rfl rfl rfl rfl).1 rfl⟩, ⟨_, e⟩⟩
  · obtain ⟨t, rfl, e⟩ := ((a (released [⟨6, 4⟩]) 0 ⟨11, 4⟩).2 (.inr ⟨[], ⟨6, 4⟩, rfl, .inl (by decide)⟩)).1 (by decide +kernel)
    rw [e]; rfl
  · obtain ⟨t, rfl, e⟩ := ((a (released [⟨6, 4⟩]) 0 ⟨10, 65532⟩).2 (.inr ⟨[], ⟨6, 4⟩, rfl, .inr (.inl (by decide))⟩)).1 (by decide +kernel)
    rw [e]; rfl
  · have hl : ((released (List.replicate 4096 ⟨1, 1⟩)).snapVol 0).release = List.replicate 4095 ⟨1, 1⟩ ++ [⟨1, 1⟩] :=
      show List.replicate 4096 (⟨1, 1⟩ : Run) = _ by rw [List.replicate_succ']
    exact ((a _ 0 ⟨10, 4⟩).2 (.inr ⟨_, _, hl, .inl (by decide)⟩)).2 (by rw [hl, List.length_append, List.length_replicate]; decide)

/-! ### Witnesses: restores and probes -/

/-- A RESTORE of two blocks of object 7 at offset 0 to volume 0's blocks 50 and 51. -/
def restoring : RestoreParams := ⟨0, 9, 7, 0, 2, 70, 0, 32, some 33, 8192, 1, true, true⟩

/-- A PROBE of the same range. -/
def probing : ProbeParams := ⟨0, 9, 7, 0, 2, 8192, 1, false⟩

theorem witness_RestoreAndProbeTakeAContext (h : Obligations.RestoreAndProbeTakeAContext) :
    ran (.restore 0 7 restoring [⟨50, 1⟩, ⟨99, 1⟩]) base ∧ ran (.probe 0 7 probing) base := by
  have w := h base 0 7 0 snap 0 _ base_up rfl rfl rfl rfl (by intro d hd; exact absurd hd (by decide +revert)) (fun _ => rfl)
  obtain ⟨y1, -, -, -, -, -, -, -, -, -, -, -, -, -, -, -, -, e1⟩ := w.1 restoring [⟨50, 1⟩, ⟨99, 1⟩] (by decide) rfl rfl (by decide +kernel) (by decide) (by decide) (by decide +kernel) rfl
    (by rintro g ⟨⟩; rfl)
  obtain ⟨y2, -, -, -, -, -, -, -, -, -, -, -, -, -, -, e2⟩ := w.2 probing (by decide) rfl (.inl rfl) (by decide +kernel)
  exact ⟨⟨_, e1⟩, ⟨_, e2⟩⟩

/-- The context that such a request makes, later on. -/
def working : RestoreCtx := { restoreContext 0 7 restoring [⟨50, 1⟩, ⟨99, 1⟩] 2 with phase := .searching }

/-- `base` with a restore context. -/
def withCtx (x : RestoreCtx) : State := base.setRestoreCtx 0 x

theorem witness_SearchAddsPiecesInOrder (h : Obligations.SearchAddsPiecesInOrder) :
    ran (.searchStep 0) (withCtx { working with srcObject := 8 }) ∧ ran (.searchStep 0) (withCtx working) ∧
      ran (.searchStep 0) ((withCtx working).setExtents [{ live with offset := 1 }]) ∧
      ran (.searchStep 0) ((withCtx { working with plan := List.replicate 255 ⟨none, 0, 1⟩ }).setExtents [{ live with offset := 1 }]) :=
  ⟨⟨_, (h (withCtx { working with srcObject := 8 }) 0 _ _ _ _ rfl rfl (by decide) (by decide) rfl (by decide) (by decide) (fun _ => rfl) (fun _ _ => rfl)).1
      (by rintro e (_ | ⟨_, ⟨⟩⟩) ⟨-, h2, -⟩; exact absurd h2 (by decide))⟩,
    ⟨_, ((h (withCtx working) 0 _ _ _ _ rfl rfl (by decide) (by decide) rfl (by decide) (by decide) (fun _ => rfl) (fun _ _ => rfl)).2 live (.head _)
      ⟨rfl, rfl, by decide, by (rintro d ⟨⟩), by decide, by decide⟩ (by rintro y (_ | ⟨_, ⟨⟩⟩) - hn; exact absurd rfl hn)).1 (by decide)⟩,
    ⟨_, ((h ((withCtx working).setExtents [{ live with offset := 1 }]) 0 _ _ _ _ rfl rfl (by decide) (by decide) rfl (by decide) (by decide) (fun _ => rfl) (fun _ _ => rfl)).2
      { live with offset := 1 } (.head _) ⟨rfl, rfl, by decide, by (rintro d ⟨⟩), by decide, by decide⟩ (by rintro y (_ | ⟨_, ⟨⟩⟩) - hn; exact absurd rfl hn)).2.1 (by decide) (by decide)⟩,
    ⟨_, ((h ((withCtx { working with plan := List.replicate 255 ⟨none, 0, 1⟩ }).setExtents [{ live with offset := 1 }]) 0 _ _ _ _ rfl rfl (by decide) (by decide) rfl (by decide)
      (by decide +kernel) (fun _ => rfl) (fun _ _ => rfl)).2 { live with offset := 1 } (.head _) ⟨rfl, rfl, by decide, by (rintro d ⟨⟩), by decide, by decide⟩
      (by rintro y (_ | ⟨_, ⟨⟩⟩) - hn; exact absurd rfl hn)).2.2 (by decide) (by decide +kernel)⟩⟩

theorem witness_RestoresGoOnOrEnd (h : Obligations.RestoresGoOnOrEnd) :
    continueRestore 0 (withCtx { working with cancel := true }) = endWith 0 ⟨7, 0x30, 0x09, 0, 0, 2⟩ (withCtx { working with cancel := true }) ∧
      continueRestore 0 (withCtx { working with searchPos := 2, copied := 1, zeroed := 1 }) =
        endWith 0 ⟨7, 0x30, 0x02, 0, 4294967297, 0⟩ (withCtx { working with searchPos := 2, copied := 1, zeroed := 1 }) ∧
      continueRestore 0 (withCtx { working with searchPos := 1, phase := .copying }) = withCtx { working with searchPos := 1 } ∧
      continueRestore 0 (withCtx { working with plan := [⟨none, 0, 1⟩] }) = withCtx { working with plan := [⟨none, 0, 1⟩] } ∧
      stepAnswer 0 ⟨7, 0x30, 7, 0, 0, 0⟩ ((withCtx working).setRing 0 ringStalled) =
        ((withCtx { working with stepDue := true }).setRing 0 { ringStalled with waiting := ringStalled.waiting ++ [⟨⟨7, 0x30, 7, 0, 0, 0⟩, .step 0⟩] }) := by
  refine ⟨((h (withCtx { working with cancel := true }) 0 _ rfl).2.1 (by decide) (by decide)).1 rfl,
    ((h (withCtx { working with searchPos := 2, copied := 1, zeroed := 1 }) 0 _ rfl).2.1 (by decide) (by decide)).2.1 rfl rfl (by decide), ?_,
    ((h (withCtx { working with plan := [⟨none, 0, 1⟩] }) 0 _ rfl).2.1 (by decide) (by decide)).2.2.2 rfl (by decide), ?_⟩
  · rw [((h (withCtx { working with searchPos := 1, phase := .copying }) 0 _ rfl).2.1 (by decide) (by decide)).2.2.1 rfl rfl (by decide)]; rfl
  · rw [((h ((withCtx working).setRing 0 ringStalled) 0 _ rfl).2.2 ⟨7, 0x30, 7, 0, 0, 0⟩ _ rfl).1 rfl]; rfl

/-- The context of such a probe, later on, with its search over. -/
def probed (plan : List Piece) : RestoreCtx := { probeContext 0 7 probing 2 with phase := .searching, searchPos := 2, plan := plan }

theorem witness_CancelsAndProbeWrites (h : Obligations.CancelsAndProbeWrites) :
    ran (.cancelRestore 0 8 7) base ∧ ran (.cancelRestore 0 8 7) (withCtx working) ∧ ran (.cancelRestore 0 8 7) (withCtx (probed [])) ∧
      ran (.cancelRestore 0 8 7) (withCtx (probed [⟨none, 0, 2⟩])) ∧ ran (.probePieceWrite 0) (withCtx { probed [⟨none, 0, 2⟩] with stepwise := true, written := 255, max := 4096 }) ∧
      ran (.probePieceWrite 0) (withCtx { probed [⟨none, 0, 2⟩] with cancel := true }) ∧ ran (.probePieceWrite 0) (withCtx (probed [⟨none, 0, 2⟩])) ∧
      ran (.probePieceWrite 0) (withCtx { probed [⟨none, 0, 1⟩, ⟨none, 1, 1⟩] with max := 2 }) := by
  have alone : ∀ x, ∀ d, d ≠ 0 → ((withCtx x).restoreCtx d).phase = .free ∨ ((withCtx x).restoreCtx d).phase = .ending ∨ ((withCtx x).restoreCtx d).tag ≠ 7 := by
    intro x d hd; fin_cases d
    · exact absurd rfl hd
    all_goals exact .inl rfl
  refine ⟨⟨_, (h.1 base 0 8 7 base_up).1 (by decide +kernel)⟩,
    ⟨_, ((h.1 (withCtx working) 0 8 7 base_up).2 0 _ _ rfl (by decide) (by decide) rfl (alone _) rfl).1 rfl rfl (by rintro f ⟨⟩)⟩,
    ⟨_, ((h.1 (withCtx (probed [])) 0 8 7 base_up).2 0 _ _ rfl (by decide) (by decide) rfl (alone _) rfl).2.1 rfl rfl rfl⟩,
    ⟨_, ((h.1 (withCtx (probed [⟨none, 0, 2⟩])) 0 8 7 base_up).2 0 _ _ rfl (by decide) (by decide) rfl (alone _) rfl).2.2 (.inr (.inr ⟨rfl, by decide⟩))⟩,
    ⟨_, (h.2 (withCtx { probed [⟨none, 0, 2⟩] with stepwise := true, written := 255, max := 4096 }) 0 _ _ _ _ rfl rfl (by decide) (by decide) rfl rfl rfl rfl).1 rfl (by decide)⟩,
    ⟨_, ((h.2 (withCtx { probed [⟨none, 0, 2⟩] with cancel := true }) 0 _ _ _ _ rfl rfl (by decide) (by decide) rfl rfl rfl rfl).2 (.inl rfl)).1 rfl⟩,
    ⟨_, ((h.2 (withCtx (probed [⟨none, 0, 2⟩])) 0 _ _ _ _ rfl rfl (by decide) (by decide) rfl rfl rfl rfl).2 (.inl rfl)).2.1 rfl (.inr (by decide))⟩,
    ⟨_, ((h.2 (withCtx { probed [⟨none, 0, 1⟩, ⟨none, 1, 1⟩] with max := 2 }) 0 _ _ _ _ rfl rfl (by decide) (by decide) rfl rfl rfl rfl).2 (.inl rfl)).2.2 rfl (by decide)⟩⟩

theorem witness_PiecesAreMappedOntoTargets (h : Obligations.PiecesAreMappedOntoTargets) :
    ran (.pieceMap 0) (withCtx { working with plan := [⟨none, 0, 2⟩], zeroHoles := false }) ∧
      ran (.pieceMap 0) (withCtx { working with plan := [⟨none, 0, 2⟩], zeroHoles := false, stepwise := false }) ∧
      ran (.pieceMap 0) (withCtx { working with plan := [⟨some 10, 1, 1⟩], pos := 1 }) ∧ ran (.pieceMap 0) (withCtx { working with plan := [⟨some 10, 0, 2⟩] }) := by
  refine ⟨⟨_, ((h (withCtx { working with plan := [⟨none, 0, 2⟩], zeroHoles := false }) 0 _ _ _ rfl rfl (by decide) (by decide) rfl rfl rfl rfl rfl).1 rfl rfl _ rfl).2 rfl⟩,
    ⟨_, ((h (withCtx { working with plan := [⟨none, 0, 2⟩], zeroHoles := false, stepwise := false }) 0 _ _ _ rfl rfl (by decide) (by decide) rfl rfl rfl rfl rfl).1 rfl rfl _ rfl).1 rfl⟩, ?_, ?_⟩
  · exact ⟨_, ((h (withCtx { working with plan := [⟨some 10, 1, 1⟩], pos := 1 }) 0 _ _ _ rfl rfl (by decide) (by decide) rfl rfl rfl rfl rfl).2 (.inl (by decide)) (by decide) [⟨50, 1⟩] []
      ⟨99, 1⟩ _ rfl (by decide) (by decide) (fun _ _ => rfl)).1 (.inr rfl) 1 rfl⟩
  · exact ⟨_, ((h (withCtx { working with plan := [⟨some 10, 0, 2⟩] }) 0 _ _ _ rfl rfl (by decide) (by decide) rfl rfl rfl rfl rfl).2 (.inl (by decide)) (by decide) [] [⟨99, 1⟩]
      ⟨50, 1⟩ _ rfl (by decide) (by decide) (fun _ _ => rfl)).2 ⟨99, 1⟩ [] rfl (by decide) (by decide) 2 rfl⟩

/-- `base` with that piece, mapped, at the gate. -/
def atGate (segs : List Run) : State :=
  (withCtx { working with phase := .copying, flight := some ⟨⟨some 10, 0, 2⟩, segs, false⟩ }).setRu
    { (withCtx { working with phase := .copying, flight := some ⟨⟨some 10, 0, 2⟩, segs, false⟩ }).ru with gateOrder := [0] }

theorem witness_PiecesMakeTheirRecords (h : Obligations.PiecesMakeTheirRecords) :
    ran (.pieceCreate 0) (atGate [⟨50, 1⟩, ⟨99, 1⟩]) ∧ ran (.pieceCreate 0) ((atGate [⟨50, 2⟩]).setAccount 32 (free .group)) ∧
      ran (.pieceCreate 0) ((atGate [⟨50, 2⟩]).setAccount 32 (limited 10233 .under none 0)) := by
  obtain ⟨u1, n1, e1, -⟩ := (h (atGate [⟨50, 1⟩, ⟨99, 1⟩]) 0 _ _ _ rfl rfl rfl rfl rfl (by decide +kernel) rfl).1 rfl (by rintro g ⟨⟩; rfl) (by decide)
    (by rintro i (rfl | ⟨⟨⟩⟩) <;> decide +kernel) (by decide)
  exact ⟨⟨_, e1⟩, ⟨_, (h ((atGate [⟨50, 2⟩]).setAccount 32 (free .group)) 0 _ _ _ rfl rfl rfl rfl rfl (by decide +kernel) rfl).2 _ (.inl ⟨.inl (by decide +kernel), rfl⟩)⟩,
    ⟨_, (h ((atGate [⟨50, 2⟩]).setAccount 32 (limited 10233 .under none 0)) 0 _ _ _ rfl rfl rfl rfl rfl (by decide +kernel) rfl).2 .hardLimit
      (.inr ⟨rfl, by (rintro g ⟨⟩; rfl), .inr ⟨by decide, ⟨.hardLimit, 32, 1⟩, by decide +kernel, rfl⟩⟩)⟩⟩

/-! ### Witnesses: the data mover -/

/-- A RESTORE unit of context 0 that copies block 10 to block 50, and block 11 to block 99 when it has a second segment. -/
def unit (n : Nat) : MoverUnit :=
  ⟨.restore, 0, ⟨.aperture 0 [⟨10, 1⟩], .aperture 0 [⟨50, 1⟩], 1⟩, ⟨.aperture 0 [⟨11, 1⟩], .aperture 0 [⟨99, 1⟩], n⟩, false, 0, 0, 0, false⟩

/-- The unit of context 0 at the engine. -/
def copying (x : RestoreCtx) (u : MoverUnit) : State := (withCtx { x with flight := some ⟨⟨some 10, 0, 1⟩, [⟨50, 1⟩], true⟩ }).setDm { base.dm with engine := some u }

/-- The blocks of a run list. -/
def blocksOf (rs : List Run) : List Nat := rs.flatMap fun r => (List.range r.len).map (r.first + ·)

theorem witness_UnitsMoveTheirBlocks (h : Obligations.UnitsMoveTheirBlocks) :
    nextEntry .restore [unit 0] = some (unit 0) ∧ grantNext (base.setDm { base.dm with waiting := [unit 0] }) = base.setDm { base.dm with engine := some (unit 0), pointer := .restore } ∧
      grantNext base = base ∧ (moveAccesses ⟨.zero, .aperture 0 [⟨99, 1⟩, ⟨10, 2⟩], 3⟩ 3 base).readByte 0 = base.readByte 0 ∧
      (moveAccesses ⟨.aperture 0 [⟨10, 3⟩], .aperture 0 [⟨99, 1⟩, ⟨10, 2⟩], 3⟩ 2 base).readByte 0 = base.readByte 0 ∧
      (moveAccesses ⟨.staging (List.replicate 4096 1), .aperture 0 [⟨99, 1⟩], 1⟩ 1 base).readByte (0x100000 + 99 * 4096 + 4095) = (List.replicate 4096 1).getD 4095 0 ∧
      ran .segmentComplete (copying working (unit 1)) ∧
      ran .unitComplete (copying working (unit 0)) ∧ ran .unitComplete (copying { working with stepwise := false } { unit 1 with second := true }) := by
  obtain ⟨h1, h2, h3, h4, h5⟩ := h
  have m (source : MoveEnd) (ds : List Run) (n : Nat) (hn : (blocksOf ds).Nodup) (hb : ∀ b ∈ blocksOf ds, 0x100000 + (b + 1) * 4096 ≤ 2 ^ 64)
      (hl : 4096 * n ≤ (blocksOf ds).length * 4096) := h4 base 0 source ds 3 n 4096 blocksOf (fun rs q => 0x100000 + (blocksOf rs).getD (q / 4096) 0 * 4096 + q % 4096) base_mem
    (fun _ => rfl) rfl rfl (fun _ _ => rfl) hn hb hl
  refine ⟨by rw [h1 .restore .ship .land .restore _ (by decide)]; decide, h2 _ (unit 0) rfl (by decide) (by decide), h3 base (.inr rfl), ?_, ?_, ?_,
    ⟨_, (h5 (copying working (unit 1)) _ rfl).1 rfl (by decide)⟩,
    ⟨_, (h5 (copying working (unit 0)) _ rfl).2 0 _ _ _ _ rfl rfl (.inr rfl) rfl rfl rfl rfl⟩,
    ⟨_, (h5 (copying { working with stepwise := false } { unit 1 with second := true }) _ rfl).2 0 _ _ _ _ rfl rfl (.inl rfl) rfl rfl rfl rfl⟩⟩
  · obtain ⟨-, t, rfl, -, -, e⟩ := m .zero [⟨99, 1⟩, ⟨10, 2⟩] 3 (by decide) (by decide) (by decide) (.inl rfl)
    exact e 0 (by decide) (by intro q _; omega)
  · obtain ⟨-, t, rfl, -, -, e⟩ := m (.aperture 0 [⟨10, 3⟩]) [⟨99, 1⟩, ⟨10, 2⟩] 2 (by decide) (by decide) (by decide) (.inr (.inr ⟨_, rfl, by decide, by decide⟩))
    exact e 0 (by decide) (by intro q _; omega)
  · obtain ⟨-, t, e, -, e', -⟩ := h4 base 0 (.staging (List.replicate 4096 1)) [⟨99, 1⟩] 1 1 4096 blocksOf (fun rs q => 0x100000 + (blocksOf rs).getD (q / 4096) 0 * 4096 + q % 4096) base_mem
      (fun _ => rfl) rfl rfl (fun _ _ => rfl) (by decide) (by decide) (by decide) (.inr (.inl ⟨_, rfl, List.length_replicate⟩))
    rw [e]; exact e' 4095 (by decide)

/-- The SHIP unit of batch 1 of the run: blocks 10 to 13. -/
def shipUnit (handed : Nat) (discard : Bool) : MoverUnit := ⟨.ship, 0, ⟨.aperture 0 [⟨10, 4⟩], .link, 4⟩, ⟨.zero, .zero, 0⟩, false, 1, handed, 0, discard⟩

/-- That unit is served. -/
def shipping (handed : Nat) (discard : Bool) : State := (running run).setDm { base.dm with engine := some (shipUnit handed discard) }

/-- A LAND unit of inbound context 0 is served. -/
def landUnit (x : InCtx) : State :=
  (receiving x).setDm { base.dm with engine := some ⟨.land, 0, ⟨.staging (List.replicate 4096 1), .aperture 1 [⟨60, 1⟩], 1⟩, ⟨.zero, .zero, 0⟩, false, 0, 0, 0, false⟩ }

/-- A QUERY_ACCOUNT stands at the head of ring 0. -/
def asked : State := (withRing { ringOn with tail := 1 }).writeBytes 0 (requestBytes 7 (.queryAccount ⟨32, 8192⟩))

/-- TAKE_RELEASED of volume 0's one release entry is in progress. -/
def takingOne : State := base.setSnapVol 0 { SnapVol.empty with release := [⟨50, 2⟩], taking := some ⟨0, 7, 8192, 1⟩ }

theorem witness_CompletionErrorsAreRecorded (h : Obligations.CompletionErrorsAreRecorded) :
    (ran (.moverAccessFault (.read 3 0)) (shipping 8192 false) ∧ ran (.moverAccessFault .confirm) (landUnit inbound) ∧
      ran (.moverAccessFault .confirm) (landUnit { inbound with state := .aborting, walkDone := true, reason := some 1 }) ∧
      ran (.moverAccessFault (.read 0 0)) (copying working (unit 0)) ∧ ran (.moverAccessFault .confirm) (copying working { unit 1 with second := true })) ∧
    (∃ t, faultRestore 0 (withCtx working) = t) ∧ (∃ t, ringFault 0 (2 ^ 64) base = t) ∧ (∃ t, ringFault 1 5 base = t) ∧
    (ran (.ringAccessFault (.requestRead 0)) (withRing { ringOn with tail := 1 }) ∧ ran (.ringAccessFault (.answerWrite 0 15)) base ∧
      ran (.ringAccessFault (.buffer 0 (.queryAccount ⟨32, 8192⟩) 31)) base ∧ ran (.ringAccessFault (.bufferAtHead 0 31)) asked ∧
      ran (.ringAccessFault (.scanOut 0 63)) (exporting .extents 10 2)) ∧
    (transferOf (.queryExtent ⟨0, 13, 8192⟩) base = some (8192, 64, extentBytes live) ∧ transferOf (.restore restoring) base = some (8192, 16, []) ∧
      transferOf (.giveRuns ⟨1, 8192, 256⟩) base = some (8192, 2048, []) ∧ ∃ x, transferOf (.storeRead ⟨64, 8192⟩) base = some x) ∧
    ran (.ringAccessFault (.takeReleased 0 7)) takingOne ∧ ran (.ringAccessFault (.probeWrite 0 23)) (withCtx { probeContext 0 7 probing 2 with phase := .searching, plan := [⟨none, 0, 2⟩] }) ∧
      ran (.faultClear 0 7 1) base ∧ ran (.faultClear 0 7 1) (base.setDm { base.dm with faults := base.dm.faults.set 1 ⟨true, 0, .read, .volume 0, false⟩ }) := by
  obtain ⟨h1, h2, h3, h4, h5, h6, h7, h8⟩ := h
  obtain ⟨t, -, e⟩ := (h8 (base.setDm { base.dm with faults := base.dm.faults.set 1 ⟨true, 0, .read, .volume 0, false⟩ }) 0 7 .ship rfl).2 rfl
  obtain ⟨m1, -, -, e1⟩ := (h1 (copying working (unit 0)) (unit 0) (.read 0 0) _ 0 0x10A000 0 .read _ rfl rfl (.inl ⟨0, 0, [⟨10, 1⟩], rfl, rfl, by decide +kernel, rfl, rfl, by decide⟩) rfl).2.2
    rfl _ _ rfl rfl rfl rfl (by rintro i ⟨⟩; rfl) _ rfl _ (fun _ => rfl)
  obtain ⟨m2, -, -, e2⟩ := (h1 (copying working { unit 1 with second := true }) { unit 1 with second := true } .confirm _ 0 0x163000 1 .confirm _ rfl rfl
    (.inr ⟨[], ⟨99, 1⟩, rfl, rfl, by decide +kernel, by decide +kernel, rfl⟩) rfl).2.2 rfl _ _ rfl rfl rfl rfl (by rintro i ⟨⟩; rfl) _ rfl _ (fun _ => rfl)
  have l (x : InCtx) := (h1 (landUnit x) _ .confirm _ 1 _ _ .confirm _ rfl rfl (.inr ⟨[], ⟨60, 1⟩, rfl, rfl, rfl, rfl, rfl⟩) rfl).2.1 rfl _ _ rfl rfl
  obtain ⟨b, -, e3⟩ := (h4 base 0 _ rfl).2.1 15 (by decide)
  exact ⟨⟨⟨_, (h1 (shipping 8192 false) (shipUnit 8192 false) (.read 3 0) _ 0 0x10D000 0 .read _ rfl rfl (.inl ⟨3, 0, [⟨10, 4⟩], rfl, rfl, by decide +kernel, rfl, rfl, by decide⟩) rfl).1 rfl⟩,
      ⟨_, l _⟩, ⟨_, l _⟩, ⟨_, e1⟩, ⟨_, e2⟩⟩,
    ⟨_, (h2 (withCtx working)).2 0 _ rfl (by rintro f ⟨⟩)⟩, ⟨_, (h3 base 0 _ _ rfl).1 (.inl rfl) rfl⟩, ⟨_, (h3 base 1 _ _ rfl).2 (.inl rfl)⟩,
    ⟨⟨_, (h4 (withRing { ringOn with tail := 1 }) 0 _ rfl).1 (by decide +kernel)⟩, ⟨_, e3⟩,
      ⟨_, ((h4 base 0 _ rfl).2.2.1 _ _ _ _ _ ((h5 base base_up).1 ⟨32, 8192⟩ (by decide)) (by decide)).1⟩,
      ⟨_, ((h4 asked 0 _ rfl).2.2.1 _ _ _ _ _ ((h5 asked base_up).1 ⟨32, 8192⟩ (by decide)) (by decide)).2 (by decide +kernel) (by decide +kernel)⟩,
      ⟨_, (h4 (exporting .extents 10 2) 0 _ rfl).2.2.2 _ (extentBytes live) 14 63 rfl (by decide) (by decide +kernel) (by decide)⟩⟩,
    ⟨(h5 base base_up).2.1 ⟨0, 13, 8192⟩ 0 live rfl (by decide) (by decide +kernel), (h5 base base_up).2.2.2.1 restoring (by decide),
      (h5 base base_up).2.2.2.2 ⟨1, 8192, 256⟩ 1 (by decide) rfl (by decide) (by decide), ⟨_, (h5 base base_up).2.2.1 ⟨64, 8192⟩ (by decide) (by rintro c ⟨⟩)⟩⟩,
    ⟨_, h6 takingOne 0 _ _ 7 rfl rfl (by decide +kernel)⟩,
    ⟨_, h7 (withCtx { probeContext 0 7 probing 2 with phase := .searching, plan := [⟨none, 0, 2⟩] }) 0 _ _ _ 23 rfl rfl (by decide) (by decide) rfl rfl rfl (by decide)⟩,
    ⟨_, (h8 base 0 7 .ship rfl).1 rfl⟩, ⟨_, e⟩⟩

/-! ### Witnesses: the Duplication Sender -/

/-- `base` with the peer of entry 0 enabled and a queued run of volume 0. -/
def queued (q : QueuedRun) (due : Bool) : State := base.setDs { base.ds with queue := [q], lookDue := due }

/-- Volume 0's snapshot carries REPL_TARGET. -/
def targeted (s : State) : State := s.setSnapVol 0 { SnapVol.empty with snaps := [{ snap with replTarget := true }] }

theorem witness_RunsAreQueuedCancelledAndStarted (h : Obligations.RunsAreQueuedCancelledAndStarted) :
    (ran (.runStart 0 7 ⟨0, 10, true, false⟩) base ∧ ran (.runStart 0 7 ⟨0, 9, false, true⟩) base) ∧
      (ran (.runCancel 0 8 0) (queued ⟨0, 0, 7, 10, true, false⟩ true) ∧ ran (.runCancel 0 8 0) (targeted (queued ⟨0, 0, 7, 9, false, false⟩ true)) ∧
      ran (.runCancel 0 8 0) (running run) ∧ ran (.runCancel 0 8 0) (running { run with state := .ended })) ∧ ran .runDequeue base ∧
      ran .runDequeue (base.setDs { base.ds with lookDue := true }) ∧ ran .runDequeue (queued ⟨0, 0, 7, 9, true, false⟩ true) ∧
      ran .runDequeue ((queued ⟨0, 0, 7, 10, true, false⟩ true).setExtents [{ live with filling := true }]) ∧ ran .runDequeue (queued ⟨0, 0, 7, 10, true, false⟩ true) ∧
      (∃ t, sendOffer (running { run with state := .offering, peer := none, adopted := false }) = t) ∧ ran .runDequeue (queued ⟨0, 0, 7, 9, false, false⟩ true) := by
  obtain ⟨h1, h2, h3⟩ := h
  have w := h1 base 0 7 ⟨0, 10, true, false⟩ 0 0 0 2 base_up rfl rfl (.inl rfl) rfl rfl (by decide) rfl rfl (by decide) (by rintro x ⟨⟩) (by rintro x ⟨⟩) rfl
  have w' := h1 base 0 7 ⟨0, 9, false, true⟩ 0 0 0 2 base_up rfl rfl (.inl rfl) rfl rfl (by decide) rfl rfl (by decide) (by rintro x ⟨⟩) (by rintro x ⟨⟩) rfl
  have n1 := (h3 (queued ⟨0, 0, 7, 9, true, false⟩ true)).2.2.1 _ [] _ _ _ rfl rfl rfl rfl rfl rfl rfl rfl rfl rfl
  have n2 := (h3 ((queued ⟨0, 0, 7, 10, true, false⟩ true).setExtents [{ live with filling := true }])).2.2.1 _ [] _ _ _ rfl rfl rfl rfl rfl rfl rfl rfl rfl rfl
  have n3 := (h3 (queued ⟨0, 0, 7, 10, true, false⟩ true)).2.2.1 _ [] _ _ _ rfl rfl rfl rfl rfl rfl rfl rfl rfl rfl
  obtain ⟨z, -, -, -, -, -, -, -, -, -, -, -, -, e⟩ := (h3 (queued ⟨0, 0, 7, 9, false, false⟩ true)).2.2.2.2 _ [] snap _ 0 2 rfl rfl rfl rfl rfl (by decide) rfl (by decide +kernel) rfl rfl
    (by decide) rfl
  exact ⟨⟨⟨_, w.1 rfl (by decide +kernel) (by decide +kernel)⟩, ⟨_, w'.2 snap rfl (by decide +kernel) rfl (by decide)⟩⟩,
    ⟨⟨_, (h2 (queued ⟨0, 0, 7, 10, true, false⟩ true) 0 8 0 rfl).1 [] _ [] rfl rfl (by rintro y ⟨⟩) rfl⟩,
    ⟨_, (h2 (targeted (queued ⟨0, 0, 7, 9, false, false⟩ true)) 0 8 0 rfl).2.1 [] _ [] { snap with replTarget := true } rfl rfl (by rintro y ⟨⟩) rfl rfl⟩,
    ⟨_, (h2 (running run) 0 8 0 rfl).2.2.1 run (by rintro y ⟨⟩) rfl rfl (by decide)⟩,
    ⟨_, (h2 (running { run with state := .ended }) 0 8 0 rfl).2.2.2 (by rintro y ⟨⟩) (by rintro x ⟨⟩; exact .inr rfl)⟩⟩, ⟨_, (h3 base).1 rfl⟩,
    ⟨_, (h3 (base.setDs { base.ds with lookDue := true })).2.1 rfl (.inl rfl)⟩, ⟨_, n1.1 .labelTaken (by decide +kernel)⟩, ⟨_, (n2.2 (by decide +kernel)).1 (by decide)⟩,
    ⟨_, (n3.2 (by decide +kernel)).2 (by decide)⟩,
    ⟨_, (h3 (running { run with state := .offering, peer := none, adopted := false })).2.2.2.1 _ 0 2 _ rfl rfl rfl rfl rfl (by decide) rfl rfl⟩, ⟨_, e⟩⟩

/-- The delta scan of the run from block 0, with these records, this batch in assembly, the rest of a sliced entry, and outstanding batches. -/
def delta (es : List Extent) (b : Batch) (rest : Option PayloadEntry) (out : List Batch) : State :=
  (base.setExtents es).setDs { base.ds with active := some run, scanning := some 0, rest := rest, assembly := b, outstanding := out }

/-- A batch that holds 31 entries of 256 KiB each. -/
def nearlyFull : Batch := { Batch.empty with payload := List.replicate 31 ⟨200, 64, 7, 0, 32, none, 2⟩, kib := 7936 }

/-- An outstanding batch. -/
def batch (seq : Nat) (st : BatchStage) : Batch := ⟨seq, [⟨10, 4, 7, 0, 32, none, 2⟩], [], 16, st, some 3, 0, none⟩

/-- A batch that holds this many deletions. -/
def withDeletions (n : Nat) : Batch := { Batch.empty with deletions := List.replicate n ⟨200, 1⟩ }

theorem witness_DeltaScanFillsBatches (h : Obligations.DeltaScanFillsBatches) :
    closeAssembly (delta [] nearlyFull none []) =
        (delta [] .empty none []).setDs { (delta [] .empty none []).ds with active := some { run with nextSeq := 2 }, holding := some { nearlyFull with seq := 1, stage := .held } } ∧
      ran .deltaScanStep ((delta [live] .empty none []).setDs { (delta [live] .empty none []).ds with closed := some (batch 2 .held) }) ∧
      ran .deltaScanStep (delta [{ live with birth := 2 }] .empty none []) ∧ ran .deltaScanStep (delta [{ live with birth := 2, len := 64 }] nearlyFull none []) ∧
      ran .deltaScanStep (delta [{ live with birth := 2, len := 65 }] nearlyFull none []) ∧ ran .deltaScanStep (delta [{ live with death := some 2 }] (withDeletions 126) none []) ∧
      ran .deltaScanStep (delta [{ live with death := some 2 }] (withDeletions 127) none []) ∧ ran .deltaScanStep (delta [live] .empty none []) ∧
      ran .deltaScanStep (delta [] .empty (some ⟨10, 1, 7, 0, 32, none, 2⟩) []) ∧ ran .deltaScanStep (delta [] nearlyFull (some ⟨10, 64, 7, 0, 32, none, 2⟩) []) ∧
      ran .deltaScanStep (delta [] nearlyFull (some ⟨10, 65, 7, 0, 32, none, 2⟩) []) ∧
      ran .deltaScanStep (delta [] .empty none [batch 1 .awaiting]) ∧ ran .deltaScanStep (delta [] .empty none []) ∧ ran .deltaScanStep (delta [] nearlyFull none []) := by
  have f (es : List Extent) (b : Batch) (rest : Option PayloadEntry) (out : List Batch) := (h.2 (delta es b rest out) run 0 2 _ rfl rfl rfl rfl).2 rfl
  have p (e : Extent) (b b' : Batch) (he : (delta [e] b none []).nextRecord run.volume 0 = some e) := (f [e] b none []).1 e b' _ rfl he rfl
  obtain ⟨t1, -, e1, -⟩ := (p { live with birth := 2 } .empty _ rfl).1 (by decide) (by decide) (by rintro d ⟨⟩) (by decide) rfl
  obtain ⟨t2, -, -, e2⟩ := (p { live with birth := 2, len := 64 } nearlyFull _ rfl).1 (by decide) (by decide) (by rintro d ⟨⟩) (by decide) rfl
  obtain ⟨t3, -, e3, -⟩ := (p { live with death := some 2 } (withDeletions 126) _ rfl).2.2.1 (by decide) ⟨2, rfl, by decide, by decide⟩ rfl
  obtain ⟨t4, -, -, e4⟩ := (p { live with death := some 2 } (withDeletions 127) _ rfl).2.2.1 (by decide) ⟨2, rfl, by decide, by decide⟩ rfl
  obtain ⟨t5, -, e5, -⟩ := ((f [] .empty (some ⟨10, 1, 7, 0, 32, none, 2⟩) []).2.1 _ _ _ rfl rfl).1 (by decide) rfl
  obtain ⟨t6, -, -, e6⟩ := ((f [] nearlyFull (some ⟨10, 64, 7, 0, 32, none, 2⟩) []).2.1 _ _ _ rfl rfl).1 (by decide) rfl
  refine ⟨(h.1 _ run _ rfl rfl).trans rfl, ⟨_, (h.2 _ run 0 2 _ rfl rfl rfl rfl).1 (by decide)⟩, ⟨_, e1 (by decide)⟩, ⟨_, e2 (.inr (.inr (by decide +kernel)))⟩,
    ⟨_, (p { live with birth := 2, len := 65 } nearlyFull .empty rfl).2.1 64 (by decide) (by decide) (by rintro d ⟨⟩) (by decide) (by decide) (by decide)⟩,
    ⟨_, e3 (by decide +kernel)⟩, ⟨_, e4 (.inr (.inl (by decide +kernel)))⟩, ⟨_, (p live .empty .empty rfl).2.2.2 (.inr (.inl ⟨by decide, by rintro d ⟨⟩⟩))⟩,
    ⟨_, e5 (by decide)⟩, ⟨_, e6 (.inr (.inr (by decide +kernel)))⟩,
    ⟨_, ((f [] nearlyFull (some ⟨10, 65, 7, 0, 32, none, 2⟩) []).2.1 _ .empty _ rfl rfl).2 64 (by decide) (by decide) (by decide)⟩,
    ⟨_, ((f [] .empty none [batch 1 .awaiting]).2.2 rfl rfl).1 rfl rfl rfl (by decide) rfl⟩,
    ⟨_, ((f [] .empty none []).2.2 rfl rfl).2.1 _ rfl rfl rfl rfl rfl rfl rfl (by decide)⟩, ⟨_, ((f [] nearlyFull none []).2.2 rfl rfl).2.2 (.inl (by decide))⟩⟩

/-- The run with credits, a held batch and outstanding batches, its scan at this cursor. -/
def sending (held : Option Batch) (out : List Batch) (scan : Option Nat) : State :=
  base.setDs { base.ds with active := some run, scanning := scan, holding := held, outstanding := out, bucket := 1 }

/-- The run's SHIP unit of batch 1, which is SENDING, is served. -/
def served (handed : Nat) (discard : Bool) : State :=
  (sending none [batch 1 .sending] (some 14)).setDm { base.dm with engine := some (shipUnit handed discard) }

/-- The engine is busy with a LAND unit. -/
def busyWith (s : State) : State := s.setDm { s.dm with engine := some ⟨.land, 0, ⟨.staging [], .aperture 1 [], 0⟩, ⟨.zero, .zero, 0⟩, false, 0, 0, 0, false⟩ }

/-- The slot is taken. -/
def slotTaken (s : State) : State := s.setLc { s.lc with slot := some ⟨17, .close, .forward, 5, 0, 2, 0, 0, []⟩ }

theorem witness_BatchesAreSentInPieces (h : Obligations.BatchesAreSentInPieces) :
    (ran .batchTransmitStart (sending (some (batch 1 .held)) [] (some 14)) ∧ ran .batchTransmitStart (sending (some (batch 1 .held)) [] none) ∧
      ran .resendStart (sending none [batch 1 .pendingResend] (some 14)) ∧ ran .batchTransmitStart (busyWith (sending (some (batch 1 .held)) [] (some 14))) ∧
      ∃ t, grantNext ((sending (some (batch 1 .held)) [] none).setDm { base.dm with waiting := [shipUnit 0 false] }) = t) ∧
    (ran .shipPieceHandover (shipping 8192 false) ∧ ran .shipPieceHandover (shipping 0 true) ∧ ran .shipPieceHandover (slotTaken (shipping 0 false))) ∧
    ran .unitComplete (served 8192 false) ∧ ran .unitComplete (served 16384 true) ∧ ran .unitComplete (served 16384 false) ∧ ran .unitComplete (slotTaken (served 16384 false)) := by
  obtain ⟨h1, h2, h3⟩ := h
  have w (out : List Batch) (hd : Option Batch) (scan : Option Nat) (b : Batch) := h1 (sending hd out scan) run ⟨17, 1, 2⟩ b
  refine ⟨⟨⟨_, ((w [] (some (batch 1 .held)) (some 14) (batch 1 .held) _ _ _ _ rfl rfl rfl rfl rfl rfl rfl
      (.inl ⟨rfl, rfl, by decide, by rintro y ⟨⟩, .inl (by decide), rfl⟩)).2 rfl rfl (by decide)).1 rfl rfl⟩,
    ⟨_, ((w [] (some (batch 1 .held)) none (batch 1 .held) _ _ _ _ rfl rfl rfl rfl rfl rfl rfl
      (.inr (.inl ⟨rfl, rfl, by decide, by rintro y ⟨⟩, rfl, rfl, rfl, rfl, rfl, rfl, rfl⟩))).2 rfl rfl (by decide)).1 rfl rfl⟩,
    ⟨_, ((w [batch 1 .pendingResend] none (some 14) (batch 1 .pendingResend) _ _ _ _ rfl rfl rfl rfl rfl rfl rfl
      (.inr (.inr ⟨rfl, by decide, by decide, by decide, by rintro y ⟨⟩, rfl⟩))).2 rfl rfl (by decide)).1 rfl rfl⟩,
    ⟨_, ((h1 (busyWith (sending (some (batch 1 .held)) [] (some 14))) run ⟨17, 1, 2⟩ (batch 1 .held) _ _ _ _ rfl rfl rfl rfl rfl rfl rfl
      (.inl ⟨rfl, rfl, by decide, by rintro y ⟨⟩, .inl (by decide), rfl⟩)).2 rfl rfl (by decide)).2 (.inl (by decide)) (by decide)⟩,
    ⟨_, (h1 ((sending (some (batch 1 .held)) [] none).setDm { base.dm with waiting := [shipUnit 0 false] }) run ⟨17, 1, 2⟩ (batch 1 .held) _ _ _ _ rfl rfl rfl rfl rfl rfl rfl
      (.inr (.inl ⟨rfl, rfl, by decide, by rintro y ⟨⟩, rfl, rfl, rfl, rfl, rfl, rfl, rfl⟩))).1 rfl (by decide)⟩⟩,
    ⟨⟨_, (h2 (shipping 8192 false) (shipUnit 8192 false) run ⟨17, 1, 2⟩ _ rfl rfl (by decide +kernel) rfl rfl rfl).1 rfl rfl rfl rfl⟩,
    ⟨_, (h2 (shipping 0 true) (shipUnit 0 true) run ⟨17, 1, 2⟩ _ rfl rfl (by decide +kernel) rfl rfl rfl).2.1 (.inl rfl)⟩,
    ⟨_, (h2 (slotTaken (shipping 0 false)) (shipUnit 0 false) run ⟨17, 1, 2⟩ _ rfl rfl (by decide +kernel) rfl rfl rfl).2.2 rfl rfl (.inl (by decide))⟩⟩,
    ⟨_, (h3 (served 8192 false) (shipUnit 8192 false) rfl rfl rfl rfl rfl).1 (by decide +kernel)⟩,
    ⟨_, ((h3 (served 16384 true) (shipUnit 16384 true) rfl rfl rfl rfl rfl).2 (by decide +kernel)).1 rfl⟩,
    ⟨_, (((h3 (served 16384 false) (shipUnit 16384 false) rfl rfl rfl rfl rfl).2 (by decide +kernel)).2 run ⟨17, 1, 2⟩ _ _ rfl rfl rfl rfl rfl rfl).1 _ [] rfl rfl⟩,
    ⟨_, (((h3 (slotTaken (served 16384 false)) (shipUnit 16384 false) rfl rfl rfl rfl rfl).2 (by decide +kernel)).2 run ⟨17, 1, 2⟩ _ _ rfl rfl rfl rfl rfl rfl).2 (by decide)⟩⟩

/-- The run in this state, with its exchange timer running after this many resends. -/
def exchanging (st : RunState) (n : Nat) : State := running { run with state := st, exchange := some 60, resends := n, adopted := false }

/-- The run with an outstanding batch of seq 1, AWAITING, and its timer running after this many resends. -/
def awaiting (n : Nat) : State := sending none [{ batch 1 .awaiting with timer := some 60, resends := n }] (some 14)

/-- A frame of the run on its way out. -/
def leaving (k : FrameKind) : OutFrame := ⟨17, k, .forward, 5, 0, 2, 1, 0, []⟩

/-- Batch 1 is AWAITING; batch 2 is SENDING, with this digest kept, a frame in the slot, another behind it, and its SHIP unit in the engine. -/
def twoOut (digest : Option Digest) : State :=
  (((awaiting 0).setDs { (awaiting 0).ds with
    outstanding := (awaiting 0).ds.outstanding ++ [{ batch 2 .sending with digest := digest }], handover := [{ leaving .batchEnd with seq := 2 }] }).setDm
      { base.dm with engine := some { shipUnit 8192 false with seq := 2 } }).setLc { base.lc with slot := some { leaving .batchData with seq := 2 } }

theorem witness_TimersActAndFramesLeave (h : Obligations.TimersActAndFramesLeave) :
    ran .exchangeTimerExpiry (running run) ∧ ran .exchangeTimerExpiry (exchanging .offering 3) ∧ ran .exchangeTimerExpiry (exchanging .closing 2) ∧
      ran .exchangeTimerExpiry (exchanging .offering 2) ∧ ran (.receiptTimerExpiry 1) (sending none [batch 1 .awaiting] (some 14)) ∧ ran (.receiptTimerExpiry 1) (awaiting 3) ∧
      ran (.receiptTimerExpiry 1) (awaiting 2) ∧ ran (.receiptTimerExpiry 1) (twoOut none) ∧ ran .busyWaitEnd base ∧ ran .pacerInterval base ∧ ran .frameTransmit base ∧
      ran .frameTransmit (base.setLc { base.lc with control := [leaving .offer] }) ∧ ran .frameTransmit ((exchanging .offering 0).setLc { base.lc with control := [leaving .offer] }) ∧
      ran .frameTransmit ((exchanging .closing 0).setLc { base.lc with control := [leaving .close] }) ∧ ran .frameTransmit (base.setLc { base.lc with slot := some (leaving .batchHead) }) ∧
      ran .frameTransmit ((awaiting 0).setLc { base.lc with slot := some (leaving .batchHead) }) ∧ ran .frameTransmit ((awaiting 0).setLc { base.lc with slot := some (leaving .batchEnd) }) :=
  ⟨⟨_, (h.1.2.1 (running run) run rfl).1 rfl⟩, ⟨_, (h.1.2.1 (exchanging .offering 3) _ rfl).2.1 rfl (by decide)⟩,
    ⟨_, ((h.1.2.1 (exchanging .closing 2) _ rfl).2.2 ⟨17, 1, 2⟩ 2 rfl (by decide) rfl rfl rfl (by decide)).1 rfl⟩,
    ⟨_, ((h.1.2.1 (exchanging .offering 2) _ rfl).2.2 ⟨17, 1, 2⟩ 2 rfl (by decide) rfl rfl rfl (by decide)).2 _ rfl rfl⟩,
    ⟨_, (h.1.2.2.1 (sending none [batch 1 .awaiting] (some 14)) 1 _ rfl).1 (.inr rfl)⟩, ⟨_, (h.1.2.2.1 (awaiting 3) 1 _ rfl).2.1 rfl rfl (by decide)⟩,
    ⟨_, (h.1.2.2.1 (awaiting 2) 1 _ rfl).2.2 _ _ rfl rfl (by decide) (by decide) (.inr rfl) rfl rfl⟩,
    ⟨_, (h.1.2.2.1 (twoOut none) 1 _ rfl).2.2 _ _ rfl rfl (by decide) (by decide) (.inl rfl) rfl rfl⟩, ⟨_, (h.1.2.2.2 base).1⟩, ⟨_, (h.1.2.2.2 base).2⟩, ⟨_, h.2.1 base (.inr ⟨rfl, rfl⟩)⟩,
    ⟨_, (h.2.2.1 (base.setLc { base.lc with control := [leaving .offer] }) _ [] _ rfl rfl rfl).1 (by rintro x ⟨⟩)⟩,
    ⟨_, ((h.2.2.1 ((exchanging .offering 0).setLc { base.lc with control := [leaving .offer] }) _ [] _ rfl rfl rfl).2 _ rfl rfl rfl).1 rfl rfl⟩,
    ⟨_, ((h.2.2.1 ((exchanging .closing 0).setLc { base.lc with control := [leaving .close] }) _ [] _ rfl rfl rfl).2 _ rfl rfl rfl).2 rfl rfl⟩,
    ⟨_, (h.2.2.2 (base.setLc { base.lc with slot := some (leaving .batchHead) }) _ _ rfl rfl rfl rfl).1 (by decide)⟩,
    ⟨_, ((h.2.2.2 ((awaiting 0).setLc { base.lc with slot := some (leaving .batchHead) }) _ _ rfl rfl rfl rfl).2 _ (by decide) rfl).1 (by decide)⟩,
    ⟨_, ((h.2.2.2 ((awaiting 0).setLc { base.lc with slot := some (leaving .batchEnd) }) _ _ rfl rfl rfl rfl).2 _ (by decide) rfl).2 _ rfl rfl rfl⟩⟩

/-- A frame of the run's peer, backward. -/
def back (k : FrameKind) (seq arg : Nat) (payload : List Byte) : EthFrame := ⟨true, 99, 17, 0x88B5, frameBytes 1 ⟨99, k, .backward, 5, 0, 2, seq, arg, payload⟩⟩
/-- What it carries. -/
def backFrame (k : FrameKind) (seq arg : Nat) (payload : List Byte) : InFrame := ⟨0, 17, ⟨k, .backward, 1, 5, 0, 2, seq, arg⟩, payload⟩

/-- The run is DRAINING with its last batch, AWAITING. -/
def draining (seq : Nat) : State := base.setDs { base.ds with active := some { run with state := .draining, nextSeq := seq + 1 }, outstanding := [batch seq .awaiting] }

/-- Batch 1 is to be sent again, and its SHIP request waits. -/
def asking : State := (sending none [batch 1 .pendingResend] (some 14)).setDm { base.dm with waiting := [shipUnit 0 false] }

theorem witness_RunsFollowTheirPeersFrames (h : Obligations.RunsFollowTheirPeersFrames) :
    ran (.accept (arrives .offer .forward 5 0 0 0 (le 4 4 ++ le 4 0 ++ le 4 3))) (exchanging .offering 0) ∧ ran (.accept (back .accept 0 0 [])) base ∧ ran (.accept (back .accept 0 0 [])) (running { run with runId := 6 }) ∧
      ran (.accept (back .accept 0 0 [])) (exchanging .offering 0) ∧ ran (.accept (back .accept 0 0 [])) (running run) ∧ ran (.closed (back .closed 0 1 [])) (running run) ∧
      ran (.receipt (back .receipt 1 1 [])) (exchanging .closing 0) ∧ ran (.decline (back .decline 0 1 (le 4 0))) (exchanging .offering 0) ∧
      ran (.decline (back .decline 0 7 (le 4 1))) (exchanging .offering 0) ∧ ran (.decline (back .decline 0 7 (le 4 2))) (exchanging .offering 0) ∧
      ran (.closed (back .closed 0 1 [])) (exchanging .closing 0) ∧ ran (.closed (back .closed 0 2 [])) (exchanging .closing 0) ∧ ran (.receipt (back .receipt 2 1 [])) (awaiting 0) ∧
      ran (.receipt (back .receipt 1 1 [])) (awaiting 0) ∧ ran (.receipt (back .receipt 1 1 [])) asking ∧ ran (.receipt (back .receipt 2 1 [])) (twoOut none) ∧
      ran (.receipt (back .receipt 1 1 [])) (draining 1) ∧ ran (.receipt (back .receipt 1 2 [])) (awaiting 0) ∧ ran (.receipt (back .receipt 1 3 [])) (awaiting 3) ∧
      ran (.receipt (back .receipt 1 3 [])) (twoOut (some 3)) ∧ ran (.receipt (back .receipt 1 4 [])) (twoOut (some 3)) ∧
      ran (.receipt (back .receipt 1 5 [])) (awaiting 0) ∧ ran (.receipt (back .receipt 1 6 [])) (awaiting 0) := by
  have o : ∀ k seq arg ps, (exchanging .offering 0).arrival (back k seq arg ps) = .pass (backFrame k seq arg ps) → _ :=
    fun k seq arg ps ha => h.2 (exchanging .offering 0) (back k seq arg ps) (backFrame k seq arg ps) _ ⟨17, 1, 2⟩ ha rfl rfl rfl rfl rfl rfl
  have c : ∀ k seq arg ps, (exchanging .closing 0).arrival (back k seq arg ps) = .pass (backFrame k seq arg ps) → _ :=
    fun k seq arg ps ha => h.2 (exchanging .closing 0) (back k seq arg ps) (backFrame k seq arg ps) _ ⟨17, 1, 2⟩ ha rfl rfl rfl rfl rfl rfl
  have r : ∀ k seq arg ps, (running run).arrival (back k seq arg ps) = .pass (backFrame k seq arg ps) → _ :=
    fun k seq arg ps ha => h.2 (running run) (back k seq arg ps) (backFrame k seq arg ps) _ ⟨17, 1, 2⟩ ha rfl rfl rfl rfl rfl rfl
  have w : ∀ (s : State) (seq arg : Nat), s.arrival (back .receipt seq arg []) = .pass (backFrame .receipt seq arg []) → ∀ x : OutRun, s.ds.active = some x → x.peer = some ⟨17, 1, 2⟩ →
      s.lc.peers[(0 : Ctx)].address = 17 → s.lc.peers[(0 : Ctx)].id = 1 → x.runId = 5 → x.state = .shipping ∨ x.state = .draining → _ :=
    fun s seq arg ha x hx hp h1 h2 h3 hs => (h.2 s (back .receipt seq arg []) (backFrame .receipt seq arg []) x ⟨17, 1, 2⟩ ha rfl hx hp h1 h2 h3.symm).2.2.2.2.2.2 rfl hs
  exact ⟨⟨_, (h.1 _ _ (inFrame .offer .forward 5 0 0 0 (le 4 4 ++ le 4 0 ++ le 4 3)) (by decide +kernel) (.inl rfl)).1⟩,
    ⟨_, (h.1 _ _ (backFrame .accept 0 0 []) (by decide +kernel) (.inr (by rintro x c ⟨⟩))).1⟩,
    ⟨_, (h.1 _ _ (backFrame .accept 0 0 []) (by decide +kernel) (.inr (by rintro x c ⟨⟩ ⟨⟩; decide))).1⟩,
    ⟨_, (o .accept 0 0 [] (by decide +kernel)).1 rfl rfl rfl⟩, ⟨_, ((r .accept 0 0 [] (by decide +kernel)).2.1 (.inl (by decide))).1⟩,
    ⟨_, (r .closed 0 1 [] (by decide +kernel)).2.2.1 (by decide)⟩, ⟨_, (c .receipt 1 1 [] (by decide +kernel)).2.2.2.1 (by decide) (by decide)⟩,
    ⟨_, ((o .decline 0 1 (le 4 0) (by decide +kernel)).2.2.2.2.1 rfl rfl rfl).1 (by decide)⟩,
    ⟨_, (((o .decline 0 7 (le 4 1) (by decide +kernel)).2.2.2.2.1 rfl rfl rfl).2 1 rfl (by decide)).1 (.inr (.inr (by decide +kernel)))⟩,
    ⟨_, (((o .decline 0 7 (le 4 2) (by decide +kernel)).2.2.2.2.1 rfl rfl rfl).2 2 rfl (by decide)).2 snap 2 rfl (by decide) (by decide +kernel) rfl rfl (by decide) rfl rfl (by decide)⟩,
    ⟨_, ((c .closed 0 1 [] (by decide +kernel)).2.2.2.2.2.1 rfl rfl).1 rfl⟩, ⟨_, ((c .closed 0 2 [] (by decide +kernel)).2.2.2.2.2.1 rfl rfl).2 (by decide)⟩,
    ⟨_, (w (awaiting 0) 2 1 (by decide +kernel) _ rfl rfl rfl rfl rfl (.inl rfl)).1 (by decide +kernel)⟩,
    ⟨_, (((w (awaiting 0) 1 1 (by decide +kernel) _ rfl rfl rfl rfl rfl (.inl rfl)).2 _ rfl).1 _ _ _ _ _ _ _ rfl rfl rfl rfl rfl (.inl rfl) rfl rfl rfl).1 (.inr rfl)⟩,
    ⟨_, (((w asking 1 1 (by decide +kernel) _ rfl rfl rfl rfl rfl (.inl rfl)).2 _ rfl).1 _ _ _ _ _ _ _ rfl rfl rfl rfl rfl (.inl rfl) rfl rfl rfl).1 (.inr rfl)⟩,
    ⟨_, (((w (twoOut none) 2 1 (by decide +kernel) _ rfl rfl rfl rfl rfl (.inl rfl)).2 _ rfl).1 _ _ _ _ _ _ _ rfl rfl rfl rfl rfl (.inr (.inl rfl)) rfl rfl rfl).1 (.inr rfl)⟩,
    ⟨_, (((w (draining 1) 1 1 (by decide +kernel) _ rfl rfl rfl rfl rfl (.inr rfl)).2 _ rfl).1 _ _ _ _ _ _ _ rfl rfl rfl rfl rfl (.inl rfl) rfl rfl rfl).2 2 rfl rfl rfl rfl (by decide)⟩,
    ⟨_, ((w (awaiting 0) 1 2 (by decide +kernel) _ rfl rfl rfl rfl rfl (.inl rfl)).2 _ rfl).2.1 rfl rfl⟩,
    ⟨_, ((w (awaiting 3) 1 3 (by decide +kernel) _ rfl rfl rfl rfl rfl (.inl rfl)).2 _ rfl).2.2.1 rfl rfl (by decide)⟩,
    ⟨_, (((w (twoOut (some 3)) 1 3 (by decide +kernel) _ rfl rfl rfl rfl rfl (.inl rfl)).2 _ rfl).2.2.2.1 1 _ _ _ rfl rfl (by decide) (.inl rfl) rfl rfl rfl).1 rfl (by decide)⟩,
    ⟨_, (((w (twoOut (some 3)) 1 4 (by decide +kernel) _ rfl rfl rfl rfl rfl (.inl rfl)).2 _ rfl).2.2.2.1 1 _ _ _ rfl rfl (by decide) (.inl rfl) rfl rfl rfl).2 rfl⟩,
    ⟨_, ((w (awaiting 0) 1 5 (by decide +kernel) _ rfl rfl rfl rfl rfl (.inl rfl)).2 _ rfl).2.2.2.2.1 rfl rfl⟩,
    ⟨_, ((w (awaiting 0) 1 6 (by decide +kernel) _ rfl rfl rfl rfl rfl (.inl rfl)).2 _ rfl).2.2.2.2.2 (.inl rfl)⟩⟩

theorem witness_RunsEndOnceWithTheirCounts (h : Obligations.RunsEndOnceWithTheirCounts) :
    endRun 0x22 0 true (running { run with state := .ended }) = running { run with state := .ended } ∧ (endRun 0x21 255 true (targeted (running run))).ds.active = none ∧
      (endRun 0x27 0x34 true (running { run with peer := none })).ds.active = none ∧ (endRun 0x21 256 true (targeted (running run))).free = (running run).free + 1 ∧
      (endRun 0x22 0 true ((targeted (running run)).setRing 0 ringStalled)).ds.active = some { run with state := .ended, ending := some ⟨0x22, 0⟩ } ∧
      (endRun 0x20 0 false (targeted (exchanging .closing 0))).ds.active = none ∧
      ((endRun 0x20 0 false ((targeted (exchanging .closing 0)).setRing 0 ringStalled)).ds.active.map (·.state)) = some .ended := by
  have w (s : State) (x : OutRun) (reason detail : Nat) (hx : s.ds.active = some x) (hp : x.peer = some ⟨17, 1, 2⟩) (hb : x.counts.batches < 2 ^ 32) (he : x.counts.entries < 2 ^ 32)
      (hk : x.counts.kib < 2 ^ 40) (hd : x.counts.deletions < 2 ^ 24) (hr : x.batchResends < 2 ^ 16) (hu : s.lc.up = true) (hc : s.lc.control.length < 16) :=
    h s x ⟨17, 1, 2⟩ reason detail _ _ _ _ _ _ _ hx (.inl hp) hb he hk hd hr hu hc rfl rfl rfl rfl rfl rfl rfl
  refine ⟨(w (running { run with state := .ended }) _ 0x22 0 rfl rfl (by decide) (by decide) (by decide) (by decide) (by decide) rfl (by decide)).1 rfl true, ?_, ?_, ?_, ?_, ?_, ?_⟩
  · rw [((w (targeted (running run)) _ 0x21 255 rfl rfl (by decide) (by decide) (by decide) (by decide) (by decide) rfl (by decide)).2.1 (by decide)
      (by decide) true _ _ _ rfl rfl rfl).2 (by decide +kernel)]; rfl
  · rw [((h (running { run with peer := none }) _ ⟨17, 1, 2⟩ 0x27 0x34 _ _ _ _ _ _ _ rfl (.inr ⟨rfl, 0, 2, rfl, rfl, rfl⟩) (by decide) (by decide) (by decide) (by decide) (by decide) rfl (by decide)
      rfl rfl rfl rfl rfl rfl rfl).2.1 (by decide) (by decide) true _ _ _ rfl rfl rfl).2 (by decide +kernel)]; rfl
  · rw [((w (targeted (running run)) _ 0x21 256 rfl rfl (by decide) (by decide) (by decide) (by decide) (by decide) rfl (by decide)).2.1 (by decide)
      (by decide) true _ _ _ rfl rfl rfl).2 rfl]; rfl
  · rw [((w ((targeted (running run)).setRing 0 ringStalled) _ 0x22 0 rfl rfl (by decide) (by decide) (by decide) (by decide) (by decide) rfl (by decide)).2.1 (by decide)
      (by decide) true _ _ _ rfl rfl rfl).1 (by decide +kernel)]; rfl
  · rw [((w (targeted (exchanging .closing 0)) _ 0x20 0 rfl rfl (by decide) (by decide) (by decide) (by decide) (by decide) rfl (by decide)).2.2
      { snap with replTarget := true } 2 _ (by decide) rfl rfl (by decide +kernel) rfl rfl (by decide +kernel) rfl (by decide +kernel) rfl).2 (by decide +kernel)]; rfl
  · rw [((w ((targeted (exchanging .closing 0)).setRing 0 ringStalled) _ 0x20 0 rfl rfl (by decide) (by decide) (by decide) (by decide) (by decide) rfl (by decide)).2.2
      { snap with replTarget := true } 2 _ (by decide) rfl rfl (by decide +kernel) rfl rfl (by decide +kernel) rfl (by decide +kernel) rfl).1 (by decide +kernel)]; rfl

/-! ### Witnesses: the Duplication Receiver -/

theorem witness_OffersAreJudgedInOrder (h : Obligations.OffersAreJudgedInOrder) :
    ran (.offer (arrives .offer .forward 5 16 0 0 (le 4 4 ++ le 4 0 ++ le 4 3))) base ∧
      ran (.offer (arrives .offer .forward 5 1 0 0 (le 4 4 ++ le 4 1 ++ le 4 3))) (receiving inbound) ∧
      ran (.offer (arrives .offer .forward 5 0 0 0 (le 4 4 ++ le 4 0 ++ le 4 3))) base ∧
      ran (.offer (arrives .offer .forward 5 1 0 0 (le 4 4 ++ le 4 0 ++ le 4 3))) (base.setStrap true) ∧
      ran (.offer (arrives .offer .forward 5 1 0 0 (le 4 4 ++ le 4 0 ++ le 4 3))) (base.setDm { base.dm with faults := base.dm.faults.set 2 ⟨true, 0, .read, .volume 0, false⟩ }) ∧
      ran (.offer (arrives .offer .forward 5 1 0 0 (le 4 4 ++ le 4 0 ++ le 4 3))) (receiving { inbound with state := .aborting }) ∧
      ran (.offer (arrives .offer .forward 5 1 0 0 (le 4 8 ++ le 4 0 ++ le 4 3))) base ∧
      ran (.offer (arrives .offer .forward 5 1 0 0 (le 4 4 ++ le 4 0 ++ le 4 3))) (base.setExtents [{ live with volume := 1 }]) ∧
      ran (.offer (arrives .offer .forward 5 1 0 0 (le 4 4 ++ le 4 1 ++ le 4 3))) base ∧
      ran (.offer (arrives .offer .forward 5 1 0 0 (le 4 4 ++ le 4 0 ++ le 4 0))) base ∧
      ran (.offer (arrives .offer .forward 5 1 0 0 (le 4 4 ++ le 4 0 ++ le 4 4294967295))) base ∧
      ran (.offer (arrives .offer .forward 5 1 0 0 (le 4 4 ++ le 4 0 ++ le 4 1))) base :=
  ⟨⟨_, (h base (arrives .offer .forward 5 16 0 0 (le 4 4 ++ le 4 0 ++ le 4 3)) (inFrame .offer .forward 5 16 0 0 (le 4 4 ++ le 4 0 ++ le 4 3)) (by decide +kernel) rfl rfl rfl (by decide)).1 (by decide)⟩,
    ⟨_, ((h (receiving inbound) (arrives .offer .forward 5 1 0 0 (le 4 4 ++ le 4 1 ++ le 4 3)) (inFrame .offer .forward 5 1 0 0 (le 4 4 ++ le 4 1 ++ le 4 3)) (by decide +kernel) rfl rfl rfl (by decide)).2 1 _ _ _ rfl rfl rfl rfl).1 0 _ rfl rfl rfl rfl rfl rfl (by decide +kernel)⟩,
    ⟨_, ((((h base (arrives .offer .forward 5 0 0 0 (le 4 4 ++ le 4 0 ++ le 4 3)) (inFrame .offer .forward 5 0 0 0 (le 4 4 ++ le 4 0 ++ le 4 3)) (by decide +kernel) rfl rfl rfl (by decide)).2 0 _ _ _ rfl rfl rfl rfl).2 false false _ (by decide +kernel) (by decide +kernel) (by decide +kernel) rfl (by decide)).1 1 (by decide +kernel))⟩,
    ⟨_, ((((h (base.setStrap true) (arrives .offer .forward 5 1 0 0 (le 4 4 ++ le 4 0 ++ le 4 3)) (inFrame .offer .forward 5 1 0 0 (le 4 4 ++ le 4 0 ++ le 4 3)) (by decide +kernel) rfl rfl rfl (by decide)).2 1 _ _ _ rfl rfl rfl rfl).2 true false _ (by decide +kernel) (by decide +kernel) (by decide +kernel) rfl (by decide)).1 2 (by decide +kernel))⟩,
    ⟨_, ((((h (base.setDm { base.dm with faults := base.dm.faults.set 2 ⟨true, 0, .read, .volume 0, false⟩ }) (arrives .offer .forward 5 1 0 0 (le 4 4 ++ le 4 0 ++ le 4 3)) (inFrame .offer .forward 5 1 0 0 (le 4 4 ++ le 4 0 ++ le 4 3)) (by decide +kernel) rfl rfl rfl (by decide)).2 1 _ _ _ rfl rfl rfl rfl).2 true false _ (by decide +kernel) (by decide +kernel) (by decide +kernel) rfl (by decide)).1 3 (by decide +kernel))⟩,
    ⟨_, ((((h (receiving { inbound with state := .aborting }) (arrives .offer .forward 5 1 0 0 (le 4 4 ++ le 4 0 ++ le 4 3)) (inFrame .offer .forward 5 1 0 0 (le 4 4 ++ le 4 0 ++ le 4 3)) (by decide +kernel) rfl rfl rfl (by decide)).2 1 _ _ _ rfl rfl rfl rfl).2 true true _ (by decide +kernel) (by decide +kernel) (by decide +kernel) rfl (by decide)).1 4 (by decide +kernel))⟩,
    ⟨_, ((((h base (arrives .offer .forward 5 1 0 0 (le 4 8 ++ le 4 0 ++ le 4 3)) (inFrame .offer .forward 5 1 0 0 (le 4 8 ++ le 4 0 ++ le 4 3)) (by decide +kernel) rfl rfl rfl (by decide)).2 1 _ _ _ rfl rfl rfl rfl).2 true false _ (by decide +kernel) (by decide +kernel) (by decide +kernel) rfl (by decide)).1 5 (by decide +kernel))⟩,
    ⟨_, ((((h (base.setExtents [{ live with volume := 1 }]) (arrives .offer .forward 5 1 0 0 (le 4 4 ++ le 4 0 ++ le 4 3)) (inFrame .offer .forward 5 1 0 0 (le 4 4 ++ le 4 0 ++ le 4 3)) (by decide +kernel) rfl rfl rfl (by decide)).2 1 _ _ _ rfl rfl rfl rfl).2 false false _ (by decide +kernel) (by decide +kernel) (by decide +kernel) rfl (by decide)).1 6 (by decide +kernel))⟩,
    ⟨_, ((((h base (arrives .offer .forward 5 1 0 0 (le 4 4 ++ le 4 1 ++ le 4 3)) (inFrame .offer .forward 5 1 0 0 (le 4 4 ++ le 4 1 ++ le 4 3)) (by decide +kernel) rfl rfl rfl (by decide)).2 1 _ _ _ rfl rfl rfl rfl).2 true false _ (by decide +kernel) (by decide +kernel) (by decide +kernel) rfl (by decide)).1 7 (by decide +kernel))⟩,
    ⟨_, ((((h base (arrives .offer .forward 5 1 0 0 (le 4 4 ++ le 4 0 ++ le 4 0)) (inFrame .offer .forward 5 1 0 0 (le 4 4 ++ le 4 0 ++ le 4 0)) (by decide +kernel) rfl rfl rfl (by decide)).2 1 _ _ _ rfl rfl rfl rfl).2 true false _ (by decide +kernel) (by decide +kernel) (by decide +kernel) rfl (by decide)).1 8 (by decide +kernel))⟩,
    ⟨_, ((((h base (arrives .offer .forward 5 1 0 0 (le 4 4 ++ le 4 0 ++ le 4 4294967295)) (inFrame .offer .forward 5 1 0 0 (le 4 4 ++ le 4 0 ++ le 4 4294967295)) (by decide +kernel) rfl rfl rfl (by decide)).2 1 _ _ _ rfl rfl rfl rfl).2 true false _ (by decide +kernel) (by decide +kernel) (by decide +kernel) rfl (by decide)).1 8 (by decide +kernel))⟩,
    ⟨_, ((((h base (arrives .offer .forward 5 1 0 0 (le 4 4 ++ le 4 0 ++ le 4 1)) (inFrame .offer .forward 5 1 0 0 (le 4 4 ++ le 4 0 ++ le 4 1)) (by decide +kernel) rfl rfl rfl (by decide)).2 1 _ _ _ rfl rfl rfl rfl).2 true false _ (by decide +kernel) (by decide +kernel) (by decide +kernel) rfl (by decide)).2 0 (by decide +kernel) rfl (by decide +kernel))⟩⟩

/-- A payload entry of one block, and one whose birth is not above the run's base. -/
def entry (birth : Nat) : PayloadEntry := ⟨10, 1, 7, 0, 32, none, birth⟩

/-- A slot that holds batch 1, of that entry. -/
def slot (st : SlotState) (payload : List Byte) (total : Nat) : Slot := ⟨st, 1, [entry 2], [], total, payload, false, 0, 0, []⟩

/-- The inbound run with this slot 0. -/
def staged (y z : Slot) : State := receiving { inbound with slots := #v[y, z] }

theorem witness_BatchesAreStagedAndJudged (h : Obligations.BatchesAreStagedAndJudged) :
    ran (.batchHead (arrives .batchHead .forward 5 1 0 (headArg [entry 2] []) (headPayload [entry 2] []))) (receiving inbound) ∧
      ran (.batchHead (arrives .batchHead .forward 5 1 1 (headArg [entry 2] []) (headPayload [entry 2] []))) (receiving inbound) ∧
      ran (.batchHead (arrives .batchHead .forward 5 1 1 (headArg [entry 2] []) (headPayload [entry 2] []))) (staged (slot .ready [] 0) (slot .filling [] 4096)) ∧
      ran (.batchHead (arrives .batchHead .forward 5 1 1 (headArg [entry 1] []) (headPayload [entry 1] []))) (receiving inbound) ∧
      ran (.batchHead (arrives .batchHead .forward 5 1 1 (headArg [entry 2] []) (headPayload [entry 2] []))) (staged (slot .ready [] 0) (slot .landing [] 0)) ∧
      ran (.batchHead (arrives .batchHead .forward 5 1 1 (headArg [entry 2] []) (headPayload [entry 2] []))) (receiving { inbound with expected := 2 }) ∧
      ran (.batchHead (arrives .batchHead .forward 5 1 2 (headArg [entry 2] []) (headPayload [entry 2] []))) (receiving inbound) ∧
      ran (.batchData (arrives .batchData .forward 5 1 1 0 [1, 2, 3, 4])) (receiving inbound) ∧
      ran (.batchData (arrives .batchData .forward 5 1 1 0 [1, 2, 3, 4])) (staged (slot .filling [] 4096) .clear) ∧
      ran (.batchData (arrives .batchData .forward 5 1 1 4 [1, 2, 3, 4])) (staged (slot .filling [] 4096) .clear) ∧
      ran (.batchData (arrives .batchData .forward 5 1 1 4 [1, 2, 3, 4])) (staged (slot .filling [1, 2, 3, 4] 4) .clear) ∧
      ran (.batchEnd (arrives .batchEnd .forward 5 1 1 0 [])) (staged { slot .filling [] 0 with entries := [], deletions := [⟨10, 1⟩] } .clear) ∧
      ran (.batchEnd (arrives .batchEnd .forward 5 1 1 1 [])) (staged { slot .filling [] 0 with entries := [], deletions := [⟨10, 1⟩] } .clear) ∧
      ran (.batchEnd (arrives .batchEnd .forward 5 1 1 0 [])) (receiving { inbound with reply := some (1, .busy) }) ∧
      ran (.batchEnd (arrives .batchEnd .forward 5 1 1 0 [])) (receiving inbound) ∧
      ran (.batchEnd (arrives .batchEnd .forward 5 1 1 0 [])) (receiving { inbound with expected := 2, reply := some (1, .duplicate) }) :=
  ⟨⟨_, (h (receiving inbound) (arrives .batchHead .forward 5 1 0 (headArg [entry 2] []) (headPayload [entry 2] [])) (inFrame .batchHead .forward 5 1 0 (headArg [entry 2] []) (headPayload [entry 2] [])) 0 _ _ _ (by decide +kernel) rfl rfl (by decide) rfl rfl rfl rfl rfl (by decide +kernel) rfl rfl).1 rfl |>.1 rfl⟩,
    ⟨_, (h (receiving inbound) (arrives .batchHead .forward 5 1 1 (headArg [entry 2] []) (headPayload [entry 2] [])) (inFrame .batchHead .forward 5 1 1 (headArg [entry 2] []) (headPayload [entry 2] [])) 0 _ _ _ (by decide +kernel) rfl rfl (by decide) rfl rfl rfl rfl rfl (by decide +kernel) rfl rfl).1 rfl |>.2.1 0 _ _ _ _ (by decide) rfl (.inr ⟨(by decide +kernel), rfl, by decide⟩) rfl rfl rfl Iff.rfl |>.1 (by decide +kernel)⟩,
    ⟨_, (h (staged (slot .ready [] 0) (slot .filling [] 4096)) (arrives .batchHead .forward 5 1 1 (headArg [entry 2] []) (headPayload [entry 2] [])) (inFrame .batchHead .forward 5 1 1 (headArg [entry 2] []) (headPayload [entry 2] [])) 0 _ _ _ (by decide +kernel) rfl rfl (by decide) rfl rfl rfl rfl rfl (by decide +kernel) rfl rfl).1 rfl |>.2.1 1 _ _ _ _ (by decide) rfl (.inl (by decide +kernel)) rfl rfl rfl Iff.rfl |>.1 (by decide +kernel)⟩,
    ⟨_, (h (receiving inbound) (arrives .batchHead .forward 5 1 1 (headArg [entry 1] []) (headPayload [entry 1] [])) (inFrame .batchHead .forward 5 1 1 (headArg [entry 1] []) (headPayload [entry 1] [])) 0 _ _ _ (by decide +kernel) rfl rfl (by decide) rfl rfl rfl rfl rfl (by decide +kernel) rfl rfl).1 rfl |>.2.1 0 _ _ _ _ (by decide) rfl (.inr ⟨(by decide +kernel), rfl, by decide⟩) rfl rfl rfl Iff.rfl |>.2 (by decide +kernel)⟩,
    ⟨_, (h (staged (slot .ready [] 0) (slot .landing [] 0)) (arrives .batchHead .forward 5 1 1 (headArg [entry 2] []) (headPayload [entry 2] [])) (inFrame .batchHead .forward 5 1 1 (headArg [entry 2] []) (headPayload [entry 2] [])) 0 _ _ _ (by decide +kernel) rfl rfl (by decide) rfl rfl rfl rfl rfl (by decide +kernel) rfl rfl).1 rfl |>.2.2.1 (by decide) rfl (by decide +kernel)⟩,
    ⟨_, (h (receiving { inbound with expected := 2 }) (arrives .batchHead .forward 5 1 1 (headArg [entry 2] []) (headPayload [entry 2] [])) (inFrame .batchHead .forward 5 1 1 (headArg [entry 2] []) (headPayload [entry 2] [])) 0 _ _ _ (by decide +kernel) rfl rfl (by decide) rfl rfl rfl rfl rfl (by decide +kernel) rfl rfl).1 rfl |>.2.2.2.1 (by decide) (by decide) _ rfl⟩,
    ⟨_, (h (receiving inbound) (arrives .batchHead .forward 5 1 2 (headArg [entry 2] []) (headPayload [entry 2] [])) (inFrame .batchHead .forward 5 1 2 (headArg [entry 2] []) (headPayload [entry 2] [])) 0 _ _ _ (by decide +kernel) rfl rfl (by decide) rfl rfl rfl rfl rfl (by decide +kernel) rfl rfl).1 rfl |>.2.2.2.2 (by decide)⟩,
    ⟨_, (h (receiving inbound) (arrives .batchData .forward 5 1 1 0 [1, 2, 3, 4]) (inFrame .batchData .forward 5 1 1 0 [1, 2, 3, 4]) 0 _ _ _ (by decide +kernel) rfl rfl (by decide) rfl rfl rfl rfl rfl (by decide +kernel) rfl rfl).2.1 rfl |>.1 (by decide +kernel)⟩,
    ⟨_, (h (staged (slot .filling [] 4096) .clear) (arrives .batchData .forward 5 1 1 0 [1, 2, 3, 4]) (inFrame .batchData .forward 5 1 1 0 [1, 2, 3, 4]) 0 _ _ _ (by decide +kernel) rfl rfl (by decide) rfl rfl rfl rfl rfl (by decide +kernel) rfl rfl).2.1 rfl |>.2 0 _ rfl rfl rfl (by decide) |>.1 rfl (by decide)⟩,
    ⟨_, (h (staged (slot .filling [] 4096) .clear) (arrives .batchData .forward 5 1 1 4 [1, 2, 3, 4]) (inFrame .batchData .forward 5 1 1 4 [1, 2, 3, 4]) 0 _ _ _ (by decide +kernel) rfl rfl (by decide) rfl rfl rfl rfl rfl (by decide +kernel) rfl rfl).2.1 rfl |>.2 0 _ rfl rfl rfl (by decide) |>.2 (.inl (by decide))⟩,
    ⟨_, (h (staged (slot .filling [1, 2, 3, 4] 4) .clear) (arrives .batchData .forward 5 1 1 4 [1, 2, 3, 4]) (inFrame .batchData .forward 5 1 1 4 [1, 2, 3, 4]) 0 _ _ _ (by decide +kernel) rfl rfl (by decide) rfl rfl rfl rfl rfl (by decide +kernel) rfl rfl).2.1 rfl |>.2 0 _ rfl rfl rfl (by decide) |>.2 (.inr (by decide))⟩,
    (by obtain ⟨_, _, e, _⟩ := (h (staged { slot .filling [] 0 with entries := [], deletions := [⟨10, 1⟩] } .clear) (arrives .batchEnd .forward 5 1 1 0 []) (inFrame .batchEnd .forward 5 1 1 0 []) 0 _ _ _ (by decide +kernel) rfl rfl (by decide) rfl rfl rfl rfl rfl (by decide +kernel) rfl rfl).2.2 rfl |>.1 0 _ rfl rfl rfl (by decide) |>.1 rfl rfl rfl; exact ⟨_, e⟩),
    ⟨_, (h (staged { slot .filling [] 0 with entries := [], deletions := [⟨10, 1⟩] } .clear) (arrives .batchEnd .forward 5 1 1 1 []) (inFrame .batchEnd .forward 5 1 1 1 []) 0 _ _ _ (by decide +kernel) rfl rfl (by decide) rfl rfl rfl rfl rfl (by decide +kernel) rfl rfl).2.2 rfl |>.1 0 _ rfl rfl rfl (by decide) |>.2 (.inr (.inr (by decide)))⟩,
    ⟨_, (h (receiving { inbound with reply := some (1, .busy) }) (arrives .batchEnd .forward 5 1 1 0 []) (inFrame .batchEnd .forward 5 1 1 0 []) 0 _ _ _ (by decide +kernel) rfl rfl (by decide) rfl rfl rfl rfl rfl (by decide +kernel) rfl rfl).2.2 rfl |>.2 (by decide +kernel) |>.1 rfl⟩,
    ⟨_, (h (receiving inbound) (arrives .batchEnd .forward 5 1 1 0 []) (inFrame .batchEnd .forward 5 1 1 0 []) 0 _ _ _ (by decide +kernel) rfl rfl (by decide) rfl rfl rfl rfl rfl (by decide +kernel) rfl rfl).2.2 rfl |>.2 (by decide +kernel) |>.2.2 (by rintro k ⟨⟩)⟩,
    ⟨_, (h (receiving { inbound with expected := 2, reply := some (1, .duplicate) }) (arrives .batchEnd .forward 5 1 1 0 []) (inFrame .batchEnd .forward 5 1 1 0 []) 0 _ _ _ (by decide +kernel) rfl rfl (by decide) rfl rfl rfl rfl rfl (by decide +kernel) rfl rfl).2.2 rfl |>.2 (by decide +kernel) |>.2.1 rfl _ rfl⟩⟩

/-- Volume 1 has this landing pool, and the run a READY batch of the entry. -/
def landing (pool : List Run) : State := (staged (slot .ready (zeros 4096) 4096) .clear).setReplVol 1 { ReplVol.empty with pool := pool }

/-- A READY batch of a deletion only. -/
def deleting : State := staged { slot .ready [] 0 with entries := [], deletions := [⟨10, 4⟩] } .clear

/-- The slot of a batch of two entries whose LAND unit is at work: the first entry's three blocks lie on two runs of the pool, and a deletion cuts a record of the volume. -/
def landSlot : Slot := ⟨.landing, 1, [⟨10, 3, 7, 0, 32, none, 2⟩, ⟨30, 1, 8, 5, 32, none, 2⟩], [⟨11, 2⟩], 16384, zeros 16384, false, 0, 0, [[⟨60, 2⟩, ⟨70, 1⟩], [⟨71, 1⟩]]⟩

/-- That batch, with the blocks of its entries taken from the pool of volume 1. -/
def landed : State :=
  (((staged landSlot .clear).setReplVol 1 { ReplVol.empty with pool := [⟨60, 2⟩, ⟨70, 4⟩], takeMark := 4 }).setDm
    { base.dm with engine := some ⟨.land, 0, ⟨.staging (zeros 16384), .aperture 1 [⟨60, 2⟩, ⟨70, 1⟩, ⟨71, 1⟩], 4⟩, ⟨.zero, .zero, 0⟩, false, 1, 0, 0, false⟩ }).setExtents
    [live, { live with volume := 1, source := some 10 }]

/-- The records that a payload entry makes on its runs, in the run of `inbound`. -/
def landMade (e : PayloadEntry) : List Run → List Extent
  | [g] => [⟨1, g.first, g.len, e.object, e.offset, e.owner, e.group, e.birth, none, false, some ⟨5, .provBirth⟩, some e.first⟩]
  | [g, h] => [⟨1, g.first, g.len, e.object, e.offset, e.owner, e.group, e.birth, none, false, some ⟨5, .provBirth⟩, some e.first⟩,
      ⟨1, h.first, h.len, e.object, e.offset + g.len, e.owner, e.group, e.birth, none, false, some ⟨5, .provBirth⟩, some (e.first + g.len)⟩]
  | _ => []

theorem witness_BatchesLandOnThePool (h : Obligations.BatchesLandOnThePool) :
    takeBlocks 1 [⟨60, 2⟩] = some ([⟨60, 1⟩], [⟨61, 1⟩]) ∧ takeBlocks 2 [⟨60, 2⟩] = some ([⟨60, 2⟩], []) ∧ takeBlocks 3 [⟨60, 2⟩] = none ∧
      takeBlocks 7 [⟨60, 2⟩, ⟨70, 4⟩] = none ∧ takeBlocks 6 [⟨60, 2⟩, ⟨70, 4⟩] = some ([⟨60, 2⟩, ⟨70, 4⟩], []) ∧
      takeBlocks 3 [⟨60, 2⟩, ⟨70, 4⟩] = some ([⟨60, 2⟩, ⟨70, 1⟩], [⟨71, 3⟩]) ∧
      blocksOf (poolDrop 3 [⟨60, 2⟩, ⟨70, 4⟩]) = [71, 72, 73] ∧
      (landNext 0 (landing [⟨60, 1⟩])).dm.engine.isSome = true ∧
      (landNext 0 ((landing [⟨60, 1⟩]).setDm { base.dm with engine := some (unit 1) })).dm.waiting.length = 1 ∧
      ((landNext 0 deleting).inCtx 0).slots = Vector.replicate 2 .clear ∧
      ((landNext 0 (landing [])).inCtx 0).state = .aborting ∧
      ran .unitComplete landed ∧
      (∃ a : State, (landEnd 0 0 landed).extents = a.extents) ∧
      applyDeletions 1 5 [⟨14, 1⟩] [{ live with volume := 1, source := some 10 }] = [{ live with volume := 1, source := some 10 }] ∧
      applyDeletion 1 5 [{ live with volume := 1, source := some 10 }] ⟨14, 1⟩ = [{ live with volume := 1, source := some 10 }] ∧
      applyDeletion 1 5 [{ live with volume := 1, source := some 10 }] ⟨10, 4⟩ = [{ live with volume := 1, source := some 10, mark := some ⟨5, .provDeath⟩ }] ∧
      (applyDeletion 1 5 [{ live with volume := 1, source := some 10 }] ⟨11, 2⟩).length = 3 := by
  obtain ⟨ht, hp, hn, hu, he, hf, hd⟩ := h
  refine ⟨(ht 1 ⟨60, 2⟩ [] (by decide) (by decide)).1 (by decide), (ht 2 ⟨60, 2⟩ [] (by decide) (by decide)).2.1 rfl,
    (ht 3 ⟨60, 2⟩ [] (by decide) (by decide)).2.2.1 (by decide) rfl,
    ((ht 7 ⟨60, 2⟩ [⟨70, 4⟩] (by decide) (by decide)).2.2.2 _ _ (by decide) rfl).1 (by decide),
    ((ht 6 ⟨60, 2⟩ [⟨70, 4⟩] (by decide) (by decide)).2.2.2 _ _ (by decide) rfl).2.1 rfl,
    ((ht 3 ⟨60, 2⟩ [⟨70, 4⟩] (by decide) (by decide)).2.2.2 _ _ (by decide) rfl).2.2 (by decide),
    (hp landSlot.entries _ blocksOf fun _ => rfl).1 3, ?_, ?_, ?_, ?_, ?_, ?_, ?_, ?_, ?_, ?_⟩
  · rw [((hn (landing [⟨60, 1⟩]) 0 _ 0 _ _ _ rfl rfl rfl rfl (by decide +kernel) rfl rfl).1 [[⟨60, 1⟩]] (by decide +kernel) (by decide +kernel) (.inl (by decide +kernel)) _ _ rfl rfl).1
      (by decide) (by decide) |>.1 rfl rfl]; rfl
  · rw [((hn ((landing [⟨60, 1⟩]).setDm { base.dm with engine := some (unit 1) }) 0 _ 0 _ _ _ rfl rfl rfl rfl (by decide +kernel) rfl rfl).1 [[⟨60, 1⟩]] (by decide +kernel)
      (by decide +kernel) (.inl (by decide +kernel)) _ _ rfl rfl).1 (by decide) (by decide) |>.2 (.inl (by decide))]; rfl
  · rw [((hn deleting 0 _ 0 _ _ _ rfl rfl rfl rfl (by decide +kernel) rfl rfl).1 [] (by decide +kernel) (by decide +kernel) (.inl (by decide +kernel)) _ _ rfl rfl).2 rfl]; decide +kernel
  · rw [(hn (landing []) 0 _ 0 _ _ _ rfl rfl rfl rfl (by decide +kernel) rfl rfl).2 (.inl (by rintro _ ⟨⟩)) rfl (by decide)]; rfl
  · exact ⟨_, hu landed _ 0 _ 0 rfl rfl rfl (.inr rfl) rfl rfl rfl (by decide +kernel)⟩
  · obtain ⟨a, _, _, e⟩ := (he landed 0 _ 0 landSlot _ _ landMade _ _ rfl rfl rfl (by decide) rfl (by decide) rfl rfl rfl (fun _ _ => rfl) (fun _ _ _ => rfl) rfl rfl).1 (by decide +kernel)
    exact ⟨a, by rw [e]; rfl⟩
  · rw [hf]; exact (by decide +kernel)
  · exact (hd 1 5 ⟨14, 1⟩ { live with volume := 1, source := some 10 } 10 rfl).1 (.inr (.inr (.inr (.inl (by decide)))))
  · rw [(hd 1 5 ⟨10, 4⟩ { live with volume := 1, source := some 10 } 10 rfl).2 0 4 rfl rfl rfl (by decide) (by decide) (by decide) (by decide) rfl rfl]; rfl
  · rw [(hd 1 5 ⟨11, 2⟩ { live with volume := 1, source := some 10 } 10 rfl).2 1 3 rfl rfl rfl (by decide) (by decide) (by decide) (by decide) rfl rfl]; rfl

theorem witness_ClosesCommitOrAreRefused (h : Obligations.ClosesCommitOrAreRefused) :
    ran (.close (arrives .close .forward 5 1 0 0 (le 4 3))) (receiving { inbound with state := .committing }) ∧
      ran (.close (arrives .close .forward 5 1 0 0 (le 4 3))) (receiving { inbound with state := .aborting }) ∧
      ran (.close (arrives .close .forward 5 1 1 0 (le 4 3))) (receiving inbound) ∧
      ran (.close (arrives .close .forward 5 1 0 0 (le 4 3))) (receiving inbound) ∧
      ran (.close (arrives .close .forward 5 1 0 1 (le 4 3))) (receiving inbound) ∧
      ran (.close (arrives .close .forward 5 1 0 0 (le 4 3))) base :=
  ⟨⟨_, (h (receiving { inbound with state := .committing }) (arrives .close .forward 5 1 0 0 (le 4 3)) (inFrame .close .forward 5 1 0 0 (le 4 3)) 1 (by decide +kernel) rfl rfl rfl (by decide) rfl).1 0 _ _ rfl rfl rfl rfl (by decide +kernel) rfl |>.1 rfl⟩,
    ⟨_, (h (receiving { inbound with state := .aborting }) (arrives .close .forward 5 1 0 0 (le 4 3)) (inFrame .close .forward 5 1 0 0 (le 4 3)) 1 (by decide +kernel) rfl rfl rfl (by decide) rfl).1 0 _ _ rfl rfl rfl rfl (by decide +kernel) rfl |>.2.1 rfl⟩,
    ⟨_, (h (receiving inbound) (arrives .close .forward 5 1 1 0 (le 4 3)) (inFrame .close .forward 5 1 1 0 (le 4 3)) 1 (by decide +kernel) rfl rfl rfl (by decide) rfl).1 0 _ _ rfl rfl rfl rfl (by decide +kernel) rfl |>.2.2 rfl |>.1 (.inl (by decide))⟩,
    ⟨_, (h (receiving inbound) (arrives .close .forward 5 1 0 0 (le 4 3)) (inFrame .close .forward 5 1 0 0 (le 4 3)) 1 (by decide +kernel) rfl rfl rfl (by decide) rfl).1 0 _ _ rfl rfl rfl rfl (by decide +kernel) rfl |>.2.2 rfl |>.2.1 (by decide +kernel) rfl rfl (by decide +kernel) (by decide +kernel)⟩,
    ⟨_, (h (receiving inbound) (arrives .close .forward 5 1 0 1 (le 4 3)) (inFrame .close .forward 5 1 0 1 (le 4 3)) 1 (by decide +kernel) rfl rfl rfl (by decide) rfl).1 0 _ _ rfl rfl rfl rfl (by decide +kernel) rfl |>.2.2 rfl |>.2.2 (by decide +kernel) (by decide) (.inr (.inl (by decide)))⟩,
    ⟨_, (h base (arrives .close .forward 5 1 0 0 (le 4 3)) (inFrame .close .forward 5 1 0 0 (le 4 3)) 1 (by decide +kernel) rfl rfl rfl (by decide) rfl).2 (by decide +kernel)⟩⟩

/-- The inbound run in this state, volume 1 with this record, release list and ACTIVE snapshots. -/
def scan (st : InState) (es : List Extent) (rel : List Run) (ss : List Snapshot) : State :=
  ((receiving { inbound with state := st, reason := some 0x11 }).setExtents es).setSnapVol 1 { SnapVol.empty with release := rel, snaps := ss }

/-- A LIVE record of volume 1 with a provisional mark of the run. -/
def marked (k : MarkKind) : Extent := { live with volume := 1, owner := 32, source := some 10, mark := some ⟨5, k⟩ }

/-- A full release list. -/
def full : List Run := List.replicate 4096 ⟨1, 1⟩

theorem witness_CommitAndRollbackScans (h : Obligations.CommitAndRollbackScans) :
    ran (.commitScanStep 0) (scan .committing [marked .provBirth] [] []) ∧
      ran (.commitScanStep 0) (scan .committing [marked .provDeath] [] [{ snap with epoch := 2 }]) ∧
      ran (.commitScanStep 0) (scan .committing [marked .provDeath] [] [{ snap with epoch := 3 }]) ∧
      ran (.commitScanStep 0) (scan .committing [marked .provDeath] full []) ∧
      ran (.commitScanStep 0) (scan .committing [] [] []) ∧
      ran (.rollbackScanStep 0) (scan .aborting [marked .provBirth] [] []) ∧
      ran (.rollbackScanStep 0) (scan .aborting [marked .provBirth] full []) ∧
      ran (.rollbackScanStep 0) (scan .aborting [marked .provDeath] [] []) ∧
      ran (.rollbackScanStep 0) (scan .aborting [{ marked .provDeath with mark := none }] [] []) ∧
      ran (.rollbackScanStep 0) (scan .aborting [] [] []) :=
  ⟨⟨_, (h (scan .committing [marked .provBirth] [] []) 0 _ 1 rfl rfl).1 rfl (by decide +kernel) |>.1 (marked .provBirth) (by decide +kernel) rfl |>.1 (by decide)⟩,
    (by obtain ⟨_, _, e⟩ := (h (scan .committing [marked .provDeath] [] [{ snap with epoch := 2 }]) 0 _ 1 rfl rfl).1 rfl (by decide +kernel) |>.1 (marked .provDeath) (by decide +kernel) rfl |>.2 rfl |>.1 (by decide +kernel); exact ⟨_, e⟩),
    (by obtain ⟨_, _, e⟩ := (h (scan .committing [marked .provDeath] [] [{ snap with epoch := 3 }]) 0 _ 1 rfl rfl).1 rfl (by decide +kernel) |>.1 (marked .provDeath) (by decide +kernel) rfl |>.2 rfl |>.2 (by decide +kernel) |>.1 ((releaseAppend 1 ⟨10, 4⟩ (scan .committing [marked .provDeath] [] [{ snap with epoch := 3 }])).get (by decide +kernel)) (by rw [Option.some_get]; rfl); exact ⟨_, e⟩),
    ⟨_, (h (scan .committing [marked .provDeath] full []) 0 _ 1 rfl rfl).1 rfl (by decide +kernel) |>.1 (marked .provDeath) (by decide +kernel) rfl |>.2 rfl |>.2 (by rintro y ⟨⟩) |>.2 (by decide +kernel)⟩,
    ⟨_, (h (scan .committing [] [] []) 0 _ 1 rfl rfl).1 rfl (by decide +kernel) |>.2 rfl (by decide) (by rintro y ⟨⟩) rfl (by decide)⟩,
    (by obtain ⟨_, _, e⟩ := (h (scan .aborting [marked .provBirth] [] []) 0 _ 1 rfl rfl).2 rfl rfl (by decide +kernel) |>.1 (marked .provBirth) (by decide +kernel) rfl |>.1 rfl |>.1 ((releaseAppend 1 ⟨10, 4⟩ (scan .aborting [marked .provBirth] [] [])).get (by decide +kernel)) (by rw [Option.some_get]; rfl); exact ⟨_, e⟩),
    ⟨_, (h (scan .aborting [marked .provBirth] full []) 0 _ 1 rfl rfl).2 rfl rfl (by decide +kernel) |>.1 (marked .provBirth) (by decide +kernel) rfl |>.1 rfl |>.2 (by decide +kernel)⟩,
    ⟨_, (h (scan .aborting [marked .provDeath] [] []) 0 _ 1 rfl rfl).2 rfl rfl (by decide +kernel) |>.1 (marked .provDeath) (by decide +kernel) rfl |>.2.1 rfl⟩,
    ⟨_, (h (scan .aborting [{ marked .provDeath with mark := none }] [] []) 0 _ 1 rfl rfl).2 rfl rfl (by decide +kernel) |>.1 { marked .provDeath with mark := none } (by decide +kernel) rfl |>.2.2 (by decide) (by decide)⟩,
    ⟨_, (h (scan .aborting [] [] []) 0 _ 1 rfl rfl).2 rfl rfl (by decide +kernel) |>.2 rfl (by rintro u ⟨⟩) 0x11 rfl⟩⟩

theorem witness_AbortsAndCarrierChanges (h : Obligations.AbortsAndCarrierChanges) :
    abortCtx 0x11 true 0 base = base ∧
      ((abortCtx 0x11 true 0 (receiving inbound)).inCtx 0).reason = some 0x11 ∧
      ran (.idleTimerExpiry 0) (receiving inbound) ∧
      ran (.idleTimerExpiry 0) (receiving { inbound with idle := some 300 }) ∧
      ran (.abort (arrives .abort .forward 5 1 0 16 [])) (receiving inbound) ∧
      ran (.abort (back .abort 0 16 [])) (running run) ∧
      ran (.carrierUp) base ∧
      ran (.carrierUp) State.reset ∧
      ran (.carrierDown) State.reset ∧
      ran (.carrierDown) (receiving inbound) :=
  ⟨(h.1 base 0 _ 0x11 rfl).1 (by decide) true,
    (by rw [(h.1 (receiving inbound) 0 _ 0x11 rfl).2.1 rfl rfl (by decide) true]; rfl),
    ⟨_, (h.1 (receiving inbound) 0 _ 0 rfl).2.2.1 rfl⟩,
    ⟨_, (h.1 (receiving { inbound with idle := some 300 }) 0 _ 0 rfl).2.2.2 rfl⟩,
    ⟨_, (h.2.1 (receiving inbound) (arrives .abort .forward 5 1 0 16 []) (inFrame .abort .forward 5 1 0 16 []) (by decide +kernel) rfl).1 0 _ rfl rfl rfl rfl rfl rfl (by decide +kernel)⟩,
    ⟨_, (h.2.1 (running run) (back .abort 0 16 []) (backFrame .abort 0 16 []) (by decide +kernel) rfl).2 _ _ rfl rfl rfl rfl rfl rfl⟩,
    ⟨_, (h.2.2 base).1 rfl⟩,
    ⟨_, (h.2.2 State.reset).2.1 rfl⟩,
    ⟨_, (h.2.2 State.reset).2.2.1 rfl⟩,
    (by obtain ⟨_, _, e⟩ := (h.2.2 (receiving inbound)).2.2.2 rfl; exact ⟨_, e⟩)⟩

/-- A REPLICA_RESET of volume 1 at this stage. -/
def resetting (j : ResetJob) (rel : List Run) (es : List Extent) : State :=
  ((base.setReplVol 1 { ReplVol.empty with reset := some j }).setSnapVol 1 { SnapVol.empty with release := rel }).setExtents es

/-- A reset of volume 1, whose retire queue has an entry of the host and one of auto-trim. -/
def retiring : State :=
  (resetting ⟨some (0, 7), false, [], 0, 0, 0⟩ [] [{ live with volume := 1 }, { held with volume := 1, first := 20 }]).setSnapVol 1
    { SnapVol.empty with snaps := [{ snap with active := false }, { snap with epoch := 3, label := 10, active := false }], retire := [⟨2, .host 0 9, 1, 16⟩, ⟨3, .auto, 0, 0⟩], trim := .scanning 0 }

theorem witness_PoolsAreGivenAndReplicasReset (h : Obligations.PoolsAreGivenAndReplicasReset) :
    ran (.giveRuns 0 7 ⟨1, 8192, 2⟩ [⟨99, 1⟩, ⟨0, 4⟩]) base ∧
      ran (.replicaReset 0 7 1) base ∧
      ran (.replicaReset 0 7 1) (receiving inbound) ∧
      ran (.replicaResetEmpty 1) (resetting ⟨some (0, 7), false, [], 0, 0, 0⟩ [] [{ live with volume := 1 }, { held with volume := 1, first := 20 }]) ∧
      ran (.replicaResetEmpty 1) retiring ∧
      ran (.replicaResetAppend 1) (resetting ⟨some (0, 7), true, [⟨10, 4⟩], 1, 0, 4⟩ full []) ∧
      ran (.replicaResetAppend 1) (resetting ⟨some (0, 7), true, [⟨10, 4⟩, ⟨20, 4⟩], 2, 0, 8⟩ [] []) ∧
      ran (.replicaResetAppend 1) (resetting ⟨some (0, 7), true, [⟨10, 4⟩], 1, 0, 4⟩ [] []) :=
  ⟨⟨_, h.1 base 0 7 ⟨1, 8192, 2⟩ [⟨99, 1⟩, ⟨0, 4⟩] 1 _ base_up (by decide) rfl (by decide) rfl (by decide +kernel) (by decide) rfl (by decide)⟩,
    ⟨_, (h.2.1 base 0 7 1 _ base_up (.inl rfl) rfl rfl rfl).1 (by decide +kernel)⟩,
    ⟨_, (h.2.1 (receiving inbound) 0 7 1 _ base_up (.inl rfl) rfl rfl rfl).2 0 rfl rfl (by decide +kernel)⟩,
    (by obtain ⟨_, _, _, e⟩ := h.2.2.1 (resetting ⟨some (0, 7), false, [], 0, 0, 0⟩ [] [{ live with volume := 1 }, { held with volume := 1, first := 20 }]) 1 _ _ _ _ rfl rfl (by decide +kernel) rfl (by decide +kernel) (by decide +kernel) rfl rfl rfl rfl _ _ _ rfl rfl rfl; exact ⟨_, e⟩),
    (by obtain ⟨_, _, _, e⟩ := h.2.2.1 retiring 1 _ _ _ _ rfl rfl (by decide +kernel) rfl (by decide +kernel) (by decide +kernel) rfl rfl rfl rfl _ _ _ rfl rfl rfl; exact ⟨_, e⟩),
    ⟨_, (h.2.2.2 (resetting ⟨some (0, 7), true, [⟨10, 4⟩], 1, 0, 4⟩ full []) 1 _ _ _ rfl rfl rfl (by decide +kernel) (by decide)).1 (by decide +kernel)⟩,
    ⟨_, ((h.2.2.2 (resetting ⟨some (0, 7), true, [⟨10, 4⟩, ⟨20, 4⟩], 2, 0, 8⟩ [] []) 1 _ _ _ rfl rfl rfl (by decide +kernel) (by decide)).2 ((releaseAppend 1 ⟨10, 4⟩ (resetting ⟨some (0, 7), true, [⟨10, 4⟩, ⟨20, 4⟩], 2, 0, 8⟩ [] [])).get (by decide +kernel)) (by rw [Option.some_get])).1 (by decide)⟩,
    ⟨_, ((h.2.2.2 (resetting ⟨some (0, 7), true, [⟨10, 4⟩], 1, 0, 4⟩ [] []) 1 _ _ _ rfl rfl rfl (by decide +kernel) (by decide)).2 ((releaseAppend 1 ⟨10, 4⟩ (resetting ⟨some (0, 7), true, [⟨10, 4⟩], 1, 0, 4⟩ [] [])).get (by decide +kernel)) (by rw [Option.some_get])).2 0 7 rfl rfl⟩⟩

/-! ### Witnesses: the policy store, FORMAT and the resets -/

/-- The CRC with its register evaluated at every byte, which the kernel computes in little memory. -/
def crcStrict : List Byte → Nat → Nat
  | [], r => r
  | b :: bs, r =>
    match crcByte r b with
    | 0 => crcStrict bs 0
    | n + 1 => crcStrict bs (n + 1)

theorem crc_strict (bs : List Byte) (r : Nat) : bs.foldl crcByte r = crcStrict bs r := by
  induction bs generalizing r with
  | nil => rfl
  | cons b bs ih => simp only [List.foldl_cons, crcStrict]; split <;> simp_all

theorem crc_erased : crcStrict (List.replicate 5632 0xFF) 0xFFFF = 0x9DDF := by decide +kernel

/-- Erased pages 0 to 21, with a stored CRC in page 22. -/
def storeWith (crc : List Host.Cell) : Ps := { base.ps with pages := crc }

/-- No commit under way is of a page that the CRC reads. -/
def idle (x : Ps) : Prop := ∀ c, x.commit = some c → 22 < c.page

theorem seen_idle (x : Ps) (h : idle x) (n a : Nat) (ha : a < 5888) : x.seen n a = x.byte a := by
  unfold Ps.seen
  split
  · next c hc => rw [if_neg]; have := h c hc; omega
  · rfl

theorem bytes_idle (x : Ps) (h : idle x) (n a k : Nat) (hk : a + k ≤ 5888) : x.bytes n a k = (List.range k).map fun i => x.byte (a + i) :=
  List.map_congr_left fun i hi => seen_idle x h n _ (by have := List.mem_range.mp hi; omega)

theorem crc_storeWith (x : Ps) (n : Nat) (h : idle x) (hb : ∀ i, i < 5632 → x.byte i = 0xFF) : x.crc n = 0x9DDF := by
  have : x.bytes n 0 5632 = List.replicate 5632 0xFF := by
    rw [bytes_idle x h n 0 5632 (by omega), List.eq_replicate_iff]
    refine ⟨by simp, fun b hm => ?_⟩
    obtain ⟨i, hi, rfl⟩ := List.mem_map.mp hm
    rw [Nat.zero_add]; exact hb i (List.mem_range.mp hi)
  rw [Ps.crc, this, crc16, crc_strict, crc_erased]

/-- A store whose pages 0 to 21 are erased and whose page 22 holds their CRC. -/
def good : Ps := storeWith [(5632, 0xDF), (5633, 0x9D)]

theorem good_verifies_idle (x : Ps) (n : Nat) (h : idle x) (hp : x.pages = good.pages) : x.verifies n = true := by
  have hc := crc_storeWith x n h (by intro i hi; simp only [Ps.byte, hp, good, storeWith, sparseGet, if_pos hi])
  have hs : x.storedCrc n = 0x9DDF := by
    rw [Ps.storedCrc, bytes_idle x h n 5632 2 (by omega)]; simp only [Ps.byte, hp]; decide +kernel
  simp [Ps.verifies, hc, hs]

theorem erased_fails_idle (x : Ps) (n : Nat) (h : idle x) (hp : x.pages = []) : x.verifies n = false := by
  have hc := crc_storeWith x n h (by intro i hi; simp only [Ps.byte, hp, sparseGet])
  have hs : x.storedCrc n = 0xFFFF := by
    rw [Ps.storedCrc, bytes_idle x h n 5632 2 (by omega)]; simp only [Ps.byte, hp]; decide +kernel
  simp [Ps.verifies, hc, hs]

theorem good_verifies (x : Ps) (h : x.commit = none) (hp : x.pages = good.pages) : x.verifies 0 = true :=
  good_verifies_idle x 0 (by intro c hc; simp [h] at hc) hp

theorem erased_fails (x : Ps) (h : x.commit = none) (hp : x.pages = []) : x.verifies 0 = false :=
  erased_fails_idle x 0 (by intro c hc; simp [h] at hc) hp

/-- The store with an erase of page 63 under way. -/
def erasing (x : Ps) : State := base.setPs { x with commit := some ⟨63, .erase, some (0, 9)⟩ }

theorem erasing_idle (x : Ps) : idle (erasing x).ps := by rintro c ⟨⟩; decide

theorem witness_RequestsAreRefusedInTheirOrder_definitions (h : Obligations.RequestsAreRefusedInTheirOrder) :
    ran (.applyDefinitions 0 7) (erasing base.ps) ∧ ran (.applyDefinitions 0 7) (erasing good) := by
  constructor
  · obtain ⟨-, -, -, -, -, -, -, -, -, -, -, -, -, -, -, -, -, -, -, -, -, -, -, e⟩ := h (erasing base.ps) 0 7 0x3F 0 ⟨rfl, rfl⟩
    exact ⟨_, e (by rw [erased_fails_idle _ _ (erasing_idle _) rfl]; rfl)⟩
  · obtain ⟨-, -, -, -, -, -, -, -, -, -, -, -, -, -, -, -, -, -, -, -, -, -, -, e⟩ := h (erasing good) 0 7 0x37 0 ⟨rfl, rfl⟩
    exact ⟨_, e (by rw [good_verifies_idle _ _ (erasing_idle _) rfl]; rfl)⟩

/-- The store is locked, or a commit of page 22 is under way, its DONE owed to ring 0. -/
def storeLocked : State := base.setPs { base.ps with locked := true }
def committing (op : CommitOp) : State := base.setPs { base.ps with commit := some ⟨22, op, some (0, 7)⟩, staging := [(0, 5)], pages := [(5632, 3)] }

theorem committing_ok (op : CommitOp) : (committing op).ps.ok := by
  refine ⟨⟨by simp [committing, State.setPs, sparseWf], ?_⟩, ⟨by simp [committing, State.setPs, sparseWf], ?_⟩, ?_⟩
  · simp [committing, State.setPs]
  · simp [committing, State.setPs]
  · rintro c ⟨⟩; exact (by decide : (22 : Nat) ≤ 63)

theorem witness_StorePagesAreStagedAndCommitted (h : Obligations.StorePagesAreStagedAndCommitted) :
    ran (.storeStage 0 7 ⟨224, 32, zeros 32⟩) base ∧
      ran (.storeStage 0 7 ⟨255, 1, zeros 32⟩) (committing .erase) ∧
      ran (.storeCommit 0 7 ⟨63, 1⟩) (committing .erase) ∧
      ran (.storeCommit 0 7 ⟨0, 3⟩) base ∧
      ran (.storeCommit 0 7 ⟨22, 2⟩) storeLocked ∧
      ran (.storeCommit 0 7 ⟨0, 2⟩) storeLocked ∧
      ran (.storeCommit 0 7 ⟨23, 1⟩) storeLocked ∧
      ran (.storeCommit 0 7 ⟨0, 1⟩) (storeLocked.setStrap true) ∧
      ran (.storeCommit 0 7 ⟨0, 2⟩) base ∧
      ran (.storeCommitEnd []) (committing .erase) ∧
      ran (.storeCommitEnd []) (committing .program) ∧
      ran (.storeCommitEnd [(255, 0)]) (committing .eraseProgram) ∧
      ran (.storeCommitEnd [(0, 0)]) base ∧
      ran (.storeVerify 0 7) base :=
  ⟨(by obtain ⟨_, _, e⟩ := (h.2.1 base 0 7 ⟨224, 32, zeros 32⟩ base_ps (by decide) (by decide) (by decide) rfl).1 rfl; exact ⟨_, e⟩),
    ⟨_, (h.2.1 (committing .erase) 0 7 ⟨255, 1, zeros 32⟩ (committing_ok _) (by decide) (by decide) (by decide) rfl).2 (by decide)⟩,
    ⟨_, (h.2.2.1 (committing .erase) 0 7 ⟨63, 1⟩ .erase (by decide) (by decide)).1 (by decide)⟩,
    ⟨_, (h.2.2.1 base 0 7 ⟨0, 3⟩ .eraseProgram (by decide) (by decide)).2.1 rfl rfl (by decide) rfl⟩,
    ⟨_, (h.2.2.1 storeLocked 0 7 ⟨22, 2⟩ .program (by decide) (by decide)).2.2.1 rfl rfl (by decide) (.inl (by decide))⟩,
    ⟨_, (h.2.2.1 storeLocked 0 7 ⟨0, 2⟩ .program (by decide) (by decide)).2.2.1 rfl rfl (by decide) (.inr rfl)⟩,
    ⟨_, (h.2.2.1 storeLocked 0 7 ⟨23, 1⟩ .erase (by decide) (by decide)).2.2.2 rfl (.inr (.inl (by decide))) (.inl (by decide))⟩,
    ⟨_, (h.2.2.1 (storeLocked.setStrap true) 0 7 ⟨0, 1⟩ .erase (by decide) (by decide)).2.2.2 rfl (.inr (.inr ⟨rfl, by decide⟩)) (.inr (.inr rfl))⟩,
    ⟨_, (h.2.2.1 base 0 7 ⟨0, 2⟩ .program (by decide) (by decide)).2.2.2 rfl (.inl rfl) (.inr (.inl rfl))⟩,
    (by obtain ⟨_, _, _, _, _, _, _, e⟩ := h.2.2.2.1 (committing .erase) _ 0 7 _ (committing_ok _) rfl rfl rfl [] _ (.inl ⟨rfl, rfl⟩); exact ⟨_, e⟩),
    (by obtain ⟨_, _, _, _, _, _, _, e⟩ := h.2.2.2.1 (committing .program) _ 0 7 _ (committing_ok _) rfl rfl rfl [] _ (.inl ⟨rfl, rfl⟩); exact ⟨_, e⟩),
    (by obtain ⟨_, _, _, _, _, _, _, e⟩ := h.2.2.2.1 (committing .eraseProgram) _ 0 7 _ (committing_ok _) rfl rfl rfl [(255, 0)] _ (.inr ⟨255, 0, by decide, by decide +kernel, rfl, rfl⟩); exact ⟨_, e⟩),
    ⟨_, h.2.2.2.2.1 base [(0, 0)] rfl⟩,
    ⟨_, h.2.2.2.2.2 base 0 7 _ _ rfl rfl rfl⟩⟩

/-- Page bytes of a PRIMARY volume of 64 KiB blocks with peer 3 and remote volume 15. -/
def primaryPage : List Byte := [1, 64, 1, 7, 0, 3, 15, 0] ++ le 8 1099511627776 ++ le 8 65536 ++ le 8 281474976710655

/-- The store verifies, and volume 0 is as given. -/
def defining (v : Volume) : State := (base.setPs good).setVol 0 v

/-- Two queued runs of volume 0, the first with its named target held, the second a NEW_SNAPSHOT run. -/
def lined : State := targeted (base.setDs { base.ds with queue := [⟨0, 0, 7, 9, false, false⟩, ⟨0, 0, 8, 10, true, false⟩] })

/-- Page bytes of a REPLICA volume of 4 KiB blocks with the largest limits. -/
def replicaPage : List Byte := [2, 4, 0, 0, 7, 0, 0, 0] ++ le 8 1 ++ le 8 4096 ++ le 8 0 ++ le 8 281474976710655

/-- Page bytes of a PRIMARY volume whose peer index is out of range. -/
def peerlessPage : List Byte := [1, 64, 1, 7, 0, 4, 15, 0] ++ le 8 1099511627776 ++ le 8 65536 ++ le 8 281474976710655

theorem witness_DefinitionsTakeEffectAndFormatEmpties (h : Obligations.DefinitionsTakeEffectAndFormatEmpties) :
    volumeDefOf primaryPage = ⟨.primary, 64, 1099511627776, 65536, 281474976710655, 7, true, some 3, some 15, 0, 0⟩ ∧
      volumeDefOf [0] = .unused ∧ volumeDefOf [1, 5] = .unused ∧ volumeDefOf (replicaPage.set 4 8) = .unused ∧
      volumeDefOf replicaPage = ⟨.replica, 4, 1, 4096, 0, 0, false, none, none, 281474976710655, 7⟩ ∧
      volumeDefOf peerlessPage = ⟨.primary, 64, 1099511627776, 65536, 281474976710655, 7, true, none, none, 0, 0⟩ ∧
      ran (.applyDefinitions 0 7) base ∧
      ran (.applyDefinitions 0 7) (base.setPs good) ∧
      ran (.format 0 7) base ∧
      ran (.format 0 7) ((running run).setStrap true) ∧
      ran (.format 0 7) (base.setStrap true) ∧
      ran (.format 0 7) (lined.setStrap true) ∧
      ran (.formatEnd) base ∧
      ran (.formatEnd) (base.setPs { base.ps with format := some ⟨some (0, 7), 1, 1⟩, safe := false }) ∧
      ran (.formatEnd) (base.setPs { base.ps with format := some ⟨some (0, 7), 1, 1⟩, safe := true }) ∧
      ran (.formatEnd) (base.setPs { good with format := some ⟨some (0, 7), 1, 1⟩, safe := true }) :=
  ⟨(h.1 primaryPage 64 _ _ rfl rfl rfl).2.2.2.1 rfl (by decide +kernel) (by decide +kernel),
    (h.1 [0] _ _ _ rfl rfl rfl).1 (by decide) (by decide), (h.1 [1, 5] 5 _ _ rfl rfl rfl).2.1 rfl (by decide +kernel),
    (h.1 (replicaPage.set 4 8) 4 _ _ rfl rfl rfl).2.2.1 rfl (by decide +kernel),
    (h.1 replicaPage 4 _ _ rfl rfl rfl).2.2.2.2.2 rfl (by decide +kernel) (by decide +kernel) (by decide +kernel),
    (h.1 peerlessPage 64 _ _ rfl rfl rfl).2.2.2.2.1 rfl (by decide +kernel) (by decide +kernel),
    ⟨_, (h.2.1 base 0 7 _ _ (fun v => decide ((base.vol v).state = .undefined) || (decide ((base.vol v).state = .defined) && (base.extents.all fun e => decide (e.volume ≠ v)) && decide ((base.snapVol v).snaps = []))) base_up rfl base_qu rfl rfl (by intro v; simp only [Bool.or_eq_true, Bool.and_eq_true, decide_eq_true_eq, List.all_eq_true, and_assoc])).1 (erased_fails _ rfl rfl)⟩,
    (by obtain ⟨_, e, _⟩ := (h.2.1 (base.setPs good) 0 7 _ _ (fun v => decide (((base.setPs good).vol v).state = .undefined) || (decide (((base.setPs good).vol v).state = .defined) && ((base.setPs good).extents.all fun e => decide (e.volume ≠ v)) && decide (((base.setPs good).snapVol v).snaps = []))) base_up rfl base_qu rfl rfl (by intro v; simp only [Bool.or_eq_true, Bool.and_eq_true, decide_eq_true_eq, List.all_eq_true, and_assoc])).2 (good_verifies _ rfl rfl); exact ⟨_, e⟩),
    ⟨_, (h.2.2.1 base 0 7).1 rfl⟩,
    ⟨_, (h.2.2.1 ((running run).setStrap true) 0 7).2.1 rfl (.inr (.inr (.inl (by decide))))⟩,
    (by obtain ⟨_, e, _⟩ := (h.2.2.1 (base.setStrap true) 0 7).2.2 rfl rfl (by decide +kernel) rfl (by decide +kernel) (by decide +kernel) _ rfl; exact ⟨_, e⟩),
    (by obtain ⟨_, e, _⟩ := (h.2.2.1 (lined.setStrap true) 0 7).2.2 rfl rfl (by decide +kernel) rfl (by decide +kernel) (by decide +kernel) _ rfl; exact ⟨_, e⟩),
    ⟨_, (h.2.2.2 base).1 rfl⟩,
    ⟨_, ((h.2.2.2 (base.setPs { base.ps with format := some ⟨some (0, 7), 1, 1⟩, safe := false })).2 _ 0 7 rfl rfl).1 rfl⟩,
    ⟨_, ((h.2.2.2 (base.setPs { base.ps with format := some ⟨some (0, 7), 1, 1⟩, safe := true })).2 _ 0 7 rfl rfl).2.1 rfl rfl (erased_fails _ rfl rfl)⟩,
    (by obtain ⟨_, e, _⟩ := ((h.2.2.2 (base.setPs { good with format := some ⟨some (0, 7), 1, 1⟩, safe := true })).2 _ 0 7 rfl rfl).2.2 _ rfl rfl (good_verifies _ rfl rfl) base_qu rfl; exact ⟨_, e⟩)⟩

/-- A part at work in every block: an outbound run with its target held and a queued one, an inbound run, a restore, creates on the gate, a TAKE_RELEASED, a retire entry of the host, an export, a
notice, a commit and a FORMAT. -/
def atWork : State :=
  ((((((exporting .extents 0 5).setPs { base.ps with commit := some ⟨5, .erase, some (0, 3)⟩, format := some ⟨some (1, 2), 3, 4⟩ }).setDs
    { base.ds with active := some { run with peer := none, target := none, state := .offering }, queue := [⟨0, 0, 7, 9, false, false⟩], bucket := 5 }).setSnapVol 0
    { SnapVol.empty with
      snaps := [{ snap with replTarget := true, holds := 1 }, { snap with epoch := 3, label := 10 }]
      gate := [.host 0 1 5, .sender 6], taking := some ⟨0, 1, 8192, 1⟩, release := [⟨70, 2⟩]
      retire := [⟨3, .host 0 4, 1, 2⟩, ⟨1, .auto, 0, 0⟩] }).setRestoreCtx 0
    { working with flight := some ⟨⟨some 10, 0, 1⟩, [⟨50, 1⟩], true⟩, claim := [⟨51, 1⟩], phase := .copying }).setExtents [live, { live with first := 50, len := 1, filling := true }]).setInCtx 0 inbound

theorem witness_ColdStartAndFunctionReset (h : Obligations.ColdStartAndFunctionReset) :
    ran (.coldStart true 0) base ∧
      ran (.coldStart false 0) (base.setPs good) ∧
      ran (.functionReset 0) base ∧
      ∃ t, exec (.functionReset 0) atWork = .next t ∧ ∀ e ∈ t.extents, e.filling = false :=
  ⟨⟨_, (h.1 base true 0 _ _ rfl rfl rfl rfl).1 (erased_fails _ rfl rfl)⟩,
    (by obtain ⟨_, e, _⟩ := (h.1 (base.setPs good) false 0 _ _ rfl rfl rfl rfl).2 (good_verifies _ rfl rfl); exact ⟨_, e⟩),
    (by obtain ⟨_, e, _⟩ := h.2 base 0; exact ⟨_, e⟩),
    (by
      obtain ⟨t, e, r⟩ := h.2 atWork 0
      exact ⟨t, e, r.2.2.2.2.2.2.2.2.2.2.2.2.2.2.2.2.1 (by
        intro x hx hf
        have : atWork.extents = [live, { live with first := 50, len := 1, filling := true }] := rfl
        rw [this] at hx
        obtain rfl | rfl := (by simpa using hx : x = _ ∨ x = _)
        · cases hf
        · exact ⟨0, by decide, rfl, _, rfl, rfl, by decide⟩)⟩)⟩

/-! ### WellFormed refuses an ill-formed term of each check -/

theorem test_wf_accepts : (Instr.charge 0 7 lastBlock).wf = true := by decide +kernel
theorem test_wf_refuses_wide_tag : (Instr.charge 0 (2 ^ 64) lastBlock).wf = false := by decide +kernel
theorem test_wf_refuses_wide_volume : (Instr.charge 0 7 { lastBlock with volume := 256 }).wf = false := by decide +kernel
theorem test_wf_refuses_wide_first : (Instr.split 0 7 ⟨0, 2 ^ 48, 1⟩).wf = false := by decide +kernel
theorem test_wf_refuses_wide_length : (Instr.charge 0 7 { lastBlock with len := 65536 }).wf = false := by decide +kernel
theorem test_wf_refuses_wide_group : (Instr.charge 0 7 { lastBlock with group := some (2 ^ 32) }).wf = false := by decide +kernel
theorem test_wf_refuses_wide_source : (Instr.loadExtent 0 7 (loadLast none (some (2 ^ 48)))).wf = false := by decide +kernel
theorem test_wf_refuses_wide_label : (Instr.snapshotCreate 0 7 ⟨0, 2 ^ 64⟩).wf = false := by decide +kernel
theorem test_wf_refuses_tag_of_going_on : (Instr.scanOut 0 7 .goOn).wf = false := by decide +kernel
theorem test_wf_refuses_other_run_count : (Instr.giveRuns 0 7 ⟨1, 0, 2⟩ [⟨1, 1⟩]).wf = false := by decide +kernel
theorem test_wf_refuses_wide_run : (Instr.giveRuns 0 7 ⟨1, 0, 1⟩ [⟨1, 65536⟩]).wf = false := by decide +kernel
theorem test_wf_refuses_short_stage_data : (Instr.storeStage 0 7 ⟨0, 1, [0]⟩).wf = false := by decide +kernel
theorem test_wf_refuses_wide_address : (Instr.frameRejected ⟨true, 2 ^ 48, 0, 0, []⟩).wf = false := by decide +kernel
theorem test_wf_refuses_misread_place : (Instr.storeCommitEnd [(256, 0)]).wf = false := by decide +kernel
theorem test_wf_refuses_wide_pointer : (Instr.requestTailWrite 0 (2 ^ 32)).wf = false := by decide +kernel
theorem test_wf_refuses_register_outside : (Instr.registerWrite 4096 0).wf = false := by decide +kernel
theorem test_wf_refuses_wide_unknown_kind : (Instr.unknownRequest 0 7 256).wf = false := by decide +kernel
theorem test_wf_refuses_wide_request_at_fault : (Instr.ringAccessFault (.buffer 0 (.queryPeer 256) 0)).wf = false := by decide +kernel

/-! ### The manual's worked examples and figures -/

/-- The state after a command, when it answers one. -/
def after (c : Instr) (s : State) : State := match exec c s with | .next t => t | _ => s

/-- The answer at the first place of ring 0: kind, status, A, B and C. -/
def answered (s : State) : List Nat := [s.readBytes 4104 1, s.readBytes 4105 1, s.readBytes 4108 4, s.readBytes 4112 8, s.readBytes 4120 8].map ofLe

/-- 1.10: volume 3 with blocks of 16 KiB at epoch 41 or 42, and the accounts of the example. -/
def example1 (epoch : Nat) (es : List Extent) (ss : List Snapshot) (usage : Nat) : State :=
  (((base.setVol 3 ⟨.online, { primary with blockKiB := 16, blockCount := 10000 }, some epoch, none, none⟩).setExtents es).setSnapVol 3 { SnapVol.empty with snaps := ss }).setQu
    { base.qu with accounts := [(3, ⟨.reserve, 0, 0, 0, 0, none, .under, false, 0⟩), (70, ⟨.group, usage, 0, 0, 0, none, .under, false, es.length⟩),
      (5001, ⟨.user, usage, 0, 0, 0, none, .under, false, es.length⟩)] }

/-- The example's record. -/
def run1 (first len offset : Nat) (death : Option Nat) : Extent := ⟨3, first, len, 9001, offset, 5001, some 70, 41, death, false, none, none⟩

theorem test_1_10_charge : (fun t => (t.extents, answered t, (t.account 5001).usage, (t.account 70).records))
    (after (.charge 0 7 ⟨3, 1000, 256, 9001, 0, 5001, some 70⟩) (example1 41 [] [] 0)) = ([run1 1000 256 0 none], [0x01, 0x00, 0, 41, 4096], 4096, 1) := by decide +kernel
theorem test_1_10_charge_overlap : answered (after (.charge 0 7 ⟨3, 1100, 8, 9001, 0, 5001, some 70⟩) (example1 42 [run1 1064 192 64 (some 42)] [] 0)) = [0x01, 0x28, 0, 0, 0] := by decide +kernel
theorem test_1_10_split : (fun t => (t.extents, answered t, (t.account 5001).usage, (t.account 70).records)) (after (.split 0 7 ⟨3, 1000, 64⟩) (example1 41 [run1 1000 256 0 none] [] 4096)) =
    ([run1 1000 64 0 none, run1 1064 192 64 none], [0x02, 0x00, 0, 1064, 0], 4096, 2) := by decide +kernel
theorem test_1_10_drop_held : (fun t => (t.extents, answered t, (t.account 5001).usage, (t.account 3).usage, (t.account 3).records))
    (after (.drop 0 7 ⟨3, 1064⟩) (example1 42 [run1 1000 64 0 none, run1 1064 192 64 none] [{ snap with epoch := 41 }] 4096)) =
    ([run1 1000 64 0 none, run1 1064 192 64 (some 42)], [0x03, 0x03, 0, 42, 3072], 1024, 3072, 1) := by decide +kernel
theorem test_1_10_drop_released : (fun t => (t.extents, answered t, (t.account 5001).usage))
    (after (.drop 0 7 ⟨3, 1300⟩) (example1 42 [{ run1 1300 32 256 none with birth := 42 }] [{ snap with epoch := 41 }] 1536)) = ([], [0x03, 0x04, 0, 42, 512], 1024) := by decide +kernel

/-- 2.14.1: the student's account. -/
def student (usage : Nat) (st : AccountState) (d : Option Nat) : Account := ⟨.user, usage, 20971520, 2, 604800, d, st, false, 1⟩

theorem test_2_14_1_thresholds : ((student 0 .under none).soft, (student 0 .under none).leave) = (18874368, 18350080) := by decide +kernel
theorem test_2_14_1_grace : rateUser 1000000 (student 18931072 .under none) = (student 18931072 .grace (some 1604800), [.softCrossed]) := by decide +kernel
theorem test_2_14_1_stays_grace : rateUser 1200000 (student 18865536 .grace (some 1604800)) = (student 18865536 .grace (some 1604800), []) := by decide +kernel
theorem test_2_14_1_refused : chargeDecision (student 18865536 .expired (some 1604800)) 16 = some .graceExpired := by decide +kernel
theorem test_2_14_1_under : rateUser 1611000 (student 18341248 .expired (some 1604800)) = (student 18341248 .under none, []) := by decide +kernel
theorem test_2_14_2_rounding : ((Account.soft { free .user with hard := 1000003, margin := 1 }), (Account.leave { free .user with hard := 1000003, margin := 1 })) = (925002, 900002) := by decide +kernel

/-- 3.9: the records P, Q, R and T. -/
def example3 : List Extent := [run1 1064 192 0 (some 42), { run1 1256 64 0 (some 46) with birth := 30 }, { run1 2000 128 0 (some 47) with birth := 44 }, { run1 2128 64 0 (some 52) with birth := 48 }]

/-- The scan of a retire of epoch `k`, its snapshots 41, 45 and 50. -/
def trim3 (k cursor : Nat) (es : List Extent) (rel : List Run) : State :=
  (((example1 53 es [] 0).setAccount 3 ⟨.reserve, 7168, 0, 0, 0, none, .under, false, 4⟩).setSnapVol 3
    { SnapVol.empty with snaps := [41, 45, 50].map (fun n => { snap with epoch := n, active := decide (k < n) }), retire := [⟨k, .auto, 0, 0⟩], trim := .scanning cursor, release := rel })

theorem test_3_9_removes : (fun t => ((t.snapVol 3).release, (t.snapVol 3).retire, (t.account 3).usage, (t.account 3).records, t.extents.length)) (after (.trimScanStep 3) (trim3 41 0 example3 [])) =
    ([⟨1064, 192⟩], [⟨41, .auto, 1, 3072⟩], 4096, 3, 3) := by decide +kernel
theorem test_3_9_merges : ((after (.trimScanStep 3) (trim3 45 0 (example3.drop 1) [⟨1064, 192⟩])).snapVol 3).release = [⟨1064, 256⟩] := by decide +kernel
theorem test_3_9_keeps : ((after (.trimScanStep 3) (trim3 41 0 (example3.drop 1) [])).snapVol 3).trim = .scanning 1320 := by decide +kernel
theorem test_3_9_take : answered (after (.takeReleased (.writesComplete 3)) ((trim3 45 0 [] []).setSnapVol 3 { SnapVol.empty with release := [⟨1064, 256⟩, ⟨2000, 128⟩], taking := some ⟨0, 7, 8192, 2⟩ })) =
    [0x22, 0x00, 2, 0, 384] := by decide +kernel

/-- 4.7: the records X, Y, W and Z, and the restore. -/
def example4 (x : RestoreCtx → RestoreCtx) : State :=
  ((base.setVol 2 ⟨.online, { primary with blockKiB := 16, blockCount := 300000 }, some 60, none, none⟩).setExtents
    [⟨2, 50000, 3000, 7700, 0, 45000, none, 40, none, false, none, none⟩, ⟨2, 80000, 1000, 7700, 3000, 45000, none, 45, some 58, false, none, none⟩,
      ⟨2, 90000, 2000, 7700, 5000, 45000, none, 50, none, false, none, none⟩, ⟨2, 95000, 1000, 7700, 3000, 45000, none, 58, none, false, none, none⟩]).setRestoreCtx 0
    (x { restoreContext 0 7 ⟨2, 0x39, 7700, 0, 7000, 7701, 0, 45000, none, 8192, 2, false, true⟩ [⟨200000, 4500⟩, ⟨210000, 3000⟩] 57 with phase := .searching })

theorem test_4_7_search_data : ((after (.searchStep 0) (example4 fun x => { x with searchPos := 3000 })).restoreCtx 0).plan = [⟨some 80000, 3000, 1000⟩] := by decide +kernel
theorem test_4_7_search_hole : ((after (.searchStep 0) (example4 fun x => { x with searchPos := 4000 })).restoreCtx 0).plan = [⟨none, 4000, 1000⟩, ⟨some 90000, 5000, 2000⟩] := by decide +kernel
theorem test_4_7_two_segments : ((after (.pieceMap 0) (example4 fun x => { x with plan := [⟨none, 4000, 1000⟩], pos := 4000 })).restoreCtx 0).flight =
    some ⟨⟨none, 4000, 1000⟩, [⟨204000, 500⟩, ⟨210000, 500⟩], false⟩ := by decide +kernel

/-- 5.4.1: a waiting entry. -/
def waits (k : MoverClass) (n : Ctx) : MoverUnit := { unit 0 with cls := k, num := n }

theorem test_5_4_1_after_land : (nextEntry .land [waits .restore 2, waits .ship 0, waits .restore 0, waits .land 3]).map (fun u => (u.cls, u.num)) = some (.restore, 2) := by decide +kernel
theorem test_5_4_1_after_ship : (nextEntry .ship [waits .restore 0, waits .land 3]).map (fun u => (u.cls, u.num)) = some (.land, 3) := by decide +kernel
theorem test_5_4_1_cycle_returns : (nextEntry .restore [waits .restore 2]).map (fun u => (u.cls, u.num)) = some (.restore, 2) := by decide +kernel

/-- 6.10: the batch closes with a slice of 28 blocks of B. -/
theorem test_6_10_slice : (fun t => (t.ds.rest.map fun e => (e.first, e.len, e.offset), t.ds.holding.map fun b => (b.seq, b.payload.map PayloadEntry.len, b.kib)))
    (after .deltaScanStep ((delta [{ live with first := 500, len := 4096, birth := 2 }] { Batch.empty with payload := [⟨10, 100, 7, 0, 32, none, 2⟩], deletions := [⟨300, 1⟩], kib := 6400 } none []).setVol 0
      ⟨.online, { primary with blockKiB := 64 }, some 3, none, none⟩)) = (some (528, 4068, 28), some (1, [100, 28], 8192)) := by decide +kernel

/-- 7.6.1: the blocks that the two entries take, and the parts of R0. -/
theorem test_7_6_1_takes : takeAll [⟨8000, 60, 77, 0, 32, none, 33⟩, ⟨9000, 80, 77, 60, 32, none, 34⟩] [⟨500, 100⟩, ⟨700, 300⟩, ⟨2000, 1000⟩] =
    some [[⟨500, 60⟩], [⟨560, 40⟩, ⟨700, 40⟩]] := by decide +kernel
theorem test_7_6_1_pool : poolDrop 140 [⟨500, 100⟩, ⟨700, 300⟩, ⟨2000, 1000⟩] = [⟨740, 260⟩, ⟨2000, 1000⟩] := by decide +kernel
theorem test_7_6_1_deletion : (applyDeletion 9 5 [⟨9, 300, 100, 77, 0, 32, none, 20, none, false, none, some 3980⟩] ⟨4000, 40⟩).map (fun e => (e.first, e.len, e.offset, e.source, e.mark.isSome)) =
    [(300, 20, 0, some 3980, false), (320, 40, 20, some 4000, true), (360, 40, 60, some 4040, false)] := by decide +kernel

theorem test_R163_check : checkAdd (checkAdd (checkAdd 0 0x0301) 0xFFFF) 2 = 0x0303 := by decide +kernel
theorem test_R170_digest : digestAdd (digestAdd 0xF0000000 0x20000001) 5 = 0x10000007 := by decide +kernel
theorem test_R195_crc : crc16 [0x31, 0x32, 0x33, 0x34, 0x35, 0x36, 0x37, 0x38, 0x39] = 0x29B1 := by decide +kernel

/-- 9.4.1: ring 2 when the host writes consumed 4. -/
def stalled2 : State := base.setRing 2 { ringOn with
  posted := 15, phase := true, state := .stalled, stallSeen := true
  holder := [⟨1, 1, 0, 0, 0, 0⟩, ⟨2, 0x30, 7, 0, 0, 0⟩], waiting := [⟨⟨3, 0x21, 2, 0, 0, 0⟩, .none⟩, ⟨⟨2, 0x30, 7, 0, 0, 0⟩, .step 1⟩] }

theorem test_9_4_1_drains : (fun t => ((t.ring 2).posted, (t.ring 2).phase, (t.ring 2).holder, (t.ring 2).waiting, (t.ring 2).state, (t.ring 2).stallSeen)) (after (.answerConsumedWrite 2 4) stalled2) =
    (3, false, [], [], .enabled, true) := by decide +kernel

/-- 9.4.1 had the host written consumed 3: STEP 3 stays held, and an answer that becomes due then joins it (R184). -/
theorem test_R184_holder_takes_due : (fun t => ((answerDue 2 ⟨4, 1, 0, 0, 0, 0⟩ .none t).2, ((answerDue 2 ⟨4, 1, 0, 0, 0, 0⟩ .none t).1.ring 2).holder, (t.ring 2).state))
    (after (.answerConsumedWrite 2 3) stalled2) = (true, [⟨2, 0x30, 7, 0, 0, 0⟩, ⟨4, 1, 0, 0, 0, 0⟩], .stalled) := by decide +kernel

/-- R158, R203: a short frame goes onto the wire with zeros up to 46 bytes. -/
theorem test_R203_padding : padded [1, 2] = 1 :: 2 :: List.replicate 44 0 := by decide +kernel

end Sys2Proof.Tests
end

section
/-! The queries that answer words (O28; R15, R107, R133, R155, R172). Each query has a lemma that gives its answer through the model's word functions,
and each word a lemma that reads it off the state. -/

namespace Sys2Proof.Machine

/-! ### QUERY_VOLUME (R15) -/

theorem exec_queryVolume (s : State) (r : RingNo) (tag : Nat) (v : Vol) :
    exec (.queryVolume r tag v.val) s =
      .next (answer r ⟨tag, 0x05, 0x00, volumeWord s v, (s.vol v).epoch.getD 0, (s.records v).length⟩ s) := by
  change Host.Outcome.next (reqQueryVolume r tag v.val s) = _
  simp only [reqQueryVolume, volumeOk_val, toVol_val]
  rw [gated_always s r tag _ _ rfl rfl]
  rfl

theorem SnapVol.closing_eq_true_iff (x : SnapVol) : x.closing = true ↔ x.gate ≠ [] := by simp [SnapVol.closing]

theorem volumeWord_eq (s : State) (v : Vol) :
    volumeWord s v =
      (s.vol v).defn.role.code + 256 * (s.vol v).state.code + 65536 * (if (s.snapVol v).gate = [] then 0 else 1) +
        16777216 * (s.vol v).defn.blockKiB := by
  simp only [volumeWord, SnapVol.closing_eq_true_iff, ite_not]

/-! ### QUERY_MOVER (R107) -/

theorem MoverClass.ofCode_index (m : MoverClass) : MoverClass.ofCode m.index.val = some m := by cases m <;> rfl

theorem MoverClass.index_surjective : Function.Surjective MoverClass.index := by
  intro k
  fin_cases k
  · exact ⟨.restore, rfl⟩
  · exact ⟨.ship, rfl⟩
  · exact ⟨.land, rfl⟩
  · exact ⟨.ring, rfl⟩

theorem faultBits_eq (s : State) (p : FaultRec → Bool) (i : Nat) :
    faultBits s p i = flagBit (p s.dm.faults[0]) i + flagBit (p s.dm.faults[1]) (i + 1) + flagBit (p s.dm.faults[2]) (i + 2) +
      flagBit (p s.dm.faults[3]) (i + 3) := by
  simp [faultBits, moverClasses, State.faultRec, MoverClass.index, MoverClass.code, add_assoc]

theorem exec_queryMover (s : State) (r : RingNo) (tag : Nat) (m : MoverClass) :
    exec (.queryMover r tag m.index.val) s =
      .next (answer r ⟨tag, 0x38, 0x00, moverWord s, if (s.faultRec m).fault then (s.faultRec m).address else 0,
        if (s.faultRec m).fault then (s.faultRec m).access.code + 256 * (s.faultRec m).target.code else 0⟩ s) := by
  change Host.Outcome.next (reqQueryMover r tag m.index.val s) = _
  simp only [reqQueryMover, MoverClass.ofCode_index, Option.isSome_some]
  rw [gated_always s r tag _ _ rfl rfl]
  split <;> rfl

/-! ### QUERY_RUN (R133) -/

theorem exec_queryRun_active (s : State) (r : RingNo) (tag : Nat) (x : OutRun) (h : s.ds.active = some x) :
    exec (.queryRun r tag x.volume.val) s =
      .next (answer r ⟨tag, 0x42, 0x00, x.state.code + 256 * s.ds.outstanding.length + 65536 * s.ds.bucket,
        x.base + 4294967296 * x.target.getD 0, x.nextSeq + 4294967296 * s.ds.frontSeq⟩ s) := by
  change Host.Outcome.next (reqQueryRun r tag x.volume.val s) = _
  simp only [reqQueryRun, volumeOk_val, toVol_val]
  rw [gated_always s r tag _ _ rfl rfl]
  simp only [h, if_true]
  rfl

theorem exec_queryRun_not_active (s : State) (r : RingNo) (tag : Nat) (v : Vol) (h : ∀ x, s.ds.active = some x → x.volume ≠ v) :
    exec (.queryRun r tag v.val) s = .next (reqQueryRun.queuedOrNone r tag (.queryRun v.val) v s) := by
  change Host.Outcome.next (reqQueryRun r tag v.val s) = _
  simp only [reqQueryRun, volumeOk_val, toVol_val]
  rw [gated_always s r tag _ _ rfl rfl]
  cases ha : s.ds.active with
  | none => rfl
  | some x => simp only [if_neg (h x ha)]

theorem Ds.queued_isSome_iff (d : Ds) (v : Vol) : (d.queued v).isSome = true ↔ ∃ x ∈ d.queue, x.volume = v := by
  simp [Ds.queued]

/-- The place of a volume is one more than the number of runs before its first one. -/
theorem Ds.place_of_split {d : Ds} {v : Vol} {l t : List QueuedRun} {x : QueuedRun} (h : d.queue = l ++ x :: t) (hx : x.volume = v)
    (hl : ∀ y ∈ l, y.volume ≠ v) : d.place v = l.length + 1 := by
  have before : l.findIdx (fun y => decide (y.volume = v)) = l.length := List.findIdx_eq_length.2 fun y hy => by simpa using hl y hy
  simp [Ds.place, h, List.findIdx_append, before, List.findIdx_cons, hx]

/-! ### QUERY_INBOUND (R155) -/

theorem exec_queryInbound (s : State) (r : RingNo) (tag : Nat) (v : Vol) (h : (s.vol v).state ≠ .undefined) :
    exec (.queryInbound r tag v.val) s =
      .next (answer r ⟨tag, 0x4A, 0x00, inboundWord s v,
        (s.ctxOf v.val).elim 0 fun c => (s.inCtx c).runId + 4294967296 * (s.inCtx c).expected, (s.replVol v).untaken⟩ s) := by
  change Host.Outcome.next (reqQueryInbound r tag v.val s) = _
  simp only [reqQueryInbound, volumeOk_val, toVol_val]
  rw [gated_always s r tag _ _ rfl rfl, if_neg h]
  cases s.ctxOf v.val with
  | none => rfl
  | some c => rfl

/-- Without a context the codes of the context and of its slots read 0. -/
theorem inboundWord_of_ctxOf_none {s : State} {v : Vol} (h : s.ctxOf v.val = none) :
    inboundWord s v = flagBit (s.replVol v).reset.isSome 6 + 65536 * (s.replVol v).pool.length := by
  simp [inboundWord, h, InCtx.free, Slot.clear, InState.code, SlotState.code]

theorem inboundWord_of_ctxOf_some {s : State} {v : Vol} {c : Ctx} (h : s.ctxOf v.val = some c) :
    inboundWord s v =
      (s.inCtx c).state.code + 4 * ((s.inCtx c).slots[0]).state.code + 16 * ((s.inCtx c).slots[1]).state.code +
        flagBit (s.replVol v).reset.isSome 6 + 65536 * (s.replVol v).pool.length := by
  simp only [inboundWord, h]
  rfl

theorem State.ctxOf_eq_none {s : State} {v : Vol} (h : ∀ c, (s.inCtx c).state = .free ∨ (s.inCtx c).volume ≠ v) :
    s.ctxOf v.val = none := by
  refine List.find?_eq_none.2 fun c _ => ?_
  rcases h c with hc | hc
  · simp [hc]
  · simp [Fin.val_inj, hc]

theorem State.ctxOf_eq_some {s : State} {v : Vol} {c : Ctx} (hs : (s.inCtx c).state ≠ .free) (hv : (s.inCtx c).volume = v)
    (h : ∀ d, d < c → (s.inCtx d).state = .free ∨ (s.inCtx d).volume ≠ v) : s.ctxOf v.val = some c := by
  refine find_ctx _ c (by simp [hs, hv]) fun d hd => ?_
  rcases h d hd with hf | hf
  · simp [hf]
  · simp [Fin.val_inj, hf]

/-! ### QUERY_PEER (R172) -/

theorem exec_queryPeer_entry (s : State) (r : RingNo) (tag : Nat) (i : Ctx) :
    exec (.queryPeer r tag i.val) s =
      .next (answer r ⟨tag, 0x50, 0x00, peerWord s i, s.lc.peers[i].address, s.lc.peers[i].id⟩ (clearFrameError i s)) := by
  change Host.Outcome.next (reqQueryPeer r tag i.val s) = _
  have entry : Fin.ofNat 4 i.val = i := Fin.ext (Nat.mod_eq_of_lt i.isLt)
  simp only [reqQueryPeer, decide_eq_true (show i.val ≤ 4 by omega)]
  rw [gated_always s r tag _ _ rfl rfl, if_neg (by omega)]
  simp only [entry]
  rfl

theorem exec_queryPeer_station (s : State) (r : RingNo) (tag : Nat) :
    exec (.queryPeer r tag 4) s =
      .next (answer r ⟨tag, 0x50, 0x00, flagBit s.lc.up 0 + 256 * s.lc.control.length, s.lc.station, s.lc.localId + 4294967296 * s.lc.etherType⟩ s) := by
  change Host.Outcome.next (reqQueryPeer r tag 4 s) = _
  simp only [reqQueryPeer, le_refl, decide_true]
  rw [gated_always s r tag _ _ rfl rfl, if_pos trivial]
  rfl

theorem State.inboundFrom_eq (s : State) (i : Ctx) :
    s.inboundFrom i = ([0, 1, 2, 3].filter fun c : Ctx => decide ((s.inCtx c).state ≠ .free ∧ (s.inCtx c).peer = i)).length := by
  simp only [State.inboundFrom, ctxList, Bool.decide_and]

theorem State.outboundTo_eq (s : State) (i : Ctx) :
    s.outboundTo i = (s.ds.active.bind (·.peer)).any fun c => decide (c.address = s.lc.peers[i].address ∧ c.id = s.lc.peers[i].id) := by
  unfold State.outboundTo
  cases s.ds.active with
  | none => rfl
  | some x =>
    rw [Option.bind_some]
    dsimp only
    cases x.peer with
    | none => rfl
    | some c => simp only [Option.any_some, Bool.decide_and]

theorem peerWord_eq (s : State) (i : Ctx) :
    peerWord s i =
      flagBit s.lc.up 0 + flagBit s.lc.peers[i].enabled 1 + flagBit s.lc.peers[i].frameError 2 +
        16 * ([0, 1, 2, 3].filter fun c : Ctx => decide ((s.inCtx c).state ≠ .free ∧ (s.inCtx c).peer = i)).length +
        flagBit ((s.ds.active.bind (·.peer)).any fun c => decide (c.address = s.lc.peers[i].address ∧ c.id = s.lc.peers[i].id)) 7 := by
  rw [peerWord, State.inboundFrom_eq, State.outboundTo_eq]

/-! ### The statement -/

/-- Settles O28: every query passes the gates in every state, and each word is read off the state by its lemma above. -/
theorem wordQueriesReportTheState : Obligations.WordQueriesReportTheState := by
  unfold Obligations.WordQueriesReportTheState
  intro s r tag v
  refine ⟨?volume, ?mover, ?active, fun hna => ⟨?queued, ?noRun⟩, fun hv => ⟨?noContext, ?context⟩, ?peer, exec_queryPeer_station s r tag⟩
  case volume => rw [exec_queryVolume, volumeWord_eq]; rfl
  case mover =>
    intro k code hcode
    obtain ⟨m, rfl⟩ := MoverClass.index_surjective k
    have code_eq : code = MoverClass.code := by
      rw [hcode]
      funext c
      cases c <;> rfl
    rw [exec_queryMover, moverWord, faultBits_eq, faultBits_eq, code_eq]
    simp only [← add_assoc]
    rfl
  case active =>
    rintro x hx rfl
    rw [exec_queryRun_active s r tag x hx]
    rfl
  case queued =>
    intro l x t hq hx hl
    have isQueued : (s.ds.queued v).isSome = true := (Ds.queued_isSome_iff _ v).2 ⟨x, by simp [hq], hx⟩
    rw [exec_queryRun_not_active s r tag v hna, reqQueryRun.queuedOrNone, if_pos isQueued, Ds.place_of_split hq hx hl]
    rfl
  case noRun =>
    intro hq
    have notQueued : ¬(s.ds.queued v).isSome = true := fun h =>
      let ⟨x, hx, hxv⟩ := (Ds.queued_isSome_iff _ v).1 h
      hq x hx hxv
    rw [exec_queryRun_not_active s r tag v hna, reqQueryRun.queuedOrNone, if_neg notQueued]
    rfl
  case noContext =>
    intro hc
    have noCtx := State.ctxOf_eq_none hc
    rw [exec_queryInbound s r tag v hv, inboundWord_of_ctxOf_none noCtx, noCtx]
    rfl
  case context =>
    intro c hs hcv hd
    have itsCtx := State.ctxOf_eq_some hs hcv hd
    rw [exec_queryInbound s r tag v hv, inboundWord_of_ctxOf_some itsCtx, itsCtx]
    rfl
  case peer =>
    intro i
    rw [exec_queryPeer_entry, peerWord_eq]
    rfl

end Sys2Proof.Machine
end

section
/-! Thresholds, charge decisions and re-rating (O31; R27 to R32, Table 2-3): one equation for each outcome of `chargeDecision`, `twoAccountDecision` and `rateUser`. -/

namespace Sys2Proof.Machine

/-! ### Thresholds (R27, Table 2-3) -/

theorem marginPerMille_of_mem {code m : Nat}
    (h : (code, m) ∈ [(0, 50), (1, 75), (2, 100), (3, 125), (4, 150), (5, 200), (6, 250), (7, 300)]) : marginPerMille code = m := by
  simp only [List.mem_cons, List.not_mem_nil, or_false, Prod.mk.injEq] at h
  obtain ⟨rfl, rfl⟩ | ⟨rfl, rfl⟩ | ⟨rfl, rfl⟩ | ⟨rfl, rfl⟩ | ⟨rfl, rfl⟩ | ⟨rfl, rfl⟩ | ⟨rfl, rfl⟩ | ⟨rfl, rfl⟩ := h <;> rfl

theorem Account.leave_le_soft (a : Account) : a.leave ≤ a.soft :=
  Nat.div_le_div_right (Nat.mul_le_mul_left _ (by omega))

theorem Account.soft_le_hard (a : Account) : a.soft ≤ a.hard :=
  Nat.div_le_of_le_mul (by rw [Nat.mul_comm]; exact Nat.mul_le_mul_right _ (by omega))

theorem Account.leave_le_hard (a : Account) : a.leave ≤ a.hard := a.leave_le_soft.trans a.soft_le_hard

theorem Account.soft_of_hard_zero {a : Account} (h : a.hard = 0) : a.soft = 0 := by simp [Account.soft, h]

theorem Account.leave_of_hard_zero {a : Account} (h : a.hard = 0) : a.leave = 0 := by simp [Account.leave, h]

/-! ### Charge decisions (R31, R32) -/

theorem chargeDecision_of_no_limit {a : Account} (c : Nat) (h : a.hard = 0) : chargeDecision a c = none := if_pos h

theorem chargeDecision_of_above {a : Account} {c : Nat} (h : a.hard ≠ 0) (hc : a.hard < a.usage + c) :
    chargeDecision a c = some .hardLimit := by simp [chargeDecision, h, hc]

theorem chargeDecision_of_expired {a : Account} {c : Nat} (h : a.hard ≠ 0) (hc : a.usage + c ≤ a.hard) (hs : a.state = .expired)
    (hp : a.privileged = false) : chargeDecision a c = some .graceExpired := by simp [chargeDecision, h, hc.not_gt, hs, hp]

theorem chargeDecision_of_fits {a : Account} {c : Nat} (hc : a.usage + c ≤ a.hard) (hs : a.state ≠ .expired ∨ a.privileged = true) :
    chargeDecision a c = none := by
  have notRefused : ¬(a.state = .expired ∧ a.privileged = false) := by
    rintro ⟨he, hp⟩
    simp [he, hp] at hs
  simp [chargeDecision, hc.not_gt, notRefused]

section
variable {s : State} {owner c : Nat} {group : Option Nat}

theorem twoAccountDecision_of_owner_refuses {st : Status} (h : chargeDecision (s.account owner) c = some st) :
    twoAccountDecision s owner group c = some ⟨st, owner, 1⟩ := by simp [twoAccountDecision, h]

theorem twoAccountDecision_of_no_group (h : chargeDecision (s.account owner) c = none) : twoAccountDecision s owner none c = none := by
  simp [twoAccountDecision, h]

theorem twoAccountDecision_of_group_refuses {g : Nat} {st : Status} (h : chargeDecision (s.account owner) c = none)
    (hg : chargeDecision (s.account g) c = some st) : twoAccountDecision s owner (some g) c = some ⟨st, g, 2⟩ := by
  simp [twoAccountDecision, h, hg]

theorem twoAccountDecision_of_both_accept {g : Nat} (h : chargeDecision (s.account owner) c = none)
    (hg : chargeDecision (s.account g) c = none) : twoAccountDecision s owner (some g) c = none := by
  simp [twoAccountDecision, h, hg]
end

/-! ### The six steps of a re-rating (R28, R29) -/

section
variable {a : Account} (clock : Nat)

theorem graceStart_of_no_grace (h : a.grace = 0) :
    graceStart clock a = ({ a with state := .expired, deadline := some clock }, [.softCrossed, .graceExpired]) := if_pos h

theorem graceStart_of_grace (h : a.grace ≠ 0) :
    graceStart clock a = ({ a with state := .grace, deadline := some (min (clock + a.grace) Config.max32) }, [.softCrossed]) := if_neg h

/-- Step 1: no limit, or usage at or below L. -/
theorem rateUser_of_low (h : a.hard = 0 ∨ a.usage ≤ a.leave) : rateUser clock a = ({ a with state := .under, deadline := none }, []) := by
  by_cases h0 : a.hard = 0
  · simp [rateUser, h0]
  · have low : a.usage ≤ a.leave := h.resolve_left h0
    have notAbove : ¬a.hard < a.usage := (low.trans a.leave_le_hard).not_gt
    have notSoft : ¬a.soft < a.usage := (low.trans a.leave_le_soft).not_gt
    simp [rateUser, h0, notAbove, low.not_gt, notSoft]

/-- Step 2: usage above the hard limit. -/
theorem rateUser_of_above (h0 : a.hard ≠ 0) (h : a.hard < a.usage) :
    rateUser clock a = ({ a with state := .overHard }, if a.state = .overHard then [] else [.hardExceeded]) := by simp [rateUser, h0, h]

/-- Step 3: an account in GRACE or EXPIRED stays as it is above L. -/
theorem rateUser_of_stays (h0 : a.hard ≠ 0) (h : a.usage ≤ a.hard) (hl : a.leave < a.usage) (hs : a.state = .grace ∨ a.state = .expired) :
    rateUser clock a = (a, []) := by simp [rateUser, h0, h.not_gt, hl, hs]

/-- Step 4: an account in UNDER stays there up to S. -/
theorem rateUser_of_under (h0 : a.hard ≠ 0) (h : a.usage ≤ a.soft) (hs : a.state = .under) :
    rateUser clock a = ({ a with state := .under, deadline := none }, []) := by
  simp [rateUser, h0, (h.trans a.soft_le_hard).not_gt, h.not_gt, hs]

/-- Step 5: grace starts for an account in UNDER that passes S, and for one in OVER_HARD without a deadline that stays above L. -/
theorem rateUser_of_crosses (h0 : a.hard ≠ 0) (h : a.usage ≤ a.hard)
    (hs : (a.state = .under ∧ a.soft < a.usage) ∨ (a.state = .overHard ∧ a.leave < a.usage ∧ a.deadline = none)) :
    rateUser clock a = graceStart clock a := by
  obtain ⟨hst, hsoft⟩ | ⟨hst, hl, hd⟩ := hs
  · simp [rateUser, h0, h.not_gt, hst, hsoft]
  · simp [rateUser, h0, h.not_gt, hst, hl, hd]

/-- Step 6: an account in OVER_HARD with a deadline goes back to GRACE before it, and to EXPIRED from it on. -/
theorem rateUser_of_returns (h0 : a.hard ≠ 0) (h : a.usage ≤ a.hard) (hl : a.leave < a.usage) (hs : a.state = .overHard) {d : Nat}
    (hd : a.deadline = some d) :
    rateUser clock a = if clock < d then ({ a with state := .grace }, []) else ({ a with state := .expired }, [.graceExpired]) := by
  simp [rateUser, h0, h.not_gt, hl, hs, hd]
end

/-! ### The statement -/

/-- Settles O31, an equation above for each clause. -/
theorem thresholdsDecisionsAndReRating : Obligations.ThresholdsDecisionsAndReRating := by
  unfold Obligations.ThresholdsDecisionsAndReRating
  refine ⟨?thresholds, ?decision, ?twoAccounts, ?rerating⟩
  case thresholds =>
    intro a m hm
    have perMille := marginPerMille_of_mem hm
    exact ⟨by rw [Account.soft, perMille], by rw [Account.leave, perMille], a.leave_le_soft, a.soft_le_hard,
      fun h => ⟨Account.soft_of_hard_zero h, Account.leave_of_hard_zero h⟩⟩
  case decision =>
    exact fun a c => ⟨chargeDecision_of_no_limit c, chargeDecision_of_above, chargeDecision_of_expired, fun _ => chargeDecision_of_fits⟩
  case twoAccounts =>
    refine fun s owner group c => ⟨fun st => twoAccountDecision_of_owner_refuses, fun h => ⟨?_, ?_⟩⟩
    · rintro rfl
      exact twoAccountDecision_of_no_group h
    · rintro g rfl
      exact ⟨fun st => twoAccountDecision_of_group_refuses h, twoAccountDecision_of_both_accept h⟩
  case rerating =>
    refine fun clock a => ⟨rateUser_of_low clock, rateUser_of_above clock, rateUser_of_stays clock, fun h0 _ => rateUser_of_under clock h0,
      fun h0 h hs => ⟨fun hg => ?_, fun hg => ?_⟩, fun h0 h hl hs d => rateUser_of_returns clock h0 h hl hs⟩
    · rw [rateUser_of_crosses clock h0 h hs, graceStart_of_no_grace clock hg]
    · rw [rateUser_of_crosses clock h0 h hs, graceStart_of_grace clock hg]
      rfl

end Sys2Proof.Machine
end

section
/-! The laws of the accounts fail at LOAD_ACCOUNT (O6). Inside the namespace of `AccountKind`, the `none` that ends `AccountKind.ofHostCode` is the account kind NONE and not `Option.none`. So a
kind code that names no host kind passes the form check, where R38 has it refused BAD_REQUEST, and an account of kind NONE with the terms given joins the table. -/

namespace Sys2Proof.Machine

theorem AccountKind.ofHostCode_of_no_host_kind {code : Nat} (user : code ≠ 1) (group : code ≠ 2) :
    AccountKind.ofHostCode code = some AccountKind.none := by simp [AccountKind.ofHostCode, user, group]

/-- An account of kind NONE with a hard limit, which no index admits (Table 2-1). -/
def Account.noneLimited (hard : Nat) : Account := { Account.none with hard := hard }

theorem Account.noneLimited_ne_none {hard : Nat} (h : hard ≠ 0) : Account.noneLimited hard ≠ Account.none := fun e => h (congrArg Account.hard e)

theorem Account.not_ok_noneLimited (i hard : Nat) : ¬(Account.noneLimited hard).ok i := by simp [Account.ok, Account.noneLimited, Account.none]

/-- A LOAD_ACCOUNT that gives an account a hard limit and no grace terms. -/
def limitOnly (i code hard : Nat) : LoadAccountParams := ⟨i, code, hard, 0, 0, false, none⟩

theorem formOk_limitOnly {i code hard : Nat} (host : hostAccount i = true) (fits : hard ≤ Config.max48) (user : code ≠ 1) (group : code ≠ 2) :
    formOk (.loadAccount (limitOnly i code hard)) = true := by
  have inRange : accountOk i = true := by
    rw [hostAccount, Bool.and_eq_true] at host
    exact host.2
  simp [formOk, limitOnly, termsOk, host, inRange, fits, AccountKind.ofHostCode_of_no_host_kind user group]

theorem account_setAccount_noneLimited (s : State) (i : Nat) {hard : Nat} (limit : hard ≠ 0) :
    (s.setAccount i (Account.noneLimited hard)).account i = Account.noneLimited hard :=
  (sparseGet_set_value _ _ _ _ _ (Account.noneLimited_ne_none limit)).trans (if_pos rfl)

section
variable {s : State} {i hard : Nat} (unlisted : s.account i = Account.none) (limit : hard ≠ 0)
include unlisted limit

/-- The re-rating leaves an account of kind NONE as it was stored. -/
theorem loadAccountAccept_limitOnly (code : Nat) :
    loadAccountAccept (limitOnly i code hard) .none s = s.setAccount i (Account.noneLimited hard) := by
  have stored : ({ s.account i with kind := .none, hard := hard, margin := 0, grace := 0, privileged := false } : Account) =
      Account.noneLimited hard := by
    rw [unlisted]
    rfl
  simp only [loadAccountAccept, limitOnly, stored, rerate, account_setAccount_noneLimited s i limit]
  rfl

/-- A LOAD_ACCOUNT of a kind that is no host kind is answered OK and stores an account of kind NONE, where R38 refuses it. -/
theorem exec_loadAccount_of_no_host_kind (r : RingNo) (tag : Nat) {code : Nat} (user : code ≠ 1) (group : code ≠ 2) (up : s.up)
    (host : hostAccount i = true) (fits : hard ≤ Config.max48) :
    exec (.loadAccount r tag (limitOnly i code hard)) s = .next (reply r tag (.loadAccount (limitOnly i code hard)) .ok AccountState.under.code 0 0
      (s.setAccount i (Account.noneLimited hard))) := by
  have form := formOk_limitOnly host fits user group
  have kind : AccountKind.ofHostCode (limitOnly i code hard).kind = some AccountKind.none := AccountKind.ofHostCode_of_no_host_kind user group
  have account : (limitOnly i code hard).account = i := rfl
  have notBusy : ¬((s.account i).kind ≠ .none ∧ (s.account i).kind ≠ .none ∧ (s.account i).records ≠ 0) := fun ⟨busy, _⟩ => busy (by rw [unlisted]; rfl)
  refine congrArg Host.Outcome.next ?_
  simp only [formOk] at form
  simp only [reqLoadAccount]
  rw [form, gated_up _ _ _ _ s up]
  simp only [kind, account]
  rw [if_neg notBusy, loadAccountAccept_limitOnly unlisted limit, account_setAccount_noneLimited s i limit]
  rfl
end

/-- A table that holds an account of kind NONE breaks the laws of the accounts. -/
theorem not_quOk_setAccount_noneLimited (s : State) (i : Nat) {hard : Nat} (limit : hard ≠ 0) :
    ¬(s.setAccount i (Account.noneLimited hard)).qu.ok := by
  rintro ⟨-, accounts, -⟩
  have reads := account_setAccount_noneLimited s i limit
  have listed := mem_of_sparseGet Account.none _ i (reads.trans_ne (Account.noneLimited_ne_none limit))
  exact Account.not_ok_noneLimited i hard (reads ▸ accounts _ listed)

/-- The part right after reset, out of SAFE state, so that it takes every request. -/
def upAfterReset : State := State.reset.setPs { State.reset.ps with safe := false }

theorem upAfterReset_up : upAfterReset.up := ⟨rfl, rfl⟩

theorem upAfterReset_quOk : upAfterReset.qu.ok := by
  refine ⟨rfl, fun e he => ?_, by decide, .nil, fun d i => ?_⟩
  · exact absurd he (List.not_mem_nil)
  · simp [upAfterReset, State.reset, sparseGet, Account.none]

/-- Refutes O6: `upAfterReset` keeps the laws, and its step by a LOAD_ACCOUNT of account 32 with kind code 3, which is RESERVE's and no host kind's, and a hard limit of 1 KiB lists an
account of kind NONE. -/
theorem not_stepKeepsAccountAndGraceLaws : ¬ Obligations.StepKeepsAccountAndGraceLaws := by
  unfold Obligations.StepKeepsAccountAndGraceLaws
  intro keeps
  have loaded := exec_loadAccount_of_no_host_kind (s := upAfterReset.setPending []) (i := 32) (hard := 1) rfl one_ne_zero 0 7 (code := 3)
    (by decide) (by decide) upAfterReset_up rfl (by decide)
  have kept := keeps (upAfterReset.setPending [.loadAccount 0 7 (limitOnly 32 3 1)]) _ upAfterReset_quOk loaded
  rw [reply, answer, answerDue_qu] at kept
  exact not_quOk_setAccount_noneLimited _ 32 one_ne_zero kept

end Sys2Proof.Machine
end

section
/-! The search of a restore context (O38; R79, R80): which record a search step finds, which pieces it makes of it, and how far they move the search position. -/

namespace Sys2Proof.Machine

/-! ### The records that a search looks for -/

theorem Extent.inUse_iff (e : Extent) (t : Nat) : e.inUse t = true ↔ e.birth ≤ t ∧ ∀ d, e.death = some d → t < d := by
  cases hd : e.death <;> simp [Extent.inUse, hd]

theorem RestoreCtx.wants_iff (x : RestoreCtx) (e : Extent) :
    x.wants e = true ↔ e.volume = x.volume ∧ e.object = x.srcObject ∧ e.birth ≤ x.epoch ∧ (∀ d, e.death = some d → x.epoch < d) ∧
      x.searchPos < e.offset + e.len ∧ e.offset < x.stop := by
  simp [RestoreCtx.wants, Extent.inUse_iff, and_assoc]

/-! ### The record of lowest offset -/

/-- The order of R80, by offset and then by first block. -/
def Extent.precedes (a b : Extent) : Prop := a.offset < b.offset ∨ (a.offset = b.offset ∧ a.first < b.first)

theorem Extent.earlier_self (a : Extent) : a.earlier a = a := ite_self a

theorem Extent.earlier_of_precedes {a b : Extent} (h : a.precedes b) : a.earlier b = a :=
  if_neg (by unfold Extent.precedes at h; omega)

theorem Extent.earlier_of_preceded {a b : Extent} (h : b.precedes a) : a.earlier b = b := if_pos h

theorem Extent.earlier_eq_or (a b : Extent) : a.earlier b = b ∨ a.earlier b = a := ite_eq_or_eq _ b a

theorem mem_of_earliest {l : List Extent} {x : Extent} (h : earliest l = some x) : x ∈ l := by
  induction l generalizing x with
  | nil => cases h
  | cons a es ih =>
    cases hes : earliest es with
    | none =>
      simp only [earliest, hes, Option.some.injEq] at h
      exact h ▸ List.mem_cons_self
    | some z =>
      simp only [earliest, hes, Option.some.injEq] at h
      obtain hz | ha := a.earlier_eq_or z
      · exact List.mem_cons_of_mem _ (ih (hes.trans (congrArg some (hz.symm.trans h))))
      · exact (ha.symm.trans h) ▸ List.mem_cons_self

/-- `earliest` finds the record that precedes every other record of the list. -/
theorem earliest_eq_some {l : List Extent} {e : Extent} (mem : e ∈ l) (first : ∀ y ∈ l, y ≠ e → e.precedes y) : earliest l = some e := by
  induction l with
  | nil => cases mem
  | cons a es ih =>
    have firstOfRest : ∀ y ∈ es, y ≠ e → e.precedes y := fun y hy => first y (List.mem_cons_of_mem _ hy)
    by_cases later : e ∈ es
    · have keepsLater : a.earlier e = e := by
        by_cases ha : a = e
        · rw [ha, Extent.earlier_self]
        · exact Extent.earlier_of_preceded (first a List.mem_cons_self ha)
      simp only [earliest, ih later firstOfRest, keepsLater]
    · obtain rfl : e = a := (List.mem_cons.1 mem).resolve_right later
      cases hes : earliest es with
      | none => simp only [earliest, hes]
      | some z =>
        have hz : z ∈ es := mem_of_earliest hes
        have keepsHead : e.earlier z = e := Extent.earlier_of_precedes (firstOfRest z hz fun h => later (h ▸ hz))
        simp only [earliest, hes, keepsHead]

/-! ### The pieces made of the record found -/

section
variable {x : RestoreCtx} {e : Extent} {places : Nat}

theorem RestoreCtx.found_of_covers (h : e.offset ≤ x.searchPos) :
    x.found (some e) places = [⟨some (e.first + (x.searchPos - e.offset)), x.searchPos, min (e.offset + e.len) x.stop - x.searchPos⟩] :=
  if_neg h.not_gt

theorem RestoreCtx.found_of_gap (h : x.searchPos < e.offset) (two : 2 ≤ places) :
    x.found (some e) places =
      [⟨none, x.searchPos, e.offset - x.searchPos⟩, ⟨some e.first, e.offset, min (e.offset + e.len) x.stop - e.offset⟩] := by
  simp only [RestoreCtx.found, if_pos h, if_pos two]

theorem RestoreCtx.found_of_gap_last_place (h : x.searchPos < e.offset) (one : places < 2) :
    x.found (some e) places = [⟨none, x.searchPos, e.offset - x.searchPos⟩] := by
  simp only [RestoreCtx.found, if_pos h, if_neg one.not_ge]
end

@[simp] theorem piecesLen_nil : piecesLen [] = 0 := rfl

@[simp] theorem piecesLen_cons (p : Piece) (ps : List Piece) : piecesLen (p :: ps) = p.len + piecesLen ps := List.sum_cons

/-! ### The step -/

theorem RestoreCtx.maySearch_iff (x : RestoreCtx) :
    x.maySearch = true ↔ x.phase ≠ .free ∧ x.phase ≠ .ending ∧ x.acceptedDue = false ∧ x.searchPos < x.stop ∧ x.plan.length < Config.maxPlan := by
  simp [RestoreCtx.maySearch, RestoreCtx.running, RestoreCtx.searched, and_assoc]

/-- The context after a search step that adds the pieces `ps` and leaves the search at `pos`. -/
def RestoreCtx.advance (x : RestoreCtx) (ps : List Piece) (pos : Nat) : RestoreCtx :=
  { x with phase := if x.phase = .claimed then .searching else x.phase, plan := x.plan ++ ps, searchPos := pos }

/-- A step of a search that goes on adds the pieces made of the earliest record wanted. -/
theorem exec_searchStep {s : State} {c : Ctx} {o : Option Extent} {ps : List Piece} {pos : Nat} (may : (s.restoreCtx c).maySearch = true)
    (record : earliest (s.extents.filter (s.restoreCtx c).wants) = o)
    (pieces : (s.restoreCtx c).found o (Config.maxPlan - (s.restoreCtx c).plan.length) = ps) (moved : (s.restoreCtx c).searchPos + piecesLen ps = pos) :
    exec (.searchStep c) s = .next (s.setRestoreCtx c ((s.restoreCtx c).advance ps pos)) := by
  have step : searchStep c s = s.setRestoreCtx c ((s.restoreCtx c).advance ps pos) := by
    subst record pieces moved
    rfl
  exact (if_pos may).trans (congrArg Host.Outcome.next step)

/-- Settles O38: the record is found by `earliest_eq_some`, and each clause is one outcome of `RestoreCtx.found`. -/
theorem searchAddsPiecesInOrder : Obligations.SearchAddsPiecesInOrder := by
  unfold Obligations.SearchAddsPiecesInOrder
  rintro s c x stop wanted next rfl rfl notFree notEnding handedOn before room hwanted hnext
  have may := (s.restoreCtx c).maySearch_iff.2 ⟨notFree, notEnding, handedOn, before, room⟩
  have wants_iff_wanted (e : Extent) : (s.restoreCtx c).wants e = true ↔ wanted e := by
    rw [hwanted]
    exact (s.restoreCtx c).wants_iff e
  refine ⟨fun noRecord => ?rest, fun e he we lowest => ?record⟩
  case rest =>
    have noneFound : earliest (s.extents.filter (s.restoreCtx c).wants) = none := by
      rw [List.filter_eq_nil_iff.2 fun e he we => noRecord e he ((wants_iff_wanted e).1 we)]
      rfl
    rw [hnext]
    exact exec_searchStep may noneFound rfl (Nat.add_sub_of_le before.le)
  case record =>
    have found : earliest (s.extents.filter (s.restoreCtx c).wants) = some e := by
      refine earliest_eq_some (List.mem_filter.2 ⟨he, (wants_iff_wanted e).2 we⟩) fun y hy => ?_
      obtain ⟨hy, wy⟩ := List.mem_filter.1 hy
      exact lowest y hy ((wants_iff_wanted y).1 wy)
    rw [hwanted] at we
    obtain ⟨-, -, -, -, reaches, starts⟩ := we
    refine ⟨fun covers => ?data, fun gap two => ?holeAndData, fun gap one => ?holeOnly⟩
    all_goals rw [hnext]
    case data =>
      refine exec_searchStep may found (RestoreCtx.found_of_covers covers) ?_
      exact Nat.add_sub_of_le (le_min reaches.le before.le)
    case holeAndData =>
      refine exec_searchStep may found (RestoreCtx.found_of_gap gap (by simp only [Config.maxPlan]; omega)) ?_
      rw [piecesLen_cons, piecesLen_cons, piecesLen_nil, Nat.add_zero, ← Nat.add_assoc, Nat.add_sub_of_le gap.le]
      exact Nat.add_sub_of_le (le_min (Nat.le_add_right _ _) starts.le)
    case holeOnly =>
      exact exec_searchStep may found (RestoreCtx.found_of_gap_last_place gap (by simp only [Config.maxPlan]; omega)) (Nat.add_sub_of_le gap.le)

end Sys2Proof.Machine
end

section
/-! The digest arithmetic (R169), the header check (R163) and the frames that fail it (O16; R161). The entry charged has one lemma for each case of
R161, and the outcome of the frame one for each outcome of the peer match. -/

namespace Sys2Proof.Machine

/-! ### Digests (R169) -/

theorem digestAdd_toNat (a b : Digest) :
    (digestAdd a b).toNat = if a.toNat + b.toNat < 2 ^ 32 then a.toNat + b.toNat else a.toNat + b.toNat - 2 ^ 32 + 1 := by
  change (if a.toNat + b.toNat < 2 ^ 32 then a + b else a + b + 1).toNat = _
  split
  case isTrue fits => exact BitVec.toNat_add_of_lt fits
  case isFalse carries => bv_omega

theorem digestAdd_comm (a b : Digest) : digestAdd a b = digestAdd b a := by
  simp only [digestAdd, Nat.add_comm a.toNat, BitVec.add_comm a]

/-- End-around sums are sums modulo 2^32 - 1 in which only 0 + 0 is 0, so the place of the carry does not matter. -/
theorem digestAdd_assoc (a b c : Digest) : digestAdd (digestAdd a b) c = digestAdd a (digestAdd b c) := by
  apply BitVec.eq_of_toNat_eq
  simp only [digestAdd_toNat]
  have := a.isLt
  have := b.isLt
  have := c.isLt
  split_ifs <;> omega

theorem digestWords_cons (w x y z : Byte) (rest : List Byte) :
    digestWords (w :: x :: y :: z :: rest) =
      BitVec.ofNat 32 (w.toNat + 256 * x.toNat + 65536 * y.toNat + 16777216 * z.toNat) :: digestWords rest := by
  have word : ofLe [w, x, y, z] = w.toNat + 256 * x.toNat + 65536 * y.toNat + 16777216 * z.toNat := by
    simp only [ofLe]
    omega
  rw [digestWords, word]

theorem digestWords_append (ys : List Byte) : ∀ xs : List Byte, xs.length % 4 = 0 → digestWords (xs ++ ys) = digestWords xs ++ digestWords ys
  | [], _ => rfl
  | [_], h | [_, _], h | [_, _, _], h => absurd h (by simp)
  | _ :: _ :: _ :: _ :: rest, h => congrArg (List.cons _) (digestWords_append ys rest (by simpa [add_assoc] using h))

theorem digestFeed_append (d : Digest) {xs : List Byte} (ys : List Byte) (whole : xs.length % 4 = 0) :
    digestFeed d (xs ++ ys) = digestFeed (digestFeed d xs) ys := by
  simp only [digestFeed, digestWords_append ys xs whole, List.foldl_append]

/-! ### The header check (R163) -/

theorem checkAdd_lt {a b : Nat} (ha : a < 65536) (hb : b < 65536) : checkAdd a b < 65536 := by
  unfold checkAdd
  split <;> omega

theorem field_take {bs : List Byte} {n o w : Nat} (inside : o + w ≤ n) : field (bs.take n) o w = field bs o w := by
  rw [field, List.drop_take, List.take_take, Nat.min_eq_left (Nat.le_sub_of_add_le' inside), field]

/-- The check of a frame's header reads no byte past the header. -/
theorem headerCheck_take (bs : List Byte) : headerCheck (bs.take 24) = headerCheck bs := by
  simp [headerCheck, field_take]

/-! ### The entry charged (R161) -/

section
variable {s : State} {f : EthFrame} {i : Ctx}

theorem some_eq_senderIdOf {n : Nat} : some n = senderIdOf f ↔ 8 ≤ f.payload.length ∧ n = field f.payload 4 4 := by
  simp [senderIdOf]

/-- The lowest-numbered entry that the source and the sender peer id both match. -/
theorem State.chargedEntry_of_sender (long : 8 ≤ f.payload.length) (enabled : s.lc.peers[i].enabled = true) (address : s.lc.peers[i].address = f.src)
    (sender : s.lc.peers[i].id = field f.payload 4 4)
    (lowest : ∀ j : Ctx, j < i → s.lc.peers[j].enabled = true → s.lc.peers[j].address = f.src → s.lc.peers[j].id ≠ field f.payload 4 4) :
    s.chargedEntry f.src (senderIdOf f) = some i := by
  have found : (s.entriesOf f.src).find? (fun j => decide (some s.lc.peers[j].id = senderIdOf f)) = some i := by
    simp only [State.entriesOf, List.find?_filter, some_eq_senderIdOf, long, true_and]
    refine find_ctx _ i (by simpa using ⟨⟨enabled, address⟩, sender⟩) fun j before => ?_
    simpa using lowest j before
  rw [State.chargedEntry, found]

/-- The lowest-numbered entry that the source matches, when the frame is too short for a sender peer id or no such entry has its id. -/
theorem State.chargedEntry_of_no_sender (enabled : s.lc.peers[i].enabled = true) (address : s.lc.peers[i].address = f.src)
    (others : ∀ j : Ctx, s.lc.peers[j].enabled = true → s.lc.peers[j].address = f.src →
      i ≤ j ∧ (f.payload.length < 8 ∨ s.lc.peers[j].id ≠ field f.payload 4 4)) :
    s.chargedEntry f.src (senderIdOf f) = some i := by
  have notFound : (s.entriesOf f.src).find? (fun j => decide (some s.lc.peers[j].id = senderIdOf f)) = none := by
    refine List.find?_eq_none.2 fun j hj => ?_
    obtain ⟨-, he, ha⟩ : j ∈ ctxList ∧ s.lc.peers[j].enabled = true ∧ s.lc.peers[j].address = f.src := by simpa [State.entriesOf] using hj
    rw [decide_eq_true_iff, some_eq_senderIdOf]
    rintro ⟨long, same⟩
    exact (others j he ha).2.elim long.not_gt (· same)
  have lowest : (s.entriesOf f.src).head? = some i := by
    rw [State.entriesOf, List.head?_filter]
    refine find_ctx _ i (by simpa using ⟨enabled, address⟩) fun j before => ?_
    simpa using fun he ha => absurd (others j he ha).1 before.not_ge
  rw [State.chargedEntry, notFound, lowest]

theorem State.chargedEntry_of_no_entry (noEntry : ∀ j : Ctx, s.lc.peers[j].enabled = true → s.lc.peers[j].address ≠ f.src) :
    s.chargedEntry f.src (senderIdOf f) = none := by
  have empty : s.entriesOf f.src = [] := List.filter_eq_nil_iff.2 fun j _ => by simpa using noEntry j
  rw [State.chargedEntry, empty]
  rfl

/-! ### FRAME_REJECTED -/

/-- The peer match precedes the header check, and the header check the form check. -/
theorem State.arrival_of_header_fails (up : s.lc.up = true) (takes : s.portTakes f = true) (charged : s.chargedEntry f.src (senderIdOf f) = some i)
    (fails : f.payload.length < 24 ∨ headerCheck f.payload ≠ field f.payload 2 2) : s.arrival f = .frameError i := by
  simp only [State.arrival, up, takes, charged, headerCheck_take, if_pos fails, Bool.and_self, if_true]

theorem State.arrival_of_not_charged (charged : s.chargedEntry f.src (senderIdOf f) = none) : s.arrival f = .noTrace := by
  simp only [State.arrival, charged, ite_self]

theorem exec_frameRejected_of_frameError (h : s.arrival f = .frameError i) : exec (.frameRejected f) s = .next (setFrameError i s) := by
  change execFrameRejected f s = _
  rw [execFrameRejected, h]

theorem exec_frameRejected_of_noTrace (h : s.arrival f = .noTrace) : exec (.frameRejected f) s = .next s := by
  change execFrameRejected f s = _
  rw [execFrameRejected, h]
end

/-! ### The statement -/

/-- Settles O16: the sums are the lemmas above, and a frame whose header fails is charged to an entry by one of the two cases of R161. -/
theorem digestAndHeaderCheckAreEndAroundSums : Obligations.DigestAndHeaderCheckAreEndAroundSums := by
  unfold Obligations.DigestAndHeaderCheckAreEndAroundSums
  refine ⟨digestAdd_toNat, digestWords_cons, fun _ _ => rfl, digestAdd_comm, digestAdd_assoc, fun d _ ys whole => digestFeed_append d ys whole,
    fun _ _ ha hb => ⟨checkAdd_lt ha hb, rfl⟩, ?flagged, fun s f noEntry => ?noTrace⟩
  case flagged =>
    rintro s f i up takes ⟨enabled, address⟩ entry fails
    have charged : s.chargedEntry f.src (senderIdOf f) = some i := by
      rcases entry with ⟨long, sender, lowest⟩ | others
      · exact State.chargedEntry_of_sender long enabled address sender lowest
      · exact State.chargedEntry_of_no_sender enabled address others
    exact exec_frameRejected_of_frameError (State.arrival_of_header_fails up takes charged fails)
  case noTrace => exact exec_frameRejected_of_noTrace (State.arrival_of_not_charged (State.chargedEntry_of_no_entry noEntry))

end Sys2Proof.Machine
end

section
/-! The pending notice set (O18; R186 to R188): what the raising of a notice does to it, and what NOTICE_POST takes out of it. -/

namespace Sys2Proof.Machine

/-! ### Raising (R186, R188) -/

theorem Notice.isOf_iff (n : Notice) (k : NoticeKind) (b c : Nat) : n.isOf k b c = true ↔ n.kind = k ∧ n.b = b ∧ n.c = c := by
  simp [Notice.isOf, and_assoc]

section
variable {s : State} {k : NoticeKind} {b c : Nat}

theorem raise_of_present (present : ∃ n ∈ s.riu.notices, n.kind = k ∧ n.b = b ∧ n.c = c) :
    raise k b c s = s.setRiu { s.riu with
      notices := s.riu.notices.map fun n => if n.kind = k ∧ n.b = b ∧ n.c = c then { n with count := min (n.count + 1) 65535 } else n } := by
  have found : (s.riu.notices.any (·.isOf k b c)) = true := by simpa only [List.any_eq_true, Notice.isOf_iff] using present
  simp only [raise, if_pos found, Notice.isOf_iff]

theorem notices_any_isOf_of_absent (absent : ∀ n ∈ s.riu.notices, ¬(n.kind = k ∧ n.b = b ∧ n.c = c)) :
    ¬(s.riu.notices.any (·.isOf k b c)) = true := by
  simpa only [List.any_eq_true, Notice.isOf_iff, not_exists, not_and] using absent

theorem raise_of_room (absent : ∀ n ∈ s.riu.notices, ¬(n.kind = k ∧ n.b = b ∧ n.c = c)) (room : s.riu.notices.length < Config.maxNotices) :
    raise k b c s = s.setRiu { s.riu with notices := s.riu.notices ++ [⟨k, b, c, 1⟩] } :=
  (if_neg (notices_any_isOf_of_absent absent)).trans (if_pos room)

theorem raise_of_full (absent : ∀ n ∈ s.riu.notices, ¬(n.kind = k ∧ n.b = b ∧ n.c = c)) (full : Config.maxNotices ≤ s.riu.notices.length) :
    raise k b c s = s.setRiu { s.riu with overflow := true, lost := min (s.riu.lost + 1) Config.max32 } :=
  (if_neg (notices_any_isOf_of_absent absent)).trans (if_neg full.not_gt)
end

/-! ### NOTICE_POST (R187, R188) -/

theorem Ring.takesNotice_iff (g : Ring) : g.takesNotice = true ↔ g.state = .enabled ∧ g.room = true ∧ g.holder = [] ∧ g.waiting = [] := by
  simp [Ring.takesNotice, and_assoc]

section
variable {s : State}

theorem exec_noticePost_of_overflow (takes : (s.ring 0).takesNotice = true) (overflow : s.riu.overflow = true) :
    exec .noticePost s = .next (writeAnswer 0 ⟨0, noticeKindByte, noticeOverflowCode, s.riu.lost, 0, 0⟩
      (s.setRiu { s.riu with overflow := false, lost := 0 })) :=
  (if_pos takes).trans (if_pos overflow)

theorem exec_noticePost_of_oldest {n : Notice} {rest : List Notice} (takes : (s.ring 0).takesNotice = true) (noOverflow : s.riu.overflow = false)
    (oldest : s.riu.notices = n :: rest) :
    exec .noticePost s = .next (writeAnswer 0 n.answer (s.setRiu { s.riu with notices := rest })) := by
  change execNoticePost s = _
  rw [execNoticePost, if_pos takes, noOverflow, oldest]
  rfl

theorem exec_noticePost_of_not_taken (refuses : ¬(s.ring 0).takesNotice = true) : exec .noticePost s = .next s := if_neg refuses
end

/-- Settles O18: an equation above for each fate of a notice that is raised, and for each outcome of NOTICE_POST. -/
theorem noticesMergeAndPostOldestFirst : Obligations.NoticesMergeAndPostOldestFirst := by
  unfold Obligations.NoticesMergeAndPostOldestFirst
  refine ⟨fun s k b c => ⟨raise_of_present, raise_of_room, raise_of_full⟩, fun s => ⟨?taken, ?notTaken⟩⟩
  case taken =>
    intro enabled room held waiting
    have takes := (s.ring 0).takesNotice_iff.2 ⟨enabled, room, held, waiting⟩
    exact ⟨exec_noticePost_of_overflow takes, fun noOverflow _ _ => exec_noticePost_of_oldest takes noOverflow⟩
  case notTaken =>
    intro blocked
    refine exec_noticePost_of_not_taken fun takes => ?_
    obtain ⟨enabled, room, held, waiting⟩ := (s.ring 0).takesNotice_iff.1 takes
    simp [enabled, room, held, waiting] at blocked

end Sys2Proof.Machine
end

section
/-! The setup act, the drain and the disabling of a ring (O19; R175, R176, R184, R185). The statement fails at its drain, which allows for a STALLED ring that holds nothing:
`Ring.ok` admits one, though R183 makes a ring STALLED only with an answer that waits. When such a ring has no room either, no drain starts and it stays STALLED. The rest of the statement
holds: the setup act (`exec_ringSetup_enables_or_disables`), the drain of a ring that holds an answer (`exec_answerConsumedWrite_drains`) and the disabling (`exec_ringDisable_discards`). -/

namespace Sys2Proof.Machine

/-! ### The ring file -/

theorem State.setRing_setRing (s : State) (r : RingNo) (x y : Ring) : (s.setRing r x).setRing r y = s.setRing r y := by
  simp only [State.setRing, State.setRiu, Vector.set_set]

theorem State.setRing_ring_self (s : State) (r : RingNo) : s.setRing r (s.ring r) = s := by
  simp [State.setRing, State.setRiu, State.ring]

theorem State.writeBytes_setRing (s : State) (r : RingNo) (x : Ring) (a : Nat) (bs : List Byte) :
    (s.setRing r x).writeBytes a bs = (s.writeBytes a bs).setRing r x := rfl

/-! ### The setup act (R175) -/

theorem sizeOk_iff (n : Nat) : sizeOk n = true ↔ ∃ i, 4 ≤ i ∧ i ≤ 12 ∧ n = 2 ^ i := by
  constructor
  · intro h
    simp only [sizeOk, List.contains_eq_mem, List.mem_cons, List.not_mem_nil, or_false, decide_eq_true_eq] at h
    rcases h with rfl | rfl | rfl | rfl | rfl | rfl | rfl | rfl | rfl
    exacts [⟨4, by decide⟩, ⟨5, by decide⟩, ⟨6, by decide⟩, ⟨7, by decide⟩, ⟨8, by decide⟩, ⟨9, by decide⟩, ⟨10, by decide⟩, ⟨11, by decide⟩, ⟨12, by decide⟩]
  · rintro ⟨i, low, high, rfl⟩
    interval_cases i <;> rfl

theorem RingSetup.ok_iff (x : RingSetup) :
    x.ok = true ↔ (∃ i, 4 ≤ i ∧ i ≤ 12 ∧ x.reqSize = 2 ^ i) ∧ (∃ i, 4 ≤ i ∧ i ≤ 12 ∧ x.ansSize = 2 ^ i) ∧ x.reqBase % 64 = 0 ∧ x.ansBase % 32 = 0 := by
  simp only [RingSetup.ok, Bool.and_eq_true, decide_eq_true_eq, sizeOk_iff, and_assoc]

theorem exec_ringSetup (r : RingNo) (n : Nat) (s : State) : exec (.ringSetup r n) s = .next (writeAnswerSize r n s) := rfl

section
variable {s : State} {r : RingNo} (n : Nat)

theorem writeAnswerSize_of_quiet (quiet : (s.ring r).state = .disabled ∨ (s.ring r).state = .faulted) :
    writeAnswerSize r n s = if ({ (s.ring r).stored with ansSize := n } : RingSetup).ok
      then s.setRing r (.enabledWith { (s.ring r).stored with ansSize := n })
      else s.setRing r { s.ring r with stored := { (s.ring r).stored with ansSize := n }, state := .disabled, cause := .setup } := by
  rcases quiet with disabled | faulted
  · simp only [writeAnswerSize, disabled]
  · simp only [writeAnswerSize, faulted]

theorem writeAnswerSize_of_running (running : (s.ring r).state = .enabled ∨ (s.ring r).state = .stalled) :
    writeAnswerSize r n s = s.setRing r { s.ring r with stored := { (s.ring r).stored with ansSize := n } } := by
  rcases running with enabled | stalled
  · simp only [writeAnswerSize, enabled]
  · simp only [writeAnswerSize, stalled]

/-- The setup act as O19 states it. -/
theorem exec_ringSetup_enables_or_disables :
    (((s.ring r).state = .disabled ∨ (s.ring r).state = .faulted) →
      ((∃ i, 4 ≤ i ∧ i ≤ 12 ∧ (s.ring r).stored.reqSize = 2 ^ i) ∧ (∃ i, 4 ≤ i ∧ i ≤ 12 ∧ n = 2 ^ i) ∧
          (s.ring r).stored.reqBase % 64 = 0 ∧ (s.ring r).stored.ansBase % 32 = 0 →
        exec (.ringSetup r n) s = .next (s.setRing r (.enabledWith { (s.ring r).stored with ansSize := n }))) ∧
      (¬((∃ i, 4 ≤ i ∧ i ≤ 12 ∧ (s.ring r).stored.reqSize = 2 ^ i) ∧ (∃ i, 4 ≤ i ∧ i ≤ 12 ∧ n = 2 ^ i) ∧
          (s.ring r).stored.reqBase % 64 = 0 ∧ (s.ring r).stored.ansBase % 32 = 0) →
        exec (.ringSetup r n) s = .next (s.setRing r
          { s.ring r with stored := { (s.ring r).stored with ansSize := n }, state := .disabled, cause := .setup }))) ∧
    (((s.ring r).state = .enabled ∨ (s.ring r).state = .stalled) →
      exec (.ringSetup r n) s = .next (s.setRing r { s.ring r with stored := { (s.ring r).stored with ansSize := n } })) := by
  have good := RingSetup.ok_iff { (s.ring r).stored with ansSize := n }
  rw [exec_ringSetup]
  refine ⟨fun quiet => ⟨fun pass => ?enables, fun fail => ?disables⟩, fun running => by rw [writeAnswerSize_of_running n running]⟩
  case enables => rw [writeAnswerSize_of_quiet n quiet, if_pos (good.2 pass)]
  case disables => rw [writeAnswerSize_of_quiet n quiet, if_neg fun passes => fail (good.1 passes)]
end

/-! ### Discarding (R176, R185) -/

/-- Waiting answers without owners leave nothing to release. -/
theorem foldl_releaseOwner_of_unowned {l : List Due} (unowned : ∀ d ∈ l, d.owner = .none) (s : State) :
    l.foldl (fun t d => releaseOwner d.owner t) s = s := by
  induction l with
  | nil => rfl
  | cons d l ih =>
    obtain ⟨first, rest⟩ := List.forall_mem_cons.1 unowned
    rw [List.foldl_cons, first]
    exact ih rest

theorem exec_ringDisable (s : State) (r : RingNo) :
    exec (.ringDisable r) s = .next ((s.ring r).waiting.foldl (fun t d => releaseOwner d.owner t) (s.setRing r
      { s.ring r with stored := { (s.ring r).stored with reqSize := 0 }, state := .disabled, holder := [], waiting := [] })) := by
  change Host.Outcome.next (disableRing r s) = _
  simp only [disableRing, quietRing, State.ring_setRing, if_true, State.setRing_setRing]

/-- The disabling of a ring as O19 states it. -/
theorem exec_ringDisable_discards (s : State) (r : RingNo) :
    ((∀ d ∈ (s.ring r).waiting, d.owner = .none) →
      exec (.ringDisable r) s = .next (s.setRing r
        { s.ring r with stored := { (s.ring r).stored with reqSize := 0 }, state := .disabled, holder := [], waiting := [] })) ∧
    ∀ a c, (s.ring r).waiting = [⟨a, .restoreEnd c⟩] →
      exec (.ringDisable r) s = .next ((s.setRing r
        { s.ring r with stored := { (s.ring r).stored with reqSize := 0 }, state := .disabled, holder := [], waiting := [] }).setRestoreCtx c .free) := by
  rw [exec_ringDisable]
  refine ⟨fun unowned => by rw [foldl_releaseOwner_of_unowned unowned], fun a c one => ?_⟩
  rw [one]
  rfl

/-! ### Room of a ring (R182) -/

/-- The answers of a ring that the host has not consumed (R182). -/
def Ring.unconsumed (g : Ring) : Nat := (g.posted + g.setup.ansSize - g.consumed) % g.setup.ansSize

/-- The pointers of the answer ring lie in it, and `k` more answers leave fewer unconsumed than its size. -/
def Ring.takes (g : Ring) (k : Nat) : Prop := g.posted < g.setup.ansSize ∧ g.consumed < g.setup.ansSize ∧ g.unconsumed + k < g.setup.ansSize

theorem Ring.unconsumed_eq {g : Ring} (posted : g.posted < g.setup.ansSize) (consumed : g.consumed < g.setup.ansSize) :
    g.unconsumed = if g.consumed ≤ g.posted then g.posted - g.consumed else g.posted + g.setup.ansSize - g.consumed := by
  unfold Ring.unconsumed
  split
  · rw [Nat.sub_add_comm ‹_›, Nat.add_mod_right, Nat.mod_eq_of_lt (by omega)]
  · exact Nat.mod_eq_of_lt (by omega)

theorem Ring.room_iff (g : Ring) : g.room = true ↔ g.unconsumed + 1 < g.setup.ansSize := decide_eq_true_iff

theorem Ring.advance_pointers (g : Ring) :
    g.advance.setup = g.setup ∧ g.advance.consumed = g.consumed ∧
      g.advance.posted = if g.posted + 1 < g.setup.ansSize then g.posted + 1 else 0 := by
  unfold Ring.advance
  split <;> exact ⟨rfl, rfl, rfl⟩

/-- A ring that has written one of the answers it takes takes the others. -/
theorem Ring.advance_takes {g : Ring} {k : Nat} (takes : g.takes (k + 1)) : g.advance.takes k := by
  obtain ⟨posted, consumed, few⟩ := takes
  obtain ⟨sameSetup, sameConsumed, next⟩ := g.advance_pointers
  have posted' : g.advance.posted < g.advance.setup.ansSize := by rw [next, sameSetup]; split <;> omega
  have consumed' : g.advance.consumed < g.advance.setup.ansSize := by rwa [sameConsumed, sameSetup]
  refine ⟨posted', consumed', ?_⟩
  rw [Ring.unconsumed_eq posted consumed] at few
  rw [Ring.unconsumed_eq posted' consumed', sameSetup, sameConsumed, next]
  split_ifs at few ⊢ <;> omega

/-! ### What a ring holds -/

/-- The ring with another state, holder and waiting answers. -/
def Ring.holding (g : Ring) (st : RingState) (h : List Answer) (w : List Due) : Ring := { g with state := st, holder := h, waiting := w }

theorem Ring.advance_holding (g : Ring) (st : RingState) (h : List Answer) (w : List Due) : (g.holding st h w).advance = g.advance.holding st h w :=
  (apply_ite (fun x : Ring => x.holding st h w) (g.posted + 1 < g.setup.ansSize) { g with posted := g.posted + 1 }
    { g with posted := 0, phase := !g.phase }).symm

/-- Ring `r` with another state, holder and waiting answers. -/
def State.holding (s : State) (r : RingNo) (st : RingState) (h : List Answer) (w : List Due) : State := s.setRing r ((s.ring r).holding st h w)

section
variable (s : State) (r : RingNo) (st : RingState) (h : List Answer) (w : List Due)

theorem State.holding_ring : (s.holding r st h w).ring r = (s.ring r).holding st h w := by simp only [State.holding, State.ring_setRing, if_true]

theorem State.holding_setRing (x : Ring) : (s.holding r st h w).setRing r x = s.setRing r x := State.setRing_setRing ..

theorem State.holding_self : s.holding r (s.ring r).state (s.ring r).holder (s.ring r).waiting = s := s.setRing_ring_self r
end

theorem ring_writeAnswer (r : RingNo) (x : Answer) (s : State) : (writeAnswer r x s).ring r = (s.ring r).advance := by
  simp only [writeAnswer, State.ring_setRing, if_true]

/-- Where and how an answer is written does not depend on what the ring holds. -/
theorem writeAnswer_holding (s : State) (r : RingNo) (x : Answer) (st : RingState) (h : List Answer) (w : List Due) :
    writeAnswer r x (s.holding r st h w) = (writeAnswer r x s).holding r st h w := by
  have written : writeAnswer r x (s.holding r st h w) = (writeAnswer r x s).setRing r ((s.ring r).holding st h w).advance := by
    simp only [writeAnswer, State.holding_ring, State.setRing_setRing]
    rw [State.holding, State.writeBytes_setRing, State.setRing_setRing]
    rfl
  rw [written, Ring.advance_holding, ← ring_writeAnswer r x s, State.holding]

theorem foldl_writeAnswer_holding (l : List Answer) (s : State) (r : RingNo) (st : RingState) (h : List Answer) (w : List Due) :
    l.foldl (fun u x => writeAnswer r x u) (s.holding r st h w) = (l.foldl (fun u x => writeAnswer r x u) s).holding r st h w := by
  induction l generalizing s with
  | nil => rfl
  | cons x l ih => rw [List.foldl_cons, List.foldl_cons, writeAnswer_holding, ih]

/-! ### The drain (R184) -/

section
variable {s : State} {r : RingNo} {st : RingState}

theorem drainMove_of_nothing : drainMove r (s.holding r st [] []) = none := by
  simp only [drainMove, State.holding_ring, Ring.holding, drainMove.writeHeld]

theorem drainMove_of_space {h : List Answer} {d : Due} {w : List Due} (unowned : d.owner = .none) (space : h.length < Config.maxHolder) :
    drainMove r (s.holding r st h (d :: w)) = some (s.holding r st (h ++ [d.answer]) w) := by
  simp only [drainMove, State.holding_ring, Ring.holding, if_pos space, unowned, releaseOwner, State.holding_setRing]
  rfl

/-- The oldest answer of the holder is written when no waiting answer can move into the holder. -/
theorem drainMove_of_room {a : Answer} {h : List Answer} {w : List Due} (room : (s.ring r).room = true)
    (settled : w ≠ [] → Config.maxHolder ≤ (a :: h).length) :
    drainMove r (s.holding r st (a :: h) w) = some ((writeAnswer r a s).holding r st h w) := by
  have written : drainMove.writeHeld r (s.holding r st (a :: h) w) ((s.ring r).holding st (a :: h) w) =
      some ((writeAnswer r a s).holding r st h w) := by
    rw [← writeAnswer_holding]
    simp only [drainMove.writeHeld, Ring.holding, State.holding_setRing]
    exact if_pos room
  rw [drainMove, State.holding_ring]
  cases w with
  | nil => exact written
  | cons d w => exact (if_neg (settled (List.cons_ne_nil d w)).not_gt).trans written

/-- With room for all that the ring holds, the moves write it in its order: the holder's answers, then the waiting ones. -/
theorem drainMoves_writes_all {fuel : Nat} {h : List Answer} {w : List Due} (unowned : ∀ d ∈ w, d.owner = .none)
    (takes : (s.ring r).takes (h.length + w.length)) (enough : h.length + 2 * w.length ≤ fuel) :
    drainMoves fuel r (s.holding r st h w) = ((h ++ w.map Due.answer).foldl (fun u x => writeAnswer r x u) s).holding r st [] [] := by
  induction fuel generalizing s h w with
  | zero =>
    obtain rfl : h = [] := List.length_eq_zero_iff.1 (by omega)
    obtain rfl : w = [] := List.length_eq_zero_iff.1 (by omega)
    rfl
  | succ fuel ih =>
    have writes (a : Answer) (hs : List Answer) (first : h = a :: hs) (settled : w ≠ [] → Config.maxHolder ≤ h.length) :
        drainMoves (fuel + 1) r (s.holding r st h w) = ((h ++ w.map Due.answer).foldl (fun u x => writeAnswer r x u) s).holding r st [] [] := by
      subst first
      rw [List.length_cons, Nat.add_right_comm] at takes enough
      have room := (s.ring r).room_iff.2 (by have few := takes.2.2; omega)
      have takesRest := Ring.advance_takes takes
      rw [← ring_writeAnswer r a s] at takesRest
      simp only [drainMoves, drainMove_of_room room settled]
      rw [ih unowned takesRest (by omega), List.cons_append, List.foldl_cons]
    match h, w with
    | [], [] => simp only [drainMoves, drainMove_of_nothing]; rfl
    | a :: hs, [] => exact writes a hs rfl fun no => absurd rfl no
    | h, d :: ws =>
      by_cases space : h.length < Config.maxHolder
      · obtain ⟨first, rest⟩ := List.forall_mem_cons.1 unowned
        simp only [drainMoves, drainMove_of_space first space]
        rw [ih rest (by simpa [add_assoc, add_comm 1] using takes) (by simp at enough ⊢; omega), List.map_cons, List.append_assoc]
        rfl
      · match h with
        | [] => exact absurd Nat.two_pos space
        | a :: hs => exact writes a hs rfl fun _ => not_lt.1 space

/-- A STALLED ring that drains whole becomes ENABLED. -/
theorem drain_of_takes (stalled : (s.ring r).state = .stalled) (unowned : ∀ d ∈ (s.ring r).waiting, d.owner = .none)
    (takes : (s.ring r).takes ((s.ring r).holder.length + (s.ring r).waiting.length)) :
    drain r s = ((s.ring r).holder ++ (s.ring r).waiting.map Due.answer).foldl (fun u x => writeAnswer r x u) (s.holding r .enabled [] []) := by
  have moves := drainMoves_writes_all (st := .stalled) (fuel := 4 * ((s.ring r).holder.length + (s.ring r).waiting.length) + 8) unowned takes (by omega)
  rw [← stalled, s.holding_self r, stalled] at moves
  rw [drain, moves, foldl_writeAnswer_holding, State.holding_ring]
  exact (if_pos ⟨rfl, rfl, rfl⟩).trans (State.holding_setRing ..)
end

section
variable {s : State} {r : RingNo} {n : Nat}

/-- A write of answer consumed in range starts a drain only where it leaves room. -/
theorem exec_answerConsumedWrite_of_stalled (stalled : (s.ring r).state = .stalled) (inRing : n < (s.ring r).setup.ansSize) :
    exec (.answerConsumedWrite r n) s = .next (if ({ s.ring r with consumed := n } : Ring).room = true
      then drain r (s.setRing r { s.ring r with consumed := n }) else s.setRing r { s.ring r with consumed := n }) := by
  change Host.Outcome.next (writeConsumed r n s) = _
  have notDisabled : ¬RingState.stalled = .disabled := by decide
  have notFaulted : RingState.stalled ≠ .faulted := by decide
  simp only [writeConsumed, stalled, if_neg notDisabled, if_pos inRing, State.ring_setRing, if_true, notFaulted, and_true, ne_eq, not_false_eq_true]

/-- The drain as O19 states it, of a ring that holds an answer. -/
theorem exec_answerConsumedWrite_drains (ok : (s.ring r).ok) (stalled : (s.ring r).state = .stalled) (inRing : n < (s.ring r).setup.ansSize)
    (unowned : ∀ d ∈ (s.ring r).waiting, d.owner = .none) (holds : 0 < (s.ring r).holder.length + (s.ring r).waiting.length)
    (few : ((s.ring r).posted + (s.ring r).setup.ansSize - n) % (s.ring r).setup.ansSize + (s.ring r).holder.length + (s.ring r).waiting.length <
      (s.ring r).setup.ansSize) :
    exec (.answerConsumedWrite r n) s = .next (((s.ring r).holder ++ (s.ring r).waiting.map Due.answer).foldl (fun u x => writeAnswer r x u)
      (s.setRing r { s.ring r with consumed := n, state := .enabled, holder := [], waiting := [] })) := by
  obtain ⟨-, -, -, pointers⟩ := ok
  obtain ⟨-, -, -, -, posted⟩ := pointers (by simp [stalled])
  have takes : ({ s.ring r with consumed := n } : Ring).takes ((s.ring r).holder.length + (s.ring r).waiting.length) :=
    ⟨posted, inRing, (Nat.add_assoc ..).symm.trans_lt few⟩
  have room : ({ s.ring r with consumed := n } : Ring).room = true :=
    (Ring.room_iff _).2 ((Nat.add_le_add_left holds _).trans_lt takes.2.2)
  have atRing : (s.setRing r { s.ring r with consumed := n }).ring r = { s.ring r with consumed := n } := by
    rw [State.ring_setRing, if_pos rfl]
  have drained := drain_of_takes (s := s.setRing r { s.ring r with consumed := n }) (r := r)
  simp only [State.holding, atRing, State.setRing_setRing] at drained
  rw [exec_answerConsumedWrite_of_stalled stalled inRing, if_pos room, drained stalled unowned takes]
  rfl
end

/-! ### The statement -/

/-- A STALLED ring of 16 answers, all of its room taken, that holds nothing. -/
def Ring.stalledHoldingNothing : Ring := { Ring.enabledWith ⟨0, 16, 0, 16⟩ with posted := 15, state := .stalled }

theorem Ring.stalledHoldingNothing_ok : Ring.stalledHoldingNothing.ok := ⟨by decide, by decide, by decide, fun _ => by decide⟩

/-- Refutes O19: ring 0 holds nothing and is STALLED with its 15 places unconsumed, and the write of 0 to its answer consumed leaves it without room, so no drain starts and it stays
STALLED, where the statement has it ENABLED. -/
theorem not_ringsAreSetUpDrainedAndDiscarded : ¬ Obligations.RingsAreSetUpDrainedAndDiscarded := by
  unfold Obligations.RingsAreSetUpDrainedAndDiscarded
  rintro ⟨-, drains, -⟩
  have atRing : (State.reset.setRing 0 .stalledHoldingNothing).ring 0 = .stalledHoldingNothing := by rw [State.ring_setRing, if_pos rfl]
  have drained := drains (State.reset.setRing 0 .stalledHoldingNothing) 0 0
  have stays := exec_answerConsumedWrite_of_stalled (s := State.reset.setRing 0 .stalledHoldingNothing) (r := 0) (n := 0)
  simp only [atRing] at drained stays
  have noRoom : ¬({ Ring.stalledHoldingNothing with consumed := 0 } : Ring).room = true := by decide
  rw [if_neg noRoom] at stays
  have same := (stays rfl (by decide)).symm.trans (drained Ring.stalledHoldingNothing_ok rfl (by decide) (by decide) (by decide))
  have states := congrArg (fun t => (t.ring 0).state) (Host.Outcome.next.inj same)
  exact absurd states (by decide)

end Sys2Proof.Machine
end

section
/-! The queue and the state after reset (O1, O3; R22, R46, R70, R93, R109, R134, R157, R173, R189, R200): the laws of the device hold of a part that holds nothing, and an erased store does not verify. -/

namespace Sys2Proof.Machine

/-! ### The queue -/

theorem step_of_cons {s : State} {c : Instr} {rest : List Instr} (h : s.pending = c :: rest) : step s = exec c (s.setPending rest) := by
  simp only [step, h]

theorem step_of_nil {s : State} (h : s.pending = []) : step s = .next s := by
  simp only [step, h]

/-- Settles O1. -/
theorem stepRunsTheFrontCommand : Obligations.StepRunsTheFrontCommand :=
  fun _ => ⟨fun _ _ h => step_of_cons h, step_of_nil⟩

/-! ### An erased store (R195, R200) -/

/-- The CRC register after a list of bytes, evaluated at every byte, so that the kernel holds one number at a time. -/
def crcAfter (r : Nat) : List Byte → Nat
  | [] => r
  | b :: bs => Nat.casesOn (crcByte r b) (crcAfter 0 bs) fun n => crcAfter (n + 1) bs

theorem crcAfter_eq_foldl (bs : List Byte) : ∀ r, crcAfter r bs = bs.foldl crcByte r := by
  induction bs with
  | nil => exact fun _ => rfl
  | cons b bs ih =>
    intro r
    rw [List.foldl_cons, ← ih, crcAfter]
    cases crcByte r b <;> rfl

/-- Pages 0 to 21 of an erased store have the CRC 9DDF. -/
theorem crc16_erased : crc16 (List.replicate 5632 0xFF) = 0x9DDF := by
  rw [crc16, ← crcAfter_eq_foldl]
  decide +kernel

theorem Ps.bytes_erased {x : Ps} (erased : x.pages = []) (idle : x.commit = none) (n a k : Nat) : x.bytes n a k = List.replicate k 0xFF := by
  have byte : ∀ i, x.seen n (a + i) = 0xFF := fun i => by simp only [Ps.seen, idle, Ps.byte, erased, sparseGet]
  simp only [Ps.bytes, byte, List.map_const', List.length_range]

theorem Ps.not_verifies_erased {x : Ps} (erased : x.pages = []) (idle : x.commit = none) (n : Nat) : x.verifies n = false := by
  have stored : ofLe (List.replicate 2 (0xFF : Byte)) = 0xFFFF := by decide
  rw [Ps.verifies, Ps.crc, Ps.storedCrc, bytes_erased erased idle, bytes_erased erased idle, crc16_erased, stored]
  decide

/-! ### A part that holds nothing -/

section
variable (r : RingNo) (v : Vol) (c : Ctx)

@[simp] theorem reset_ring : State.reset.ring r = .off := Vector.getElem_replicate _
@[simp] theorem reset_scanOf : State.reset.scanOf r = none := Vector.getElem_replicate _
@[simp] theorem reset_vol : State.reset.vol v = .undefined := Vector.getElem_replicate _
@[simp] theorem reset_snapVol : State.reset.snapVol v = .empty := Vector.getElem_replicate _
@[simp] theorem reset_replVol : State.reset.replVol v = .empty := Vector.getElem_replicate _
@[simp] theorem reset_restoreCtx : State.reset.restoreCtx c = .free := Vector.getElem_replicate _
@[simp] theorem reset_inCtx : State.reset.inCtx c = .free := Vector.getElem_replicate _
@[simp] theorem reset_faultRec (k : MoverClass) : State.reset.faultRec k = .clear := Vector.getElem_replicate _
@[simp] theorem reset_peer : State.reset.lc.peers[c] = ⟨0, 0, false, false⟩ := Vector.getElem_replicate _
end

@[simp] theorem reset_extents : State.reset.extents = [] := rfl
@[simp] theorem reset_account (i : Nat) : State.reset.account i = .none := rfl
theorem reset_records (v : Vol) : State.reset.records v = [] := rfl

theorem InCtx.free_slot (i : Fin 2) : InCtx.free.slots[i] = .clear := Vector.getElem_replicate _

theorem Ring.off_ok : Ring.off.ok := ⟨Nat.zero_le _, fun _ => rfl, fun _ => ⟨rfl, rfl⟩, fun running => (running rfl).elim⟩

theorem reset_ok : State.reset.ok where
  mem := ⟨rfl, by simp [State.reset]⟩
  riu := ⟨fun r => (congrArg Ring.ok (reset_ring r)).mpr Ring.off_ok, Nat.zero_le _, by simp [State.reset, Riu.start], .nil, by decide, Nat.zero_le _⟩
  etu := Nat.zero_le _
  qu := ⟨rfl, by simp [State.reset], Nat.zero_le _, .nil, by simp [State.reset, sparseGet, Account.none]⟩
  su := fun v => (congrArg (·.release.length) (reset_snapVol v)).trans_le (Nat.zero_le _)
  ru := fun c => (congrArg (·.plan.length) (reset_restoreCtx c)).trans_le (Nat.zero_le _)
  ds := Nat.zero_le _
  dr := fun v => (congrArg (·.pool.length) (reset_replVol v)).trans_le (Nat.zero_le _)
  lc := ⟨Nat.zero_le _, fun _ => ⟨rfl, rfl⟩⟩
  ps := ⟨⟨rfl, by simp [State.reset]⟩, ⟨rfl, by simp [State.reset]⟩, by simp [State.reset]⟩

theorem Ds.start_lawful (p : Nat) (x : Settings) : (Ds.start p x).lawful := by
  simp [Ds.lawful, Ds.start, Ds.atRest]

theorem Ru.start_flightsOk : Ru.start.flightsOk := by
  simp [Ru.flightsOk, RestoreCtx.free, Ru.start]

theorem Dr.start_slotsOk : Dr.start.slotsOk := by
  have ctx : ∀ c : Ctx, Dr.start.ctxs[c] = .free := reset_inCtx
  intro c
  simp only [ctx, InCtx.free_slot]
  simp [InCtx.free, Slot.clear]

theorem reset_units : State.reset.dm.units = [] := rfl

theorem reset_linked : State.reset.linked where
  dues r := by simp [Ring.off]
  flights := Ru.start_flightsOk
  slots := Dr.start_slotsOk
  units := by
    simp only [State.unitsOk, reset_units, reset_inCtx, InCtx.free_slot, reset_restoreCtx]
    simp [RestoreCtx.free, Slot.clear, InCtx.free]
  ship := by simp only [State.shipOk, reset_units]; simp [State.reset, Dm.start]
  sender := Ds.start_lawful 0 .safe

theorem RestoreCtx.free_not_running : RestoreCtx.free.running = false := rfl

theorem reset_snapsLawful : State.reset.snapsLawful where
  volumes v := by simp [volumeOkWith, Volume.undefined, VolumeDef.unused, SnapVol.empty, Volume.isOpen]
  snapshots v := by simp [snapshotsOk, SnapVol.empty, SnapVol.reserved]
  retire v := by simp [retireOk, SnapVol.empty]
  holds := by simp [State.holdsOk, SnapVol.empty, RestoreCtx.free_not_running]; simp [State.reset, Ds.start]
  creates := by simp [State.senderCreateOk, SnapVol.empty]; simp [State.reset, Ds.start]
  inbound := by simp [State.inboundOk, SnapVol.empty, InCtx.free, ReplVol.empty]
  safe _ v := congrArg Volume.state (reset_vol v)

theorem reset_runsOf (v : Vol) : State.reset.runsOf v = [] := by
  simp [State.runsOf, reset_records, State.claimsOf, RestoreCtx.free, SnapVol.empty, ReplVol.outgoing, ReplVol.empty]

theorem reset_blocksLawful : State.reset.blocksLawful where
  order := .nil
  exclusive v := by simp [reset_runsOf, apart]
  restores c := by simp [RestoreCtx.free_not_running]
  flightsApart := by simp [RestoreCtx.free]
  filling := by simp
  gates v := by simp [SnapVol.empty]
  slots c i := by rw [reset_inCtx, InCtx.free_slot]; simp [Slot.lensOk, Slot.clear]
  landing c i := by rw [reset_inCtx, InCtx.free_slot]; simp [Slot.clear]
  marks v := by simp [ReplVol.empty]

theorem reset_epochsLawful : State.reset.epochsLawful where
  records := by simp
  held := by simp
  trims v := by simp [SnapVol.empty]
  marks := by simp
  inbound c := by simp [InCtx.free]
  producers v := by simp [SnapVol.empty]

theorem reset_trimsLawful : State.reset.trimsLawful := by simp [State.trimsLawful, SnapVol.empty]

theorem reset_usageLawful : State.reset.usageLawful where
  usage i := by simp [Account.none]
  records i := by simp [Account.none]
  kinds := by simp
  volumes v := by simp [Volume.undefined, VolumeDef.unused, Account.none]

/-- Settles O3. -/
theorem resetLeavesColdStartValues : Obligations.ResetLeavesColdStartValues := by
  refine ⟨reset_ok, reset_linked, reset_snapsLawful, reset_blocksLawful, reset_epochsLawful, reset_trimsLawful, reset_usageLawful, rfl,
    fun v => ?volumes, rfl, rfl, rfl, fun c => ?contexts, rfl, rfl, rfl, reset_faultRec, rfl, rfl, rfl, rfl, fun v => ?pools, rfl, reset_peer, fun r => ?rings,
    rfl, rfl, rfl, rfl, Ps.not_verifies_erased rfl rfl 0⟩
  case volumes => exact ⟨congrArg Volume.state (reset_vol v), reset_snapVol v⟩
  case contexts => exact ⟨congrArg RestoreCtx.phase (reset_restoreCtx c), congrArg InCtx.state (reset_inCtx c)⟩
  case pools => simp [ReplVol.empty]
  case rings => simp [Ring.off]

end Sys2Proof.Machine
end

section
/-! The usage of the accounts (O12). The statement asks for the laws of the usage, but not for the account table's canonical form, which is one of the accounts' own laws. In a table that lists an
index twice, DROP_ACCOUNT removes the first entry and so uncovers the second, whose usage no record charges. -/

namespace Sys2Proof.Machine

/-- A host account without usage, and the same with a usage of 1 KiB. -/
def Account.user (usage : Nat) : Account := { Account.none with kind := .user, usage := usage }

/-- Account 40 is listed twice, and DROP_ACCOUNT of it waits. -/
def accountListedTwice : State :=
  { State.reset with
    pending := [.dropAccount 0 0 40]
    qu := { State.reset.qu with accounts := [(40, Account.user 0), (40, Account.user 1)] }
    ps := { State.reset.ps with safe := false } }

theorem account_accountListedTwice (i : Nat) : accountListedTwice.account i = if i = 40 then Account.user 0 else .none := by
  simp only [State.account, accountListedTwice, sparseGet]
  split_ifs <;> first | rfl | omega

theorem accountListedTwice_usageLawful : accountListedTwice.usageLawful where
  usage i := by rw [account_accountListedTwice]; split <;> rfl
  records i := by rw [account_accountListedTwice]; split <;> rfl
  kinds e mem := nomatch (show e ∈ [] from mem)
  volumes v := by
    have reserve : reserveIndex v ≠ 40 := by unfold reserveIndex; omega
    have landing : landingIndex v ≠ 40 := by unfold landingIndex; omega
    have vol : accountListedTwice.vol v = .undefined := reset_vol v
    rw [account_accountListedTwice, account_accountListedTwice, if_neg reserve, if_neg landing, vol]
    exact ⟨rfl, rfl⟩

theorem accountListedTwice_linked : accountListedTwice.linked :=
  ⟨reset_linked.dues, reset_linked.flights, reset_linked.slots, reset_linked.units, reset_linked.ship, reset_linked.sender⟩

theorem accountListedTwice_snapsLawful : accountListedTwice.snapsLawful :=
  ⟨reset_snapsLawful.volumes, reset_snapsLawful.snapshots, reset_snapsLawful.retire, reset_snapsLawful.holds, reset_snapsLawful.creates,
    reset_snapsLawful.inbound, fun safe => by simp [accountListedTwice] at safe⟩

theorem accountListedTwice_blocksLawful : accountListedTwice.blocksLawful :=
  ⟨reset_blocksLawful.order, reset_blocksLawful.exclusive, reset_blocksLawful.restores, reset_blocksLawful.flightsApart, reset_blocksLawful.filling,
    reset_blocksLawful.gates, reset_blocksLawful.slots, reset_blocksLawful.landing, reset_blocksLawful.marks⟩

theorem accountListedTwice_epochsLawful : accountListedTwice.epochsLawful :=
  ⟨reset_epochsLawful.records, reset_epochsLawful.held, reset_epochsLawful.trims, reset_epochsLawful.marks, reset_epochsLawful.inbound,
    reset_epochsLawful.producers⟩

/-- DROP_ACCOUNT leaves the second entry of account 40, and no record. -/
theorem step_accountListedTwice : ∃ t, step accountListedTwice = .next t ∧ t.extents = [] ∧ t.account 40 = Account.user 1 :=
  ⟨_, rfl, rfl, rfl⟩

/-- Refutes O12: account 40 is listed twice, which the laws of the usage do not exclude. -/
theorem not_stepKeepsUsageLaws : ¬ Obligations.StepKeepsUsageLaws := by
  unfold Obligations.StepKeepsUsageLaws
  intro keeps
  obtain ⟨t, stepped, empty, account⟩ := step_accountListedTwice
  have lawful := keeps accountListedTwice t reset_ok.riu accountListedTwice_linked accountListedTwice_snapsLawful accountListedTwice_blocksLawful
    accountListedTwice_epochsLawful accountListedTwice_usageLawful stepped
  have usage := lawful.usage 40
  rw [empty, account] at usage
  exact Nat.one_ne_zero usage

end Sys2Proof.Machine
end

section
/-! Predicates that the operations of the model keep. `Kept R P` asks that `P` is kept by the updates of one block at a time, where the new block may be taken to keep the block's own laws if the old
one does, and where a change of the policy store is one of `R`. `Quiet R O P` asks less of `P`: that it is kept by the updates that leave alone what the laws of the epochs and marks speak of, and by the
operations on snapshots and inbound runs that always keep those laws. Each operation of the model is such updates one after another: one lemma for each, in the model's order, and then one for every
command. -/

namespace Sys2Proof.Machine

/-! ### What a quiet update leaves alone -/

/-- What a retire queue and the records of a volume have to do with a snapshot. -/
def Snapshot.standing (z : Snapshot) : Nat × Bool := (z.epoch, z.active)

/-- A volume's record keeps its definition and its epochs, and stays as it is or open. -/
structure Volume.calm (x y : Volume) : Prop where
  defn : y.defn = x.defn
  epoch : y.epoch = x.epoch
  seen : y.seen = x.seen
  state : y.state = x.state ∨ (x.isOpen ∧ y.isOpen)

/-- A volume keeps the epochs of its snapshots and of its retire queue, its trim scan and its waiting producers, and no create joins its gate. -/
structure SnapVol.calm (x y : SnapVol) : Prop where
  snaps : y.snaps.map Snapshot.standing = x.snaps.map Snapshot.standing
  retire : y.retire.map RetireEntry.epoch = x.retire.map RetireEntry.epoch
  trim : y.trim = x.trim
  producers : y.producers = x.producers
  gate : x.gate = [] → y.gate = []

/-- A restore context has no records made that it had not before. -/
def RestoreCtx.calm (x y : RestoreCtx) : Prop := ∀ f ∈ y.flight, f.created = true → y.volume = x.volume ∧ f ∈ x.flight

/-- An inbound context keeps its run and its walk, and its slots go on holding entries born by its target. -/
structure InCtx.calm (x y : InCtx) : Prop where
  state : y.state = x.state
  volume : y.volume = x.volume
  runId : y.runId = x.runId
  target : y.target = x.target
  cursor : y.cursor = x.cursor
  walkDone : y.walkDone = x.walkDone
  births : (∀ i : Fin 2, x.slots[i].birthsOk x.target) → ∀ i : Fin 2, y.slots[i].birthsOk y.target

/-- An OPEN context as its run aborts (R152). -/
def InCtx.aborted (x : InCtx) (reason : Nat) : InCtx :=
  { x with state := .aborting, reason := some reason, slots := Vector.replicate 2 .clear, reply := none, idle := none, cursor := 0, walkDone := false }

/-- An OPEN context as its run commits (R150). -/
def InCtx.committed (x : InCtx) : InCtx := { x with state := .committing, idle := none, cursor := 0, walkDone := false }

/-- The records that a landing makes. -/
def State.landingRecords (c : Ctx) (i : Fin 2) (s : State) : List Extent := ((s.inCtx c).slots[i]).records (s.inCtx c).volume (s.inCtx c).runId

/-! ### The updates of the blocks -/

/-- `P` is kept by the quiet updates. `O` stands for what a volume must be for a snapshot to be made on it; an open volume is so. -/
structure Quiet (R : Ps → Ps → Prop) (O : State → Vol → Prop) (P : State → Prop) : Prop where
  opened : ∀ {s : State} {v : Vol}, (s.vol v).isOpen → O s v
  setMem : ∀ {s : State} {m : List Host.Cell}, (memOk s.mem → memOk m) → P s → P (s.setMem m)
  setFree : ∀ {s : State} {n : Nat}, P s → P (s.setFree n)
  setRiu : ∀ {s : State} {x : Riu}, (s.riu.ok → x.ok) → P s → P (s.setRiu x)
  setQu : ∀ {s : State} {x : Qu}, P s → P (s.setQu x)
  setDm : ∀ {s : State} {x : Dm}, P s → P (s.setDm x)
  setDs : ∀ {s : State} {x : Ds}, (s.ds.ok → x.ok) → P s → P (s.setDs x)
  setLc : ∀ {s : State} {x : Lc}, (s.lc.ok → x.ok) → P s → P (s.setLc x)
  setPs : ∀ {s : State} {x : Ps}, R s.ps x → P s → P (s.setPs x)
  calmVol : ∀ {s : State} {v : Vol} {x : Volume}, (s.vol v).calm x → P s → P (s.setVol v x)
  calmSnapVol : ∀ {s : State} {v : Vol} {x : SnapVol}, (s.snapVol v).calm x →
    ((s.snapVol v).release.length ≤ Config.maxRelease → x.release.length ≤ Config.maxRelease) → P s → P (s.setSnapVol v x)
  calmRestoreCtx : ∀ {s : State} {c : Ctx} {x : RestoreCtx}, (s.restoreCtx c).calm x →
    ((s.restoreCtx c).plan.length ≤ Config.maxPlan → x.plan.length ≤ Config.maxPlan) → P s → P (s.setRestoreCtx c x)
  setGateOrder : ∀ {s : State} {l : List Ctx}, P s → P (s.setRu { s.ru with gateOrder := l })
  calmInCtx : ∀ {s : State} {c : Ctx} {x : InCtx}, (s.inCtx c).calm x → P s → P (s.setInCtx c x)
  calmReplVol : ∀ {s : State} {v : Vol} {x : ReplVol}, x.reset = (s.replVol v).reset →
    ((s.replVol v).pool.length ≤ Config.maxPool → x.pool.length ≤ Config.maxPool) → P s → P (s.setReplVol v x)
  fill : ∀ {s : State} {v : Vol} {n : Nat}, P s → P (s.updateExtent v n fun e => { e with filling := false })
  unmake : ∀ {s : State} {c : Ctx} {f : Flight} {g : Run}, f ∈ (s.restoreCtx c).flight → f.created = true → g ∈ f.segs → P s →
    P (s.removeExtent (s.restoreCtx c).volume g.first)
  retireSnapshot : ∀ {s : State} {v : Vol} {n : Nat} {o : RetireOrigin}, (∃ z ∈ (s.snapVol v).snaps, z.epoch = n) → P s → P (Machine.retireSnapshot v n o s)
  addSnapshot : ∀ {s : State} {v : Vol} {l : Nat} {b : Bool}, O s v → P s →
    P ((s.setSnapVol v { s.snapVol v with snaps := (s.snapVol v).snaps ++ [⟨(s.vol v).epoch.getD 0, l, s.qu.clock, true, false, b, 0⟩] }).setVol v
      { s.vol v with epoch := some ((s.vol v).epoch.getD 0 + 1) })
  joinGate : ∀ {s : State} {v : Vol} {g : GateCreate}, O s v → P s → P (Machine.joinGate v g s)
  abortRun : ∀ {s : State} {c : Ctx} {n : Nat}, (s.inCtx c).state = .open → P s → P (s.setInCtx c ((s.inCtx c).aborted n))
  commitRun : ∀ {s : State} {c : Ctx}, (s.inCtx c).state = .open → P s → P (s.setInCtx c (s.inCtx c).committed)
  rolledBack : ∀ {s : State} {c : Ctx}, (s.inCtx c).state = .aborting → (s.inCtx c).walkDone = true → P s → P (s.setInCtx c .free)
  land : ∀ {s : State} {c : Ctx} {i : Fin 2}, (s.inCtx c).state = .open → s.extents.length + (s.landingRecords c i).length ≤ Config.maxExtents → P s →
    P ((s.landingRecords c i).foldl (fun t e => t.addExtent e) s)
  delete : ∀ {s : State} {c : Ctx} {ds : List Run}, (s.inCtx c).state = .open →
    (applyDeletions (s.inCtx c).volume (s.inCtx c).runId ds s.extents).length ≤ Config.maxExtents → P s →
    P (s.setExtents (applyDeletions (s.inCtx c).volume (s.inCtx c).runId ds s.extents))

/-- `P` is moreover such that a snapshot may be made where a create waits, and stays so through the quiet updates. -/
structure Steady (R : Ps → Ps → Prop) (O : State → Vol → Prop) (P : State → Prop) : Prop extends Quiet R O P where
  gates : ∀ {s : State} {v : Vol}, P s → (s.snapVol v).gate ≠ [] → O s v
  stays : ∀ v : Vol, Quiet R O fun t => O t v

/-- `P` is kept by every update of a block. -/
structure Kept (R : Ps → Ps → Prop) (P : State → Prop) : Prop extends Steady R (fun _ _ => True) P where
  setEtu : ∀ {s : State} {x : Etu}, (s.etu.ok → x.ok) → P s → P (s.setEtu x)
  setSu : ∀ {s : State} {x : Su}, (s.su.ok → x.ok) → P s → P (s.setSu x)
  setRu : ∀ {s : State} {x : Ru}, (s.ru.ok → x.ok) → P s → P (s.setRu x)
  setDr : ∀ {s : State} {x : Dr}, (s.dr.ok → x.ok) → P s → P (s.setDr x)

/-! ### The laws of one entry of a block -/

theorem Riu.ok_set {u : Riu} {r : RingNo} {x : Ring} (h : u.rings[r].ok → x.ok) (ok : u.ok) : Riu.ok { u with rings := u.rings.set r x } := by
  obtain ⟨rings, rest⟩ := ok
  refine ⟨fun q => ?_, rest⟩
  have at_q := rings q
  simp only [Fin.getElem_fin, Vector.getElem_set] at at_q ⊢
  split
  · exact h (rings r)
  · exact at_q

theorem Su.ok_set {u : Su} {v : Vol} {x : SnapVol} (h : u.vols[v].release.length ≤ Config.maxRelease → x.release.length ≤ Config.maxRelease)
    (ok : u.ok) : Su.ok { u with vols := u.vols.set v x } := by
  intro w
  have at_w := ok w
  simp only [Fin.getElem_fin, Vector.getElem_set] at at_w ⊢
  split
  · exact h (ok v)
  · exact at_w

theorem Ru.ok_set {u : Ru} {c : Ctx} {x : RestoreCtx} (h : u.ctxs[c].plan.length ≤ Config.maxPlan → x.plan.length ≤ Config.maxPlan)
    (ok : u.ok) : Ru.ok { u with ctxs := u.ctxs.set c x } := by
  intro d
  have at_d := ok d
  simp only [Fin.getElem_fin, Vector.getElem_set] at at_d ⊢
  split
  · exact h (ok c)
  · exact at_d

theorem Dr.ok_set {u : Dr} {v : Vol} {x : ReplVol} (h : u.vols[v].pool.length ≤ Config.maxPool → x.pool.length ≤ Config.maxPool)
    (ok : u.ok) : Dr.ok { u with vols := u.vols.set v x } := by
  intro w
  have at_w := ok w
  simp only [Fin.getElem_fin, Vector.getElem_set] at at_w ⊢
  split
  · exact h (ok v)
  · exact at_w

theorem Ring.ok_of_running {g : Ring} (ok : g.ok) (running : g.state ≠ .disabled) :
    g.setup.ok = true ∧ g.tail < g.setup.reqSize ∧ g.head < g.setup.reqSize ∧ g.consumed < g.setup.ansSize ∧ g.posted < g.setup.ansSize :=
  ok.2.2.2 running

theorem Ring.ok_advance {g : Ring} (ok : g.ok) : g.advance.ok := by
  obtain ⟨holder, enabled, quiet, pointers⟩ := ok
  unfold Ring.advance
  split
  case isTrue inside =>
    refine ⟨holder, enabled, quiet, fun running => ?_⟩
    obtain ⟨setup, tail, head, consumed, -⟩ := pointers running
    exact ⟨setup, tail, head, consumed, inside⟩
  case isFalse =>
    refine ⟨holder, enabled, quiet, fun running => ?_⟩
    obtain ⟨setup, tail, head, consumed, -⟩ := pointers running
    exact ⟨setup, tail, head, consumed, consumed.pos⟩

theorem Ring.ok_taken {g : Ring} (ok : g.ok) : g.taken.ok := by
  obtain ⟨holder, enabled, quiet, pointers⟩ := ok
  refine ⟨holder, enabled, quiet, fun running => ?_⟩
  obtain ⟨setup, tail, head, consumed, posted⟩ := pointers running
  refine ⟨setup, tail, ?_, consumed, posted⟩
  change (if _ then _ else _) < _
  split
  case isTrue inside => exact inside
  case isFalse => exact head.pos

/-- A running ring's holder may change, to at most two answers. -/
theorem Ring.ok_holder {g : Ring} {l : List Answer} (running : g.state = .enabled ∨ g.state = .stalled) (few : l.length ≤ Config.maxHolder)
    (ok : g.ok) : Ring.ok { g with holder := l } := by
  obtain ⟨-, enabled, -, pointers⟩ := ok
  exact ⟨few, enabled, fun quiet => by rcases running with h | h <;> simp [h] at quiet, pointers⟩

/-- A running ring that is STALLED may have any answers waiting. -/
theorem Ring.ok_waiting {g : Ring} {l : List Due} {seen : Bool} (running : g.state ≠ .disabled) (ok : g.ok) :
    Ring.ok { g with waiting := l, state := .stalled, stallSeen := seen } := by
  obtain ⟨holder, -, -, pointers⟩ := ok
  exact ⟨holder, by simp, by simp, fun _ => pointers running⟩

/-- A ring that holds nothing may be DISABLED, or FAULTED when it was running. -/
theorem Ring.ok_quiet {g : Ring} {st : RingState} {cause : RingCause} (quiet : st = .disabled ∨ g.state ≠ .disabled) (ok : g.ok) :
    Ring.ok { g with state := st, cause := cause, holder := [], waiting := [] } := by
  obtain ⟨-, -, -, pointers⟩ := ok
  refine ⟨Nat.zero_le _, fun _ => rfl, fun _ => ⟨rfl, rfl⟩, fun running => ?_⟩
  rcases quiet with h | h
  · exact (running h).elim
  · exact pointers h

theorem Ring.ok_enabledWith {x : RingSetup} (ok : x.ok = true) : (Ring.enabledWith x).ok := by
  have sizes : 0 < x.reqSize ∧ 0 < x.ansSize := by
    simp only [RingSetup.ok, Bool.and_eq_true, sizeOk_iff] at ok
    obtain ⟨⟨⟨⟨i, -, -, req⟩, ⟨j, -, -, ans⟩⟩, -⟩, -⟩ := ok
    exact ⟨req ▸ Nat.two_pow_pos i, ans ▸ Nat.two_pow_pos j⟩
  refine ⟨Nat.zero_le _, fun _ => rfl, fun _ => ⟨rfl, rfl⟩, fun _ => ⟨ok, sizes.1, sizes.1, sizes.2, sizes.2⟩⟩

/-! ### The notices -/

theorem Notice.not_same_of_not_isOf {n m : Notice} {k : NoticeKind} {b c : Nat} (h : n.isOf k b c = false) (hm : m.kind = k ∧ m.b = b ∧ m.c = c) :
    ¬n.same m := by
  obtain ⟨rfl, rfl, rfl⟩ := hm
  intro same
  rw [(Notice.isOf_iff ..).2 same] at h
  exact Bool.noConfusion h

theorem raise_keeps_riuOk (k : NoticeKind) (b c : Nat) {s : State} (ok : s.riu.ok) : (raise k b c s).riu.ok := by
  obtain ⟨rings, few, counts, distinct, overflow, lost⟩ := ok
  unfold raise
  split
  case isTrue present =>
    refine ⟨rings, (List.length_map _).trans_le few, ?_, ?_, overflow, lost⟩
    · simp only [State.setRiu_riu, List.forall_mem_map]
      intro n mem
      split
      · have := counts n mem; dsimp only; omega
      · exact counts n mem
    · refine List.pairwise_map.2 (distinct.imp fun {n m} differ same => differ ?_)
      revert same
      split <;> split <;> exact id
  case isFalse absent =>
    split
    case isTrue room =>
      refine ⟨rings, List.length_append.trans_le room, ?_, ?_, overflow, lost⟩
      · intro n mem
        rcases List.mem_append.1 mem with mem | mem
        · exact counts n mem
        · rw [List.mem_singleton.1 mem]; exact ⟨Nat.le_refl 1, Nat.le_of_ble_eq_true rfl⟩
      · refine List.pairwise_append.2 ⟨distinct, List.pairwise_singleton .., fun n mem m new => ?_⟩
        refine Notice.not_same_of_not_isOf (k := k) (b := b) (c := c) ?_ (List.mem_singleton.1 new ▸ ⟨rfl, rfl, rfl⟩)
        rw [Bool.eq_false_iff]
        exact fun isOf => absent (List.any_eq_true.2 ⟨n, mem, isOf⟩)
    case isFalse =>
      refine ⟨rings, few, counts, distinct, ?_, Nat.min_le_right ..⟩
      simp [Config.max32]

/-! ### The extent table -/

theorem length_insertExtent (e : Extent) (l : List Extent) : (insertExtent e l).length = l.length + 1 := by
  induction l with
  | nil => rfl
  | cons x xs ih => unfold insertExtent; split <;> simp [ih]

theorem length_addExtents (es : List Extent) : ∀ s : State, (es.foldl (fun t e => t.addExtent e) s).extents.length = s.extents.length + es.length := by
  induction es with
  | nil => exact fun _ => rfl
  | cons e es ih =>
    intro s
    have one : (s.addExtent e).extents.length = s.extents.length + 1 := length_insertExtent ..
    rw [List.foldl_cons, ih, one, List.length_cons]
    omega

/-- Adding records changes the extent table alone. -/
theorem setEtu_addExtents (es : List Extent) (s : State) :
    s.setEtu (es.foldl (fun t e => t.addExtent e) s).etu = es.foldl (fun t e => t.addExtent e) s :=
  List.foldlRecOn (motive := fun t : State => s.setEtu t.etu = t) es _ rfl fun _ same e _ => congrArg (fun u : State => u.addExtent e) same

/-! ### Checks -/

theorem firstFailure_eq_none {l : List (Bool × Status)} : firstFailure l = none ↔ ∀ x ∈ l, x.1 = false := by
  induction l with
  | nil => simp
  | cons x l ih => obtain ⟨b, st⟩ := x; cases b <;> simp [ih]

/-! ### Predicates of whole blocks -/

theorem quiet_true (R : Ps → Ps → Prop) : Quiet R (fun _ _ => True) fun _ => True := by constructor <;> intros <;> trivial

/-- It is enough that `P` is kept by the updates of one block at a time. -/
theorem Kept.of {R : Ps → Ps → Prop} {P : State → Prop}
    (setMem : ∀ {s : State} {m : List Host.Cell}, (memOk s.mem → memOk m) → P s → P (s.setMem m))
    (setFree : ∀ {s : State} {n : Nat}, P s → P (s.setFree n))
    (setRiu : ∀ {s : State} {x : Riu}, (s.riu.ok → x.ok) → P s → P (s.setRiu x))
    (setEtu : ∀ {s : State} {x : Etu}, (s.etu.ok → x.ok) → P s → P (s.setEtu x))
    (setQu : ∀ {s : State} {x : Qu}, P s → P (s.setQu x))
    (setSu : ∀ {s : State} {x : Su}, (s.su.ok → x.ok) → P s → P (s.setSu x))
    (setRu : ∀ {s : State} {x : Ru}, (s.ru.ok → x.ok) → P s → P (s.setRu x))
    (setDm : ∀ {s : State} {x : Dm}, P s → P (s.setDm x))
    (setDs : ∀ {s : State} {x : Ds}, (s.ds.ok → x.ok) → P s → P (s.setDs x))
    (setDr : ∀ {s : State} {x : Dr}, (s.dr.ok → x.ok) → P s → P (s.setDr x))
    (setLc : ∀ {s : State} {x : Lc}, (s.lc.ok → x.ok) → P s → P (s.setLc x))
    (setPs : ∀ {s : State} {x : Ps}, R s.ps x → P s → P (s.setPs x)) : Kept R P where
  opened _ := trivial
  setMem := setMem
  setFree := setFree
  setRiu := setRiu
  setQu := setQu
  setDm := setDm
  setDs := setDs
  setLc := setLc
  setPs := setPs
  calmVol _ := setEtu id
  calmSnapVol _ few := setSu (Su.ok_set few)
  calmRestoreCtx _ few := setRu (Ru.ok_set few)
  setGateOrder := setRu id
  calmInCtx _ := setDr id
  calmReplVol _ few := setDr (Dr.ok_set few)
  fill := setEtu (List.length_map _).trans_le
  unmake _ _ _ := setEtu (List.length_filter_le ..).trans
  retireSnapshot _ p := setSu (Su.ok_set id) (setSu (Su.ok_set id) p)
  addSnapshot _ p := setEtu id (setSu (Su.ok_set id) p)
  joinGate _ := setSu (Su.ok_set id)
  abortRun _ := setDr id
  commitRun _ := setDr id
  rolledBack _ _ := setDr id
  land _ room p := setEtu_addExtents .. ▸ setEtu (fun _ => (length_addExtents ..).trans_le room) p
  delete _ room := setEtu fun _ => room
  gates _ _ := trivial
  stays _ := quiet_true R
  setEtu := setEtu
  setSu := setSu
  setRu := setRu
  setDr := setDr

end Sys2Proof.Machine
end

section
/-! What keeps a predicate of `Quiet` or `Kept`: rings and answers, notices, the extent table, accounts, snapshots, the release list, and the requests on accounts, extents and volumes. -/

namespace Sys2Proof.Machine

theorem onOwnerGroup_keeps {P : State → Prop} {f : Nat → State → State} {o : Nat} {g : Option Nat} {s : State} (keeps : ∀ i {t : State}, P t → P (f i t))
    (p : P s) : P (onOwnerGroup f o g s) := by
  unfold onOwnerGroup
  split
  · exact keeps _ (keeps _ p)
  · exact keeps _ p

theorem onLiveAccounts_keeps {P : State → Prop} {f : Nat → State → State} {e : Extent} {s : State} (keeps : ∀ i {t : State}, P t → P (f i t))
    (p : P s) : P (onLiveAccounts f e s) := by
  unfold onLiveAccounts
  split
  · exact keeps _ p
  · exact onOwnerGroup_keeps keeps p

theorem isOpen_of_openOnly {s : State} {v : Vol} (passed : firstFailure (s.openOnly v) = none) : (s.vol v).isOpen := by
  have undefined := firstFailure_eq_none.1 passed (decide ((s.vol v).state = .undefined), .noVolume) (by simp [State.openOnly])
  have defined := firstFailure_eq_none.1 passed (decide ((s.vol v).state = .defined), .volumeState) (by simp [State.openOnly])
  unfold Volume.isOpen
  cases state : (s.vol v).state <;> simp_all

section
variable {R : Ps → Ps → Prop} {O : State → Vol → Prop} {P : State → Prop} (h : Quiet R O P) {s : State}
include h

namespace Quiet

/-! ### Entries of the blocks -/

theorem writeBytes {a : Nat} {bs : List Byte} (p : P s) : P (s.writeBytes a bs) := h.setMem (memOk_write s.mem a bs) p
theorem setRing {r : RingNo} {x : Ring} (ok : (s.ring r).ok → x.ok) (p : P s) : P (s.setRing r x) := h.setRiu (Riu.ok_set ok) p
theorem setScan {r : RingNo} {x : Option Scan} (p : P s) : P (s.setScan r x) := h.setRiu id p
theorem setAccount {i : Nat} {a : Account} (p : P s) : P (s.setAccount i a) := h.setQu p
theorem putUser {i : Nat} {a : Account} (p : P s) : P (s.putUser i a) := h.setQu (h.setQu p)
theorem setFaultRec {k : MoverClass} {x : FaultRec} (p : P s) : P (s.setFaultRec k x) := h.setDm p

/-! ### Answers -/

theorem writeAnswer {r : RingNo} {x : Answer} (p : P s) : P (writeAnswer r x s) := by
  unfold Machine.writeAnswer State.writeBytes
  refine h.setRing (fun ok => ?_) (h.setMem (memOk_write _ _ _) p)
  rw [State.setMem_ring] at ok
  exact Ring.ok_advance ok

theorem answerDue {r : RingNo} {x : Answer} {o : AnswerOwner} (p : P s) : P (answerDue r x o s).1 := by
  unfold Machine.answerDue
  dsimp only
  split
  case h_1 => exact p
  case h_2 => exact p
  case h_3 stalled =>
    split
    case isTrue space =>
      rw [Bool.and_eq_true, decide_eq_true_iff] at space
      exact h.setRing (Ring.ok_holder (.inr stalled) (List.length_append.trans_le space.2)) p
    case isFalse =>
      have waits := Ring.ok_waiting (g := s.ring r) (l := (s.ring r).waiting ++ [⟨x, o⟩]) (seen := (s.ring r).stallSeen) (by simp [stalled])
      simp only [← stalled] at waits
      exact h.setRing waits p
  case h_4 enabled =>
    split
    · exact h.writeAnswer p
    · split
      case isTrue space => exact h.setRing (Ring.ok_holder (.inl enabled) (List.length_append.trans_le space)) p
      case isFalse => exact h.setRing (Ring.ok_waiting (by simp [enabled])) p

theorem answer {r : RingNo} {x : Answer} (p : P s) : P (answer r x s) := h.answerDue p

theorem answerIf {d : Option (RingNo × Nat)} {f : Nat → Answer} (p : P s) : P (answerIf d f s) := by
  unfold Machine.answerIf
  split
  · exact h.answer p
  · exact p

theorem reply {r : RingNo} {tag : Nat} {q : Request} {st : Status} {a b c : Nat} (p : P s) : P (reply r tag q st a b c s) := h.answer p
theorem refuse {r : RingNo} {tag : Nat} {q : Request} {st : Status} (p : P s) : P (refuse r tag q st s) := h.answer p

/-! ### Flags -/

theorem raise {k : NoticeKind} {b c : Nat} (p : P s) : P (raise k b c s) := by
  have ok := raise_keeps_riuOk k b c (s := s)
  have same : Machine.raise k b c s = s.setRiu (Machine.raise k b c s).riu := by unfold Machine.raise; split_ifs <;> rfl
  rw [same]
  exact h.setRiu ok p

theorem recordRingFault {a : Nat} (p : P s) : P (recordRingFault a s) := h.raise (h.setFaultRec p)
theorem setFrameError {i : Ctx} (p : P s) : P (setFrameError i s) := h.setLc id p

/-! ### Accounts -/

theorem raiseAll {ks : List NoticeKind} {i : Nat} (p : P s) : P (raiseAll ks i s) := List.foldlRecOn ks _ p fun _ p _ _ => h.raise p

/-! ### Snapshots and auto-trim -/

theorem updateSnap {v : Vol} {n : Nat} {f : Snapshot → Snapshot} (same : ∀ z, (f z).standing = z.standing) (p : P s) : P (s.updateSnap v n f) := by
  refine h.calmSnapVol ⟨?_, rfl, rfl, rfl, id⟩ id p
  rw [List.map_map]
  refine List.map_congr_left fun z _ => ?_
  rw [Function.comp_apply]
  split
  · exact same z
  · rfl

theorem setAuto {v : Vol} {t : AutoTrim} (p : P s) : P (s.setAuto v t) := h.calmSnapVol ⟨rfl, rfl, rfl, rfl, id⟩ id p

theorem autoTrimStep {v : Vol} (p : P s) : P (autoTrimStep v s) := by
  unfold Machine.autoTrimStep
  split
  · split
    · next x found => exact h.setAuto (h.retireSnapshot ⟨x, List.mem_of_find?_eq_some found, rfl⟩ p)
    · exact h.setAuto p
  · exact h.setAuto p

theorem autoTrimStart {v : Vol} (p : P s) : P (autoTrimStart v s) := by
  unfold Machine.autoTrimStart
  split
  · exact p
  · exact h.autoTrimStep p

theorem autoTrimAgain {v : Vol} (p : P s) : P (autoTrimAgain v s) := by
  unfold Machine.autoTrimAgain
  split
  · exact h.autoTrimStep p
  · exact p

theorem placeRestoreHold {v : Vol} {n : Nat} (p : P s) : P (placeRestoreHold v n s) := h.updateSnap (fun _ => rfl) p

theorem leftUnheld {v : Vol} {n : Nat} (p : P s) : P (leftUnheld v n s) := by
  unfold Machine.leftUnheld
  split
  · split
    · exact h.autoTrimAgain p
    · exact p
  · exact p

theorem releaseRestoreHold {v : Vol} {n : Nat} (p : P s) : P (releaseRestoreHold v n s) := h.leftUnheld (h.updateSnap (fun _ => rfl) p)
theorem placeTarget {v : Vol} {n : Nat} (p : P s) : P (placeTarget v n s) := h.updateSnap (fun _ => rfl) p

theorem releaseTarget {v : Vol} (p : P s) : P (releaseTarget v s) := by
  unfold Machine.releaseTarget
  split
  · exact h.leftUnheld (h.updateSnap (fun _ => rfl) p)
  · exact p

theorem moveBase {v : Vol} {n : Nat} (p : P s) : P (moveBase v n s) := by
  unfold Machine.moveBase
  split
  · exact p
  · next x _ =>
    split
    · exact p
    · dsimp only
      have based : P ((s.setSnapVol v { s.snapVol v with snaps := (s.snapVol v).snaps.map fun z => { z with replBase := decide (z.epoch = n) } }).setVol v
          { s.vol v with baseLabel := some x.label }) := by
        refine h.calmVol ⟨rfl, rfl, rfl, .inl rfl⟩ (h.calmSnapVol ⟨?_, rfl, rfl, rfl, id⟩ id p)
        exact List.map_map
      split
      · exact h.leftUnheld based
      · exact based

theorem makeSnapshot {v : Vol} {l : Nat} {b : Bool} (o : O s v) (p : P s) : P (makeSnapshot v l b s) := h.autoTrimAgain (h.addSnapshot o p)

/-! ### The release list -/

theorem releaseAppend {v : Vol} {r : Run} {t : State} (e : releaseAppend v r s = some t) (p : P s) : P t := by
  unfold Machine.releaseAppend at e
  dsimp only at e
  split at e
  case isTrue merges =>
    obtain rfl := Option.some.inj e
    refine h.calmSnapVol ⟨rfl, rfl, rfl, rfl, id⟩ (fun few => ?_) p
    cases last : (s.snapVol v).release.getLast? with
    | none => simp only [SnapVol.merges, last, Bool.false_eq_true] at merges
    | some n =>
      have full : (s.snapVol v).release ≠ [] := fun empty => by simp [empty] at last
      have := List.length_pos_iff.2 full
      simp only [List.length_append, List.length_dropLast, List.length_singleton]
      omega
  case isFalse =>
    split at e
    case isTrue room =>
      obtain rfl := Option.some.inj e
      have added := h.calmSnapVol (v := v) (x := { s.snapVol v with release := (s.snapVol v).release ++ [r] }) ⟨rfl, rfl, rfl, rfl, id⟩
        (fun _ => List.length_append.trans_le room) p
      split
      · exact h.raise added
      · exact added
    case isFalse => exact nomatch e

/-! ### Charges -/

theorem rerate {i old : Nat} (p : P s) : P (rerate i old s) := by
  unfold Machine.rerate
  dsimp only
  split
  case h_1 => exact p
  case h_2 => exact h.raiseAll (h.putUser p)
  case h_3 => exact h.raiseAll (h.putUser p)
  case h_4 => exact h.raiseAll (h.setAccount p)
  case h_5 =>
    split
    · exact h.autoTrimAgain (h.setAccount p)
    · split
      · exact h.autoTrimStart (h.raise (h.setAccount p))
      · exact h.raise (h.setAccount p)
    · exact h.setAccount p

theorem chargeAccount {i c n : Nat} (p : P s) : P (chargeAccount i c n s) := by
  unfold Machine.chargeAccount
  dsimp only
  split
  · exact p
  · exact h.rerate (h.setAccount p)

theorem refundAccount {i c n : Nat} (p : P s) : P (refundAccount i c n s) := by
  unfold Machine.refundAccount
  dsimp only
  split
  · exact p
  · exact h.rerate (h.setAccount p)

theorem countRecords {i n : Nat} (p : P s) : P (countRecords i n s) := by
  unfold Machine.countRecords
  dsimp only
  split
  · exact p
  · exact h.setAccount p

theorem refundLive {e : Extent} (p : P s) : P (refundLive e s) := onLiveAccounts_keeps (fun _ => h.refundAccount) p

theorem holdRecord {e : Extent} {d : Nat} (p : P (s.updateExtent e.volume e.first fun x => { x with death := some d })) : P (holdRecord e d s) :=
  h.chargeAccount (h.refundLive p)

theorem removeLive {e : Extent} (p : P (s.removeExtent e.volume e.first)) : P (removeLive e s) := h.refundLive p

/-! ### The gates of a request -/

theorem gated {r : RingNo} {tag : Nat} {q : Request} {ok : Bool} {act : State → State} (keeps : ok = true → P (act s)) (p : P s) : P (gated r tag q ok act s) := by
  unfold Machine.gated State.gateRefusal
  cases ok
  · exact h.refuse p
  · split
    · exact h.refuse p
    · exact keeps rfl

theorem checked {r : RingNo} {tag : Nat} {q : Request} {c : Option Status} {act : State → State} (keeps : c = none → P (act s)) (p : P s) :
    P (checked r tag q c act s) := by
  unfold Machine.checked
  split
  · exact h.refuse p
  · exact keeps rfl

/-! ### Accounts and the clock -/

theorem reexamine (p : P s) : P (reexamine s) := h.setDs id p

theorem expireHead (p : P s) : P (expireHead s) := by
  unfold Machine.expireHead
  split
  · exact p
  · exact h.raise (h.putUser p)

theorem expireDue {n : Nat} : ∀ {s : State}, P s → P (expireDue n s).1 := by
  induction n with
  | zero => exact id
  | succ n ih =>
    intro s p
    unfold Machine.expireDue
    split
    · exact ih (h.expireHead p)
    · exact p

theorem reqSetLimit {r : RingNo} {tag : Nat} {x : SetLimitParams} (p : P s) : P (reqSetLimit r tag x s) := by
  unfold Machine.reqSetLimit
  dsimp only
  refine h.gated (fun _ => ?_) p
  split
  · exact h.refuse p
  · exact h.reply (h.rerate (h.setAccount p))

theorem loadAccountAccept {x : LoadAccountParams} {k : AccountKind} (p : P s) : P (loadAccountAccept x k s) := by
  unfold Machine.loadAccountAccept
  dsimp only
  split
  · exact h.putUser (h.rerate (h.setAccount p))
  · exact h.rerate (h.setAccount p)

theorem reqLoadAccount {r : RingNo} {tag : Nat} {x : LoadAccountParams} (p : P s) : P (reqLoadAccount r tag x s) := by
  unfold Machine.reqLoadAccount
  dsimp only
  refine h.gated (fun _ => ?_) p
  split
  · exact h.refuse p
  · split
    · exact h.refuse p
    · exact h.reply (h.loadAccountAccept p)

theorem reqDropAccount {r : RingNo} {tag n : Nat} (p : P s) : P (reqDropAccount r tag n s) := by
  unfold Machine.reqDropAccount
  dsimp only
  refine h.gated (fun _ => ?_) p
  split
  · exact h.refuse p
  · exact h.reply (h.putUser p)

theorem reqQueryAccount {r : RingNo} {tag : Nat} {x : QueryAccountParams} (p : P s) : P (reqQueryAccount r tag x s) := by
  unfold Machine.reqQueryAccount
  dsimp only
  exact h.gated (fun _ => h.reply (h.writeBytes p)) p

theorem setClockAccept {n : Nat} (p : P s) : P (setClockAccept n s).1 := by
  unfold Machine.setClockAccept
  dsimp only
  split
  · exact h.expireDue (h.reexamine (h.setQu p))
  · exact h.reexamine (h.setQu p)

theorem reqSetClock {r : RingNo} {tag n : Nat} (p : P s) : P (reqSetClock r tag n s) := by
  unfold Machine.reqSetClock
  dsimp only
  exact h.gated (fun _ => h.reply (h.setClockAccept p)) p

/-! ### Extents and volumes -/

theorem reqCharge {r : RingNo} {tag : Nat} {x : ChargeParams}
    (adds : s.primaryOnline (toVol x.volume) = none → s.tableRoom 1 = true →
      P (s.addExtent (chargeRecord x (toVol x.volume) (s.epochOf (toVol x.volume))))) (p : P s) : P (reqCharge r tag x s) := by
  unfold Machine.reqCharge
  dsimp only
  refine h.gated (fun _ => h.checked (fun online => ?_) p) p
  split_ifs
  case neg room =>
    split
    · exact h.reply p
    · exact h.reply (onOwnerGroup_keeps (fun _ => h.chargeAccount) (adds online (Bool.eq_true_of_not_eq_false room)))
  all_goals exact h.refuse p

theorem reqSplit {r : RingNo} {tag : Nat} {x : SplitParams}
    (splits : ∀ e, s.primaryOnline (toVol x.volume) = none → s.recordAt (toVol x.volume) x.first = some e → e.live = true → s.tableRoom 1 = true →
      P ((s.updateExtent e.volume e.first (·.front x.k)).addExtent (e.back x.k))) (p : P s) : P (reqSplit r tag x s) := by
  unfold Machine.reqSplit
  dsimp only
  refine h.gated (fun _ => h.checked (fun online => ?_) p) p
  split
  · exact h.refuse p
  · next e found =>
    split_ifs
    case neg dead _ room =>
      exact h.reply (onLiveAccounts_keeps (fun _ => h.countRecords)
        (splits e online found (Bool.eq_true_of_not_eq_false dead) (Bool.eq_true_of_not_eq_false room)))
    all_goals exact h.refuse p

theorem reqDrop {r : RingNo} {tag : Nat} {x : DropParams}
    (drops : ∀ e, s.primaryOnline (toVol x.volume) = none → s.recordAt (toVol x.volume) x.first = some e → e.live = true → e.filling = false →
      (s.dropHolds e (s.epochOf (toVol x.volume)) = true →
        P (s.updateExtent e.volume e.first fun y => { y with death := some (s.epochOf (toVol x.volume)) })) ∧
      P (s.removeExtent e.volume e.first)) (p : P s) : P (reqDrop r tag x s) := by
  unfold Machine.reqDrop
  dsimp only
  refine h.gated (fun _ => h.checked (fun online => ?_) p) p
  split
  · exact h.refuse p
  · next e found =>
    split_ifs with dead filling holds
    · exact h.refuse p
    · exact h.refuse p
    · exact h.reply (h.holdRecord ((drops e online found (Bool.eq_true_of_not_eq_false dead) (Bool.eq_false_iff.2 filling)).1 holds))
    · exact h.reply (h.removeLive (drops e online found (Bool.eq_true_of_not_eq_false dead) (Bool.eq_false_iff.2 filling)).2)

theorem reqQueryExtent {r : RingNo} {tag : Nat} {x : QueryExtentParams} (p : P s) : P (reqQueryExtent r tag x s) := by
  unfold Machine.reqQueryExtent
  dsimp only
  refine h.gated (fun _ => ?_) p
  split
  · exact h.refuse p
  · exact h.reply (h.writeBytes p)

theorem reqQueryVolume {r : RingNo} {tag n : Nat} (p : P s) : P (reqQueryVolume r tag n s) := by
  unfold Machine.reqQueryVolume
  dsimp only
  exact h.gated (fun _ => h.reply p) p

theorem loadSnapshotAccept {x : LoadSnapshotParams} {v : Vol}
    (p : P (noteEpoch v x.epoch (s.setSnapVol v { s.snapVol v with
      snaps := insertSnapshot ⟨x.epoch, x.label, x.createdAt, true, false, false, 0⟩ (s.snapVol v).snaps }))) : P (loadSnapshotAccept x v s) := by
  unfold Machine.loadSnapshotAccept
  dsimp only
  split
  · exact h.moveBase p
  · exact p

theorem reqLoadSnapshot {r : RingNo} {tag : Nat} {x : LoadSnapshotParams}
    (loads : (s.vol (toVol x.volume)).state = .defined → s.snapAt (toVol x.volume) x.epoch = none → P (Machine.loadSnapshotAccept x (toVol x.volume) s)) (p : P s) :
    P (reqLoadSnapshot r tag x s) := by
  unfold Machine.reqLoadSnapshot
  dsimp only
  refine h.gated (fun _ => h.checked (fun passed => h.reply (loads ?_ ?_)) p) p
  · have defined := firstFailure_eq_none.1 passed (decide ((s.vol (toVol x.volume)).state ≠ .defined), .volumeState) (by simp [State.definedOnly])
    exact Decidable.not_not.1 (of_decide_eq_false defined)
  · have fresh := firstFailure_eq_none.1 passed ((s.snapAt (toVol x.volume) x.epoch).isSome, .epochOrder) (by simp)
    exact Option.isSome_eq_false_iff.1 fresh |> Option.isNone_iff_eq_none.1

theorem reqLoadExtent {r : RingNo} {tag : Nat} {x : LoadExtentParams}
    (loads : (s.vol (toVol x.charge.volume)).state = .defined →
      ((s.vol (toVol x.charge.volume)).defn.role = .replica → x.source.isSome = true) →
      (∀ d ∈ x.death, s.neededBy (toVol x.charge.volume) x.birth d = true) → s.tableRoom 1 = true → P (Machine.loadExtentAccept x (toVol x.charge.volume) s))
    (p : P s) : P (reqLoadExtent r tag x s) := by
  unfold Machine.reqLoadExtent
  dsimp only
  refine h.gated (fun _ => h.checked (fun passed => h.reply (loads ?_ (fun replica => ?_) (fun d died => ?_) ?_)) p) p
  · have defined := firstFailure_eq_none.1 passed (decide ((s.vol (toVol x.charge.volume)).state ≠ .defined), .volumeState) (by simp [State.definedOnly])
    exact Decidable.not_not.1 (of_decide_eq_false defined)
  · have sourced := firstFailure_eq_none.1 passed (decide ((s.vol (toVol x.charge.volume)).defn.role = .replica) && x.source.isNone, .badRequest) (by simp)
    simpa [replica] using sourced
  · have needed := firstFailure_eq_none.1 passed _ (List.mem_append_right _ (.tail _ (.tail _ (.tail _ (.tail _ (.head _))))))
    simpa [Option.mem_def.1 died] using needed
  · have room := firstFailure_eq_none.1 passed (!s.tableRoom 1, .tableFull) (by simp)
    exact Bool.not_eq_false' .. |>.mp room

theorem loadExtentAccept {x : LoadExtentParams} {v : Vol}
    (p : P (noteEpoch v (max x.birth (x.death.getD 0)) (s.addExtent { chargeRecord x.charge v x.birth with
      death := x.death, source := if (s.vol v).defn.role = .replica then x.source else none }))) : P (loadExtentAccept x v s) := by
  unfold Machine.loadExtentAccept
  dsimp only
  split
  · exact onLiveAccounts_keeps (fun _ => h.chargeAccount) p
  · exact h.chargeAccount p

theorem reqOpenVolume {r : RingNo} {tag : Nat} {x : OpenVolumeParams}
    (opens : (s.vol (toVol x.volume)).state = .defined → s.aboveSeen (toVol x.volume) x.epoch = true →
      P (s.setVol (toVol x.volume) { s.vol (toVol x.volume) with epoch := some x.epoch, state := .online })) (p : P s) :
    P (reqOpenVolume r tag x s) := by
  unfold Machine.reqOpenVolume
  dsimp only
  refine h.gated (fun _ => h.checked (fun passed => h.reply (opens ?_ ?_)) p) p
  · have defined := firstFailure_eq_none.1 passed (decide ((s.vol (toVol x.volume)).state ≠ .defined), .volumeState) (by simp [State.definedOnly])
    exact Decidable.not_not.1 (of_decide_eq_false defined)
  · have above := firstFailure_eq_none.1 passed (!s.aboveSeen (toVol x.volume) x.epoch, .epochOrder) (by simp)
    exact Bool.not_eq_false' .. |>.mp above

theorem reqSealVolume {r : RingNo} {tag n : Nat} (p : P s) : P (reqSealVolume r tag n s) := by
  unfold Machine.reqSealVolume
  dsimp only
  exact h.gated (fun _ => h.checked (fun passed => h.reply (h.calmVol ⟨rfl, rfl, rfl, .inr ⟨isOpen_of_openOnly passed, .inr rfl⟩⟩ p)) p) p

theorem reqUnsealVolume {r : RingNo} {tag n : Nat} (p : P s) : P (reqUnsealVolume r tag n s) := by
  unfold Machine.reqUnsealVolume
  dsimp only
  exact h.gated (fun _ => h.checked (fun passed => h.reply (h.calmVol ⟨rfl, rfl, rfl, .inr ⟨isOpen_of_openOnly passed, .inl rfl⟩⟩ p)) p) p

theorem reqScanOut {r : RingNo} {tag : Nat} {x : ScanOutParams} (p : P s) : P (reqScanOut r tag x s) := by
  unfold Machine.reqScanOut
  dsimp only
  refine h.gated (fun _ => ?_) p
  split
  · exact h.refuse p
  · split_ifs
    · exact h.refuse p
    · exact p
    · exact h.setScan p

theorem exportStep {r : RingNo} {x : Scan} (p : P s) : P (exportStep r x s) := by
  unfold Machine.exportStep
  split
  · exact h.setScan (h.writeBytes p)
  · exact h.answer (h.setScan p)

end Quiet
end

section
variable {R : Ps → Ps → Prop} {P : State → Prop} (h : Kept R P) {s : State}
include h

namespace Kept

/-! ### Entries of the blocks -/

theorem setVol {v : Vol} {x : Volume} (p : P s) : P (s.setVol v x) := h.setEtu id p

theorem setExtents {x : List Extent} (few : s.extents.length ≤ Config.maxExtents → x.length ≤ Config.maxExtents) (p : P s) : P (s.setExtents x) :=
  h.setEtu few p

theorem setSnapVol {v : Vol} {x : SnapVol} (few : (s.snapVol v).release.length ≤ Config.maxRelease → x.release.length ≤ Config.maxRelease) (p : P s) :
    P (s.setSnapVol v x) := h.setSu (Su.ok_set few) p

theorem setRestoreCtx {c : Ctx} {x : RestoreCtx} (few : (s.restoreCtx c).plan.length ≤ Config.maxPlan → x.plan.length ≤ Config.maxPlan) (p : P s) :
    P (s.setRestoreCtx c x) := h.setRu (Ru.ok_set few) p

theorem setInCtx {c : Ctx} {x : InCtx} (p : P s) : P (s.setInCtx c x) := h.setDr id p

theorem setReplVol {v : Vol} {x : ReplVol} (few : (s.replVol v).pool.length ≤ Config.maxPool → x.pool.length ≤ Config.maxPool) (p : P s) :
    P (s.setReplVol v x) := h.setDr (Dr.ok_set few) p

/-! ### The extent table -/

theorem addExtent {e : Extent} (room : s.extents.length + 1 ≤ Config.maxExtents) (p : P s) : P (s.addExtent e) :=
  h.setExtents (fun _ => (length_insertExtent ..).trans_le room) p

theorem removeExtent {v : Vol} {n : Nat} (p : P s) : P (s.removeExtent v n) := h.setExtents (List.length_filter_le ..).trans p

theorem updateExtent {v : Vol} {n : Nat} {f : Extent → Extent} (p : P s) : P (s.updateExtent v n f) :=
  h.setExtents (List.length_map _).trans_le p

/-! ### Accounts -/

theorem addExtents {es : List Extent} : ∀ {s : State}, s.extents.length + es.length ≤ Config.maxExtents → P s → P (es.foldl (fun t e => t.addExtent e) s) := by
  induction es with
  | nil => exact fun _ p => p
  | cons e es ih =>
    intro s room p
    rw [List.length_cons] at room
    have one : (s.addExtent e).extents.length = s.extents.length + 1 := length_insertExtent ..
    refine ih (s := s.addExtent e) ?_ (h.addExtent (by omega) p)
    omega

/-! ### The release list -/

theorem producerWait {v : Vol} {x : Producer} (p : P s) : P (producerWait v x s) := by
  unfold Machine.producerWait
  dsimp only
  split
  · exact p
  · split
    · exact h.raise (h.setSnapVol id p)
    · exact h.setSnapVol id p

theorem producerLeave {v : Vol} {x : Producer} (p : P s) : P (producerLeave v x s) := h.setSnapVol id p

/-! ### Snapshots -/

theorem makeSnapshot {v : Vol} {l : Nat} {b : Bool} (p : P s) : P (makeSnapshot v l b s) := h.toQuiet.makeSnapshot trivial p

/-! ### Extents and volumes -/

theorem reqCharge {r : RingNo} {tag : Nat} {x : ChargeParams} (p : P s) : P (reqCharge r tag x s) :=
  h.toQuiet.reqCharge (fun _ room => h.addExtent (of_decide_eq_true room) p) p

theorem reqSplit {r : RingNo} {tag : Nat} {x : SplitParams} (p : P s) : P (reqSplit r tag x s) :=
  h.toQuiet.reqSplit (fun _ _ _ _ room => h.addExtent ((congrArg (· + 1) (List.length_map _)).trans_le (of_decide_eq_true room)) (h.updateExtent p)) p

theorem reqDrop {r : RingNo} {tag : Nat} {x : DropParams} (p : P s) : P (reqDrop r tag x s) :=
  h.toQuiet.reqDrop (fun _ _ _ _ _ => ⟨fun _ => h.updateExtent p, h.removeExtent p⟩) p

theorem reqLoadSnapshot {r : RingNo} {tag : Nat} {x : LoadSnapshotParams} (p : P s) : P (reqLoadSnapshot r tag x s) :=
  h.toQuiet.reqLoadSnapshot (fun _ _ => h.loadSnapshotAccept (h.setVol (h.setSnapVol id p))) p

theorem reqLoadExtent {r : RingNo} {tag : Nat} {x : LoadExtentParams} (p : P s) : P (reqLoadExtent r tag x s) :=
  h.toQuiet.reqLoadExtent (fun _ _ _ room => h.loadExtentAccept (h.setVol (h.addExtent (of_decide_eq_true room) p))) p

theorem reqOpenVolume {r : RingNo} {tag : Nat} {x : OpenVolumeParams} (p : P s) : P (reqOpenVolume r tag x s) :=
  h.toQuiet.reqOpenVolume (fun _ _ => h.setVol p) p

end Kept
end

end Sys2Proof.Machine
end

section
/-! What keeps a predicate of `Quiet` or `Kept`: the link, the sender, the mover, the snapshot gate and the trim scan, and the receiver. -/

namespace Sys2Proof.Machine

/-! ### Open volumes and inbound slots -/

theorem isOpen_of_createRefusal {s : State} {v : Vol} {l : Nat} (admitted : createRefusal s v l = none) : (s.vol v).isOpen := by
  have undefined := firstFailure_eq_none.1 admitted (decide ((s.vol v).state = .undefined), .noVolume) (by simp)
  have defined := firstFailure_eq_none.1 admitted (decide ((s.vol v).state = .defined), .volumeState) (by simp)
  unfold Volume.isOpen
  cases state : (s.vol v).state <;> simp_all

theorem mem_of_activeLabelled {s : State} {v : Vol} {l : Nat} {x : Snapshot} (found : s.activeLabelled v l = some x) : x ∈ (s.snapVol v).snaps := by
  unfold State.activeLabelled at found
  split at found
  · next y labelled =>
    split at found
    · exact Option.some.inj found ▸ List.mem_of_find?_eq_some labelled
    · exact nomatch found
  · exact nomatch found

/-- A slot may change to one that holds entries born by the target. -/
theorem InCtx.births_set {x : InCtx} {i : Fin 2} {y : Slot} {n : Nat} (births : ∀ j : Fin 2, x.slots[j].birthsOk n) (born : y.birthsOk n) (j : Fin 2) :
    (x.slots.set i y)[j].birthsOk n := by
  have at_j := births j
  simp only [Fin.getElem_fin, Vector.getElem_set] at at_j ⊢
  split
  · exact born
  · exact at_j

theorem InCtx.calm_setSlot {x : InCtx} {i : Fin 2} {y : Slot} (born : (∀ j : Fin 2, x.slots[j].birthsOk x.target) → y.birthsOk x.target) :
    x.calm (x.setSlot i y) := ⟨rfl, rfl, rfl, rfl, rfl, rfl, fun births => InCtx.births_set births (born births)⟩

theorem birthsOk_of_headOk {s : State} {x : InCtx} {es : List PayloadEntry} {ds : List Run} {n : Nat} (good : headOk s x es ds = true) :
    (fillingSlot s x.volume n es ds).birthsOk x.target := by
  simp only [headOk, Bool.and_eq_true, List.all_eq_true, decide_eq_true_iff] at good
  exact fun e mem => (good.2 e mem).2

section
variable {R : Ps → Ps → Prop} {O : State → Vol → Prop} {P : State → Prop} (h : Quiet R O P) {s : State}
include h

namespace Quiet

/-! ### Handing frames to the link -/

theorem handControl {f : OutFrame} (p : P s) : P (handControl f s) := by
  unfold Machine.handControl
  split
  case isTrue may =>
    rw [Bool.and_eq_true, decide_eq_true_iff] at may
    exact h.setLc (fun _ => ⟨List.length_append.trans_le may.2, fun down => by simp [may.1] at down⟩) p
  case isFalse => exact p

theorem pumpSlot (p : P s) : P (pumpSlot s) := by
  unfold Machine.pumpSlot
  split
  case isTrue up =>
    split
    · exact h.setDs id (h.setLc (fun ok => ⟨ok.1, fun down => by simp [up] at down⟩) p)
    · exact p
  case isFalse => exact h.setDs id p

theorem handBatch {f : OutFrame} (p : P s) : P (handBatch f s) := h.pumpSlot (h.setDs id p)

theorem emptySlot (p : P s) : P (s.setLc { s.lc with slot := none }) :=
  h.setLc (fun ok => ⟨ok.1, fun down => ⟨(ok.2 down).1, rfl⟩⟩) p

theorem dropBatchFrames {f : Nat → Bool} (p : P s) : P (dropBatchFrames f s) := by
  unfold Machine.dropBatchFrames
  dsimp only
  refine h.pumpSlot ?_
  split
  · split
    · exact h.emptySlot (h.setDs id p)
    · exact h.setDs id p
  · exact h.setDs id p

/-! ### The sender's frames and moves -/

theorem setActive {x : OutRun} (p : P s) : P (s.setActive x) := h.setDs id p

theorem handRunControl {k : FrameKind} {a b : Nat} {bs : List Byte} (p : P s) : P (handRunControl k a b bs s) := by
  unfold Machine.handRunControl
  split
  · split
    · exact h.handControl p
    · exact p
  · exact p

theorem sendClose (p : P s) : P (sendClose s) := by
  unfold Machine.sendClose
  split
  · exact h.handRunControl p
  · exact p

theorem startClosing (p : P s) : P (startClosing s) := by
  unfold Machine.startClosing
  split
  · exact h.sendClose (h.setActive p)
  · exact p

theorem checkDrained (p : P s) : P (checkDrained s) := by
  unfold Machine.checkDrained
  split
  · split_ifs
    · exact h.startClosing p
    · exact h.setActive p
    · exact p
  · exact p

theorem handHead {b : Batch} (p : P s) : P (handHead b s) := by
  unfold Machine.handHead
  split
  · split
    · exact h.handBatch p
    · exact p
  · exact p

theorem shipGranted_resend {n : Nat} (p : P s) : P (shipGranted.resend n s) := by
  unfold Machine.shipGranted.resend
  split
  · exact h.handHead (h.setActive (h.setDs id p))
  · exact p

theorem shipGranted {n : Nat} (p : P s) : P (shipGranted n s) := by
  unfold Machine.shipGranted
  split
  · split
    · exact h.checkDrained (h.handHead (h.setDs id p))
    · exact h.shipGranted_resend p
  · exact h.shipGranted_resend p

/-! ### The mover -/

theorem grantEffect {u : MoverUnit} (p : P s) : P (grantEffect u s) := by
  unfold Machine.grantEffect
  split
  · exact h.shipGranted p
  · exact p

theorem startUnit {u : MoverUnit} (p : P s) : P (startUnit u s) := h.grantEffect (h.setDm p)

theorem askUnit {u : MoverUnit} {t : State} (e : askUnit u s = some t) (p : P s) : P t := by
  unfold Machine.askUnit at e
  split_ifs at e
  · exact Option.some.inj e ▸ h.startUnit p
  · exact Option.some.inj e ▸ h.setDm p

theorem withdraw {k : MoverClass} {n : Ctx} (p : P s) : P (withdraw k n s) := h.setDm p

theorem grantNext (p : P s) : P (grantNext s) := by
  unfold Machine.grantNext
  split
  · exact h.startUnit (h.withdraw p)
  · exact p

theorem releaseEngine (p : P s) : P (releaseEngine s) := h.setDm p

theorem moveAccesses {g : Segment} {n : Nat} (p : P s) : P (moveAccesses g n s) :=
  List.foldlRecOn _ _ p fun _ p _ _ => h.writeBytes p

theorem moveSegment {g : Segment} (p : P s) : P (moveSegment g s) := h.moveAccesses p

/-! ### The end of a run -/

theorem runHandedOn (p : P s) : P (runHandedOn s) := h.setDs id p
theorem withdrawSender {v : Vol} (p : P s) : P (withdrawSender v s) :=
  h.calmSnapVol ⟨rfl, rfl, rfl, rfl, fun none => by rw [none]; rfl⟩ id p

theorem discardShip (p : P s) : P (discardShip s) := by
  unfold Machine.discardShip
  split
  · split
    · exact h.setDm p
    · exact p
  · exact p

theorem clearSender (p : P s) : P (clearSender s) := h.discardShip (h.withdraw (h.emptySlot (h.setDs id p)))

theorem endRunCore {a b : Nat} {c : Bool} (p : P s) : P (endRunCore a b c s) := by
  unfold Machine.endRunCore
  split
  · exact p
  · refine h.setActive (h.withdrawSender (h.clearSender ?_))
    dsimp only
    split_ifs
    · refine h.releaseTarget ?_
      split
      · exact h.moveBase p
      · exact p
    · exact h.handRunControl (h.releaseTarget p)
    · exact h.releaseTarget p

theorem finishRun (p : P s) : P (finishRun s) := by
  unfold Machine.finishRun
  split
  · exact p
  · split
    · exact p
    · dsimp only
      split_ifs
      · exact h.runHandedOn (h.answerDue p)
      · exact h.answerDue p
      · exact h.runHandedOn (h.answerDue (h.setFree p))
      · exact h.answerDue (h.setFree p)

theorem endRun {a b : Nat} {c : Bool} (p : P s) : P (endRun a b c s) := by
  unfold Machine.endRun
  split
  · exact p
  · split
    · exact p
    · exact h.finishRun (h.endRunCore p)

theorem sendOffer (p : P s) : P (sendOffer s) := by
  unfold Machine.sendOffer
  split
  · exact p
  · exact h.handRunControl (h.setActive p)

theorem runTarget {n : Nat} (p : P s) : P (runTarget n s) := by
  unfold Machine.runTarget
  split
  · exact h.sendOffer (h.setActive p)
  · exact p

theorem askSnapshot {v : Vol} {n : Nat} (p : P s) : P (askSnapshot v n s) := by
  unfold Machine.askSnapshot
  split
  · exact h.endRun p
  · next admitted =>
    have o := h.opened (isOpen_of_createRefusal admitted)
    split
    · exact h.joinGate o p
    · exact h.runTarget (h.makeSnapshot o p)

theorem startRun {x : QueuedRun} {rest : List QueuedRun} (p : P s) : P (startRun x rest s) := by
  unfold Machine.startRun
  dsimp only
  split
  · exact h.askSnapshot (h.setDs id p)
  · split
    · exact h.runTarget (h.setDs id p)
    · exact h.setDs id p

/-! ### Going back and receipts -/

theorem pullBack {k : Nat} (p : P s) : P (pullBack k s) := by
  unfold Machine.pullBack
  refine h.withdraw (h.dropBatchFrames (h.setDs id ?_))
  split
  · exact h.discardShip p
  · exact p

theorem goBack {k : Nat} (p : P s) : P (goBack k s) := by
  unfold Machine.goBack
  split
  · exact p
  · split
    · exact h.endRun p
    · exact h.setDs id (h.pullBack p)

theorem busyBack {k : Nat} (p : P s) : P (busyBack k s) := h.setDs id (h.pullBack p)

theorem landed {k : Nat} (p : P s) : P (landed k s) := by
  unfold Machine.landed
  split
  · exact p
  · dsimp only
    have abandoned : ∀ o : Option Batch, P (match o with | some b => Machine.dropBatchFrames (fun q => decide (q = b.seq)) (Machine.discardShip s) | none => s) := by
      rintro (_ | b)
      · exact p
      · exact h.dropBatchFrames (h.discardShip p)
    have withdrawn : ∀ (c : Prop) [Decidable c] (t : State), P t → P (if c then Machine.withdraw .ship 0 t else t) := fun c _ t p => by
      split
      · exact h.withdraw p
      · exact p
    have counted : ∀ (c : Prop) [Decidable c] (t : State) (n : Nat), P t → P (if c then t else t.setFree n) := fun c _ t n p => by
      split
      · exact p
      · exact h.setFree p
    split
    · exact h.startClosing (counted _ _ _ (h.setDs id (withdrawn _ _ (abandoned _))))
    · exact counted _ _ _ (h.setDs id (withdrawn _ _ (abandoned _)))

theorem restartTimer {n : Nat} (p : P s) : P (restartTimer n s) := h.setDs id p

theorem takeReceipt {k : ReceiptKind} {n : Nat} (p : P s) : P (takeReceipt k n s) := by
  unfold Machine.takeReceipt
  split
  · exact p
  · split
    · exact h.landed p
    · exact p
    all_goals split
    · exact h.restartTimer p
    · exact p
    · exact h.goBack p
    · exact p
    · exact h.busyBack p
    · exact p
    · exact h.endRun p
    · exact p

/-! ### The delta scan -/

theorem closeAssembly (p : P s) : P (closeAssembly s) := by
  unfold Machine.closeAssembly
  split
  · exact p
  · refine h.setDs ?_ p
    split <;> exact id

theorem setAssembly {b : Batch} (p : P s) : P (setAssembly b s) := by
  unfold Machine.setAssembly
  dsimp only
  split
  · exact h.closeAssembly (h.setDs id p)
  · exact h.setDs id p

theorem addDeletion {r : Run} (p : P s) : P (addDeletion r s) := h.setAssembly p

theorem addPayload {v : Vol} {e : PayloadEntry} (p : P s) : P (addPayload v e s) := by
  unfold Machine.addPayload
  dsimp only
  split
  · exact h.setAssembly (h.setDs id p)
  · exact h.setAssembly (h.setDs id p)

theorem endScan (p : P s) : P (endScan s) := by
  unfold Machine.endScan
  dsimp only
  refine h.checkDrained ?_
  split
  · exact h.setDs id p
  · exact h.closeAssembly (h.setDs id p)

theorem scanStep {x : OutRun} {n : Nat} (p : P s) : P (scanStep x n s) := by
  unfold Machine.scanStep
  split
  · exact h.addPayload p
  · split
    · exact h.endScan p
    · dsimp only
      split_ifs
      · exact h.addPayload (h.setDs id p)
      · exact h.addDeletion (h.setDs id p)
      · exact h.setDs id p

theorem askShip {v : Vol} {b : Batch} (p : P s) : P (askShip v b s) := by
  unfold Machine.askShip
  split
  · next asked => exact h.askUnit asked p
  · exact h.endRun p

theorem releaseQueued {x : QueuedRun} (p : P s) : P (releaseQueued x s) := by
  unfold Machine.releaseQueued
  split
  · exact p
  · exact h.releaseTarget p

theorem unqueue {v : Vol} (p : P s) : P (unqueue v s) := h.setDs id p

/-! ### The gate, the snapshot requests and the trim scan -/

theorem completeCreate {v : Vol} {g : GateCreate} (o : O s v) (p : P s) : P (completeCreate v g s) := by
  unfold Machine.completeCreate
  split
  · exact h.answer (h.makeSnapshot o p)
  · exact h.runTarget (h.makeSnapshot o p)

theorem reqSnapshotCreate {r : RingNo} {tag : Nat} {x : SnapshotParams} (p : P s) : P (reqSnapshotCreate r tag x s) := by
  unfold Machine.reqSnapshotCreate
  refine h.gated (fun _ => h.checked (fun admitted => ?_) p) p
  have o := h.opened (isOpen_of_createRefusal admitted)
  split_ifs
  · exact h.refuse p
  · exact h.reply (h.joinGate o p)
  · exact h.reply (h.makeSnapshot o p)

theorem reqSnapshotRetire {r : RingNo} {tag : Nat} {x : SnapshotParams} (p : P s) : P (reqSnapshotRetire r tag x s) := by
  unfold Machine.reqSnapshotRetire
  refine h.gated (fun _ => h.checked (fun _ => ?_) p) p
  split
  · exact h.refuse p
  · next x found =>
    split_ifs
    · exact h.reply (h.retireSnapshot ⟨x, mem_of_activeLabelled found, rfl⟩ p)
    · exact h.refuse p

theorem reportTrim {v : Vol} {x : RetireEntry} (p : P s) : P (reportTrim v x s) := by
  unfold Machine.reportTrim
  split
  · exact h.answer p
  · exact h.raise p
  · exact h.raise p

/-! ### Inbound runs -/

theorem sendReceipt {c : Ctx} {n : Nat} {k : ReceiptKind} (p : P s) : P (sendReceipt c n k s) := h.handControl p
theorem touch {c : Ctx} (p : P s) : P (touch c s) := h.calmInCtx ⟨rfl, rfl, rfl, rfl, rfl, rfl, id⟩ p
theorem setTakeMark {v : Vol} {n : Nat} (p : P s) : P (s.setTakeMark v n) := h.calmReplVol rfl id p

theorem abortCtx {n : Nat} {b : Bool} {c : Ctx} (p : P s) : P (abortCtx n b c s) := by
  unfold Machine.abortCtx
  dsimp only
  split
  · next opened =>
    have marked : ∀ b : Bool, P ((if b then Machine.withdraw .land c s else (Machine.withdraw .land c s).setTakeMark (s.inCtx c).volume 0).setInCtx c
        ((s.inCtx c).aborted n)) := by
      rintro (_ | _)
      · exact h.abortRun (s := (Machine.withdraw .land c s).setTakeMark (s.inCtx c).volume 0) opened (h.setTakeMark (h.withdraw p))
      · exact h.abortRun (s := Machine.withdraw .land c s) opened (h.withdraw p)
    split
    · exact h.handControl (marked _)
    · exact marked _
  · exact p

theorem abortAll {n : Nat} {b : Bool} (p : P s) : P (abortAll n b s) := List.foldlRecOn _ _ p fun _ p _ _ => h.abortCtx p
theorem rollbackEnd {c : Ctx} (aborting : (s.inCtx c).state = .aborting) (walked : (s.inCtx c).walkDone = true) (p : P s) : P (rollbackEnd c s) := by
  have same : ∀ k a b, (Machine.raise k a b s).inCtx c = s.inCtx c := fun k a b => congrArg (·.ctxs[c]) (noticesOnly_raise k a b s).dr
  exact h.rolledBack (by rw [same, aborting]) (by rw [same, walked]) (h.raise p)

theorem landGone {c : Ctx} (p : P s) : P (landGone c s) := by
  unfold Machine.landGone
  dsimp only
  split
  · next ended => exact h.rollbackEnd (s := s.setTakeMark (s.inCtx c).volume 0) ended.1 ended.2 (h.setTakeMark p)
  · exact h.setTakeMark p

theorem takeOffer {f : InFrame}
    (opens : ∀ k base target, f.header.recvVol ≤ 15 → offerFault s (toVol f.header.recvVol) k base target = none →
      P (openContext f (toVol f.header.recvVol) base target s)) (p : P s) : P (takeOffer f s) := by
  unfold Machine.takeOffer
  split
  · exact p
  · next inRange =>
    split
    · exact h.handControl (h.touch p)
    · dsimp only
      split
      · exact h.handControl p
      · next passed => exact opens _ _ _ (Nat.not_lt.1 inRange) passed

theorem storeHead {c : Ctx} {i : Fin 2} {f : InFrame} (p : P s) : P (storeHead c i f s) := by
  unfold Machine.storeHead
  dsimp only
  split
  · next good => exact h.calmInCtx (InCtx.calm_setSlot fun _ => birthsOk_of_headOk good) p
  · exact h.abortCtx p

theorem takeHead {c : Ctx} {f : InFrame} (p : P s) : P (takeHead c f s) := by
  unfold Machine.takeHead
  dsimp only
  split_ifs
  · exact p
  · split
    · exact h.storeHead p
    · split
      · exact h.storeHead p
      · exact h.calmInCtx ⟨rfl, rfl, rfl, rfl, rfl, rfl, id⟩ p
  · exact h.calmInCtx ⟨rfl, rfl, rfl, rfl, rfl, rfl, id⟩ (h.sendReceipt p)
  · exact h.sendReceipt p

theorem takeData {c : Ctx} {f : InFrame} (p : P s) : P (takeData c f s) := by
  unfold Machine.takeData
  dsimp only
  split
  · next i _ =>
    refine h.calmInCtx (InCtx.calm_setSlot fun births => ?_) p
    have born := births i
    unfold Slot.take
    split
    · exact born
    · exact born
  · exact p

end Quiet
end

section
variable {R : Ps → Ps → Prop} {O : State → Vol → Prop} {P : State → Prop} (h : Steady R O P) {s : State}
include h

namespace Steady

/-! ### The gate, the snapshot requests and the trim scan -/

theorem gateLook {v : Vol} (p : P s) : P (gateLook v s) := by
  unfold Machine.gateLook
  split
  · exact p
  · have emptied : P (s.setSnapVol v { s.snapVol v with gate := [] }) := h.calmSnapVol ⟨rfl, rfl, rfl, rfl, fun _ => rfl⟩ id p
    cases gate : (s.snapVol v).gate with
    | nil => exact emptied
    | cons g gs =>
      have o : O (s.setSnapVol v { s.snapVol v with gate := [] }) v :=
        (h.stays v).calmSnapVol ⟨rfl, rfl, rfl, rfl, fun _ => rfl⟩ id (h.gates p (gate ▸ List.cons_ne_nil g gs))
      exact (List.foldlRecOn (motive := fun t => P t ∧ O t v) _ _ ⟨emptied, o⟩
        fun _ both _ _ => ⟨h.completeCreate both.2 both.1, (h.stays v).completeCreate both.2 both.2⟩).1

end Steady
end

section
variable {R : Ps → Ps → Prop} {P : State → Prop} (h : Kept R P) {s : State}
include h

namespace Kept

/-! ### The gate, the snapshot requests and the trim scan -/

theorem trimRemove {e : Extent} {t : State} (removed : trimRemove e s = some t) (p : P s) : P t := by
  unfold Machine.trimRemove at removed
  split at removed
  · exact nomatch removed
  · next appended => exact Option.some.inj removed ▸ h.setSnapVol id (h.refundAccount (h.removeExtent (h.releaseAppend appended p)))

theorem setTrim {v : Vol} {t : TrimState} (p : P s) : P (s.setTrim v t) := h.setSnapVol id p

theorem trimEnd {v : Vol} (p : P s) : P (trimEnd v s) := by
  unfold Machine.trimEnd
  dsimp only
  split
  · exact h.setTrim p
  · split
    · exact h.autoTrimStep (h.reportTrim (h.setSnapVol id p))
    · exact h.reportTrim (h.setSnapVol id p)

theorem trimVisit {v : Vol} {n : Nat} {e : Extent} (p : P s) : P (trimVisit v n e s) := by
  unfold Machine.trimVisit
  split
  · split
    · next removed => exact h.setTrim (h.trimRemove removed p)
    · exact h.producerWait (h.setTrim p)
  · exact h.setTrim p

theorem trimRetry {v : Vol} {t : State} (e : trimRetry v s = some t) (p : P s) : P t := by
  unfold Machine.trimRetry at e
  split at e
  · split at e
    · split at e
      · next removed => exact Option.some.inj e ▸ h.setTrim (h.trimRemove removed p)
      · exact nomatch e
    · exact Option.some.inj e ▸ h.setTrim p
  · exact Option.some.inj e ▸ p

/-! ### Inbound runs -/

theorem openContext {f : InFrame} {v : Vol} {a b : Nat} (p : P s) : P (openContext f v a b s) := by
  unfold Machine.openContext
  split
  · exact p
  · exact h.handControl (h.setInCtx p)

theorem takeOffer {f : InFrame} (p : P s) : P (takeOffer f s) := h.toQuiet.takeOffer (fun _ _ _ _ _ => h.openContext p) p

end Kept
end

end Sys2Proof.Machine
end

section
/-! What keeps a predicate of `Quiet` or `Kept`: landing, the commit and rollback scans, REPLICA_RESET, and the frames and requests of the two sides. -/

namespace Sys2Proof.Machine

theorem Slot.birthsOk_clear (n : Nat) : Slot.clear.birthsOk n := fun _ mem => absurd mem List.not_mem_nil

/-! ### Lengths after a landing -/

theorem length_poolDrop_le (n : Nat) (pool : List Run) : (poolDrop n pool).length ≤ pool.length := by
  fun_induction poolDrop n pool with
  | case1 => exact Nat.le_refl _
  | case2 => exact Nat.le_refl _
  | case3 => exact Nat.le_refl _
  | case4 n r rest _ ih => exact ih.trans (Nat.le_succ _)

theorem deletionParts_ne_nil (n : Nat) (d : Run) (e : Extent) : deletionParts n d e ≠ [] := by simp [deletionParts]

theorem length_le_applyDeletion (v : Vol) (n : Nat) (d : Run) (es : List Extent) : es.length ≤ (applyDeletion v n es d).length := by
  induction es with
  | nil => exact Nat.le_refl _
  | cons e es ih =>
    have one : 1 ≤ (if deletionReaches v d e then deletionParts n d e else [e]).length := by
      split
      · exact List.length_pos_iff.2 (deletionParts_ne_nil n d e)
      · exact Nat.le_refl _
    have both : (applyDeletion v n (e :: es) d).length = (if deletionReaches v d e then deletionParts n d e else [e]).length + (applyDeletion v n es d).length := by
      rw [applyDeletion, List.flatMap_cons, List.length_append]; rfl
    rw [both, List.length_cons]
    omega

theorem length_le_applyDeletions (v : Vol) (n : Nat) (ds : List Run) : ∀ es : List Extent, es.length ≤ (applyDeletions v n ds es).length := by
  induction ds with
  | nil => exact fun _ => Nat.le_refl _
  | cons d ds ih => exact fun es => (length_le_applyDeletion v n d es).trans (ih _)

section
variable {R : Ps → Ps → Prop} {O : State → Vol → Prop} {P : State → Prop} (h : Quiet R O P) {s : State}
include h

namespace Quiet

/-! ### Landing -/

theorem noSpace {c : Ctx} {n : Nat} (p : P s) : P (noSpace c n s) := h.abortCtx (h.sendReceipt p)

end Quiet
end

/-! ### Frames that pass the checks -/

theorem onForward_keeps {P : State → Prop} {s : State} {k : FrameKind} {f : EthFrame} {act : InFrame → State → State} (keeps : ∀ x, P (act x s)) (p : P s) : P (onForward k f act s) := by
  unfold onForward
  split
  · split
    · exact keeps _
    · exact p
  · exact p

theorem onRunFrame_keeps {P : State → Prop} {s : State} {k : FrameKind} {f : EthFrame} {act : OutRun → InFrame → State} (keeps : ∀ x y, P (act x y)) (p : P s) : P (onRunFrame k f act s) := by
  unfold onRunFrame
  split
  · split
    · split
      · exact keeps _ _
      · exact p
    · exact p
  · exact p

/-! ### What charges leave of the table and of the receiver -/

theorem extents_setExtents (s : State) (es : List Extent) : (s.setExtents es).extents = es := rfl

/-- The extent table and the receiver are the same. -/
def State.sameTables (s t : State) : Prop := t.etu = s.etu ∧ t.dr = s.dr

section
variable {s t u : State}

theorem State.sameTables.trans (st : s.sameTables t) (tu : t.sameTables u) : s.sameTables u := ⟨tu.1.trans st.1, tu.2.trans st.2⟩
theorem State.sameTables.extents (st : s.sameTables t) : t.extents = s.extents := congrArg Etu.extents st.1
theorem State.sameTables.inCtx (st : s.sameTables t) (c : Ctx) : t.inCtx c = s.inCtx c := congrArg (·.ctxs[c]) st.2
theorem State.noticesOnly.sameTables (only : s.noticesOnly t) : s.sameTables t := ⟨only.etu, only.dr⟩
end

theorem sameTables_autoTrimStep (v : Vol) (s : State) : s.sameTables (autoTrimStep v s) := by
  unfold autoTrimStep
  split
  · split <;> exact ⟨rfl, rfl⟩
  · exact ⟨rfl, rfl⟩

theorem sameTables_rerate (i old : Nat) (s : State) : s.sameTables (rerate i old s) := by
  unfold rerate
  dsimp only
  split
  case h_1 => exact ⟨rfl, rfl⟩
  case h_2 => exact (noticesOnly_raiseAll ..).sameTables
  case h_3 => exact (noticesOnly_raiseAll ..).sameTables
  case h_4 => exact (noticesOnly_raiseAll ..).sameTables
  case h_5 =>
    split
    · unfold autoTrimAgain
      split
      · exact sameTables_autoTrimStep ..
      · exact ⟨rfl, rfl⟩
    · have raised := (noticesOnly_raise .reserveOver (toVol i).val 0 (s.setAccount i (rateReserve (s.account i)))).sameTables
      split
      · unfold autoTrimStart
        split
        · exact raised
        · exact raised.trans (sameTables_autoTrimStep ..)
      · exact raised
    · exact ⟨rfl, rfl⟩

theorem sameTables_chargeAccount (i c n : Nat) (s : State) : s.sameTables (chargeAccount i c n s) := by
  unfold chargeAccount
  dsimp only
  split
  · exact ⟨rfl, rfl⟩
  · exact sameTables_rerate ..

theorem sameTables_countRecords (i n : Nat) (s : State) : s.sameTables (countRecords i n s) := by
  unfold countRecords
  dsimp only
  split <;> exact ⟨rfl, rfl⟩

theorem extents_raiseAll (ks : List NoticeKind) (i : Nat) (s : State) : (raiseAll ks i s).extents = s.extents := (noticesOnly_raiseAll ks i s).extents
theorem extents_rerate (i old : Nat) (s : State) : (rerate i old s).extents = s.extents := (sameTables_rerate ..).extents
theorem extents_chargeAccount (i c n : Nat) (s : State) : (chargeAccount i c n s).extents = s.extents := (sameTables_chargeAccount ..).extents
theorem extents_countRecords (i n : Nat) (s : State) : (countRecords i n s).extents = s.extents := (sameTables_countRecords ..).extents

theorem extents_handControl (f : OutFrame) (s : State) : (handControl f s).extents = s.extents := by
  unfold handControl
  split <;> rfl

theorem dr_addExtents (es : List Extent) (s : State) : (es.foldl (fun t e => t.addExtent e) s).dr = s.dr :=
  List.foldlRecOn (motive := fun t : State => t.dr = s.dr) es _ rfl fun _ same _ _ => same

section
variable (c : Ctx) (i : Fin 2) (s : State)

/-- The extent table after a landing (R147, R148). -/
theorem extents_landMake : (landMake c i s).extents =
    applyDeletions (s.inCtx c).volume (s.inCtx c).runId ((s.inCtx c).slots[i]).deletions ((s.landingRecords c i).foldl (fun t e => t.addExtent e) s).extents := by
  unfold landMake sendReceipt
  simp only [extents_handControl, State.setInCtx_extents, extents_countRecords, extents_setExtents, extents_chargeAccount, State.setReplVol_extents]
  rfl
end

section
variable {R : Ps → Ps → Prop} {O : State → Vol → Prop} {P : State → Prop} (h : Quiet R O P) {s : State}
include h

namespace Quiet

/-- What follows on the new records and the shorter pool: their charge, the deletions with their count, and the empty slot. -/
theorem landRest {c : Ctx} {x : InCtx} {i : Fin 2} {a k n b m q : Nat} {d : Digest} {ds : List Run} (same : s.inCtx c = x) (opened : x.state = .open)
    (room : (applyDeletions x.volume x.runId ds s.extents).length ≤ Config.maxExtents) (p : P s) :
    P (Machine.sendReceipt c q .landed ((Machine.countRecords b m ((Machine.chargeAccount a k n s).setExtents
      (applyDeletions x.volume x.runId ds (Machine.chargeAccount a k n s).extents))).setInCtx c { x.setSlot i .clear with digest := d })) := by
  have charged := h.chargeAccount (i := a) (c := k) (n := n) p
  have table : (Machine.chargeAccount a k n s).extents = s.extents := extents_chargeAccount ..
  have inCtx : (Machine.chargeAccount a k n s).inCtx c = x := ((sameTables_chargeAccount ..).inCtx c).trans same
  have deleted := h.delete (c := c) (ds := ds) (by rw [inCtx]; exact opened) (by rw [inCtx, table]; exact room) charged
  rw [inCtx] at deleted
  refine h.sendReceipt (h.calmInCtx ?_ (h.countRecords deleted))
  rw [(sameTables_countRecords ..).inCtx, State.setExtents_inCtx, inCtx]
  exact ⟨rfl, rfl, rfl, rfl, rfl, rfl, fun births => InCtx.births_set births (Slot.birthsOk_clear _)⟩

theorem landMake {c : Ctx} {i : Fin 2} (opened : (s.inCtx c).state = .open) (room : (landMake c i s).extents.length ≤ Config.maxExtents) (p : P s) :
    P (landMake c i s) := by
  rw [extents_landMake] at room
  have added := (length_le_applyDeletions ..).trans room
  rw [length_addExtents] at added
  exact h.landRest (congrArg (·.ctxs[c]) (dr_addExtents ..)) opened room
    (h.calmReplVol rfl (length_poolDrop_le ..).trans (h.land opened added p))

theorem landEnd {c : Ctx} {i : Fin 2} (opened : (s.inCtx c).state = .open) (p : P s) : P (landEnd c i s) := by
  unfold Machine.landEnd
  dsimp only
  split
  case isTrue room => exact h.landMake opened room p
  case isFalse => exact h.noSpace (h.setTakeMark p)

theorem landStart {c : Ctx} {i : Fin 2} {taken : List (List Run)} (opened : (s.inCtx c).state = .open) (p : P s) : P (landStart c i taken s) := by
  unfold Machine.landStart
  dsimp only
  have landing : P ((s.setTakeMark (s.inCtx c).volume { (s.inCtx c).slots[i] with state := .landing, taken := taken }.blocks).setInCtx c
      ((s.inCtx c).setSlot i { (s.inCtx c).slots[i] with state := .landing, taken := taken })) :=
    h.calmInCtx (InCtx.calm_setSlot fun births => births i) (h.setTakeMark p)
  split
  · exact h.landEnd (by rw [State.inCtx_setInCtx, if_pos rfl]; exact opened) landing
  · split
    · next asked => exact h.askUnit asked landing
    · exact h.abortCtx landing

theorem landTry {n : Nat} {c : Ctx} : ∀ {s : State}, P s → P (landTry n c s) := by
  induction n with
  | zero => exact id
  | succ n ih =>
    intro s p
    unfold Machine.landTry
    dsimp only
    split
    · next ready =>
      split
      · exact p
      · split
        · exact h.noSpace p
        · exact ih (h.landStart ready.1 p)
    · exact p

theorem landNext {c : Ctx} (p : P s) : P (landNext c s) := h.landTry p

theorem landComplete {c : Ctx} (p : P s) : P (landComplete c s) := by
  unfold Machine.landComplete
  dsimp only
  split
  · next opened _ => exact h.landNext (h.landEnd opened p)
  · exact h.landGone p

theorem judgeBatch {c : Ctx} {i : Fin 2} {d : Digest} (p : P s) : P (judgeBatch c i d s) := by
  unfold Machine.judgeBatch
  dsimp only
  split
  · exact h.landNext (h.calmInCtx ⟨rfl, rfl, rfl, rfl, rfl, rfl, fun births => InCtx.births_set births (births i)⟩ p)
  · exact h.calmInCtx (InCtx.calm_setSlot fun _ => Slot.birthsOk_clear _) (h.sendReceipt p)

theorem takeEnd {c : Ctx} {f : InFrame} (p : P s) : P (takeEnd c f s) := by
  unfold Machine.takeEnd
  dsimp only
  split
  · exact h.judgeBatch p
  · split
    · split
      · exact h.calmInCtx ⟨rfl, rfl, rfl, rfl, rfl, rfl, id⟩ (h.sendReceipt p)
      · exact p
    · exact p

/-! ### Close, commit and rollback -/

theorem sendClosed {c : Ctx} {n : Nat} (p : P s) : P (sendClosed c n s) := h.handControl p
theorem refuseClose {c : Ctx} (p : P s) : P (refuseClose c s) := h.abortCtx (h.sendClosed p)
theorem startCommit {c : Ctx} (opened : (s.inCtx c).state = .open) (p : P s) : P (startCommit c s) :=
  h.commitRun (s := s.setSnapVol (s.inCtx c).volume { s.snapVol (s.inCtx c).volume with commitPlace := some (s.inCtx c).target }) opened
    (h.calmSnapVol ⟨rfl, rfl, rfl, rfl, id⟩ id p)

theorem judgeClose {c : Ctx} {f : InFrame} (opened : (s.inCtx c).state = .open) (p : P s) : P (judgeClose c f s) := by
  unfold Machine.judgeClose
  dsimp only
  split_ifs
  · exact p
  · exact h.refuseClose p
  · exact h.refuseClose p
  · exact h.startCommit opened p

theorem takeClose {f : InFrame} (p : P s) : P (takeClose f s) := by
  unfold Machine.takeClose
  split
  · exact h.handControl p
  · split
    · next opened => exact h.judgeClose (by rw [Machine.touch, State.updateIn, State.inCtx_setInCtx, if_pos rfl]; exact opened) (h.touch p)
    · exact h.sendClosed p
    · exact p
    · exact p

/-! ### Frames and requests of the receiving side -/

theorem takenOpen {act : Ctx → InFrame → State → State} {f : InFrame} (keeps : ∀ c {t : State}, P t → P (act c f t)) (p : P s) : P (takenOpen act f s) := by
  unfold Machine.takenOpen
  split
  · split
    · exact keeps _ (h.touch p)
    · exact p
  · exact p

theorem reqGiveRuns {r : RingNo} {tag : Nat} {x : GiveRunsParams} {runs : List Run} (p : P s) : P (reqGiveRuns r tag x runs s) := by
  unfold Machine.reqGiveRuns
  refine h.gated (fun _ => h.checked (fun _ => h.checked (fun passed => h.reply (h.calmReplVol rfl (fun _ => ?_) p)) p) p) p
  have room := firstFailure_eq_none.1 passed (decide (Config.maxPool < (s.replVol (toVol x.volume)).pool.length + runs.length), .poolFull) (by simp)
  exact List.length_append.trans_le (Nat.not_lt.1 (of_decide_eq_false room))

theorem reqReplicaReset {r : RingNo} {tag n : Nat} (accepts : s.resetRefused (toVol n) = false → P (Machine.resetAccept r tag (toVol n) s)) (p : P s) :
    P (reqReplicaReset r tag n s) := by
  unfold Machine.reqReplicaReset
  refine h.gated (fun _ => h.checked (fun passed => h.reply (accepts ?_)) p) p
  exact firstFailure_eq_none.1 passed (s.resetRefused (toVol n), .busy) (by simp)

theorem reqQueryInbound {r : RingNo} {tag n : Nat} (p : P s) : P (reqQueryInbound r tag n s) := by
  unfold Machine.reqQueryInbound
  refine h.gated (fun _ => ?_) p
  split
  · exact h.refuse p
  · exact h.reply p

/-! ### Requests, frames and timers of the sending side -/

theorem runStartAccept {r : RingNo} {tag : Nat} {x : RunStartParams} (p : P s) : P (runStartAccept r tag x s) := by
  unfold Machine.runStartAccept
  refine h.setDs id ?_
  split
  · exact p
  · exact h.placeTarget p

theorem reqRunStart {r : RingNo} {tag : Nat} {x : RunStartParams} (p : P s) : P (reqRunStart r tag x s) := by
  unfold Machine.reqRunStart
  exact h.gated (fun _ => h.checked (fun _ => h.reply (h.runStartAccept p)) p) p

theorem reqRunCancel {r : RingNo} {tag n : Nat} (p : P s) : P (reqRunCancel r tag n s) := by
  unfold Machine.reqRunCancel
  refine h.gated (fun _ => ?_) p
  split
  · exact h.answer (h.reply (h.releaseQueued (h.unqueue p)))
  · split
    · exact h.reply (h.endRun p)
    · exact h.refuse p

theorem queuedOrNone {r : RingNo} {tag : Nat} {q : Request} {v : Vol} (p : P s) : P (Machine.reqQueryRun.queuedOrNone r tag q v s) := by
  unfold Machine.reqQueryRun.queuedOrNone
  split
  · exact h.reply p
  · exact h.reply p

theorem reqQueryRun {r : RingNo} {tag n : Nat} (p : P s) : P (reqQueryRun r tag n s) := by
  unfold Machine.reqQueryRun
  refine h.gated (fun _ => ?_) p
  split
  · split
    · exact h.reply p
    · exact h.queuedOrNone p
  · exact h.queuedOrNone p

theorem adoptBase {x : OutRun} {n : Nat} (p : P s) : P (adoptBase x n s) := h.sendOffer (h.setActive (h.moveBase p))
theorem putOnWire {f : OutFrame} (p : P s) : P (putOnWire f s) := h.setLc id p

theorem controlLeft {f : OutFrame} (p : P s) : P (controlLeft f s) := by
  unfold Machine.controlLeft
  split
  · split_ifs
    · exact h.setActive p
    · exact h.setActive p
    · exact p
    · exact p
  · exact p

theorem batchLeft {f : OutFrame} (p : P s) : P (batchLeft f s) := by
  unfold Machine.batchLeft
  split
  · split
    · exact h.restartTimer p
    · exact p
  · exact p

theorem linkDown (p : P s) : P (linkDown s) :=
  h.abortAll (h.endRun (h.setDs id (h.raise (h.setLc (fun _ => ⟨Nat.zero_le _, fun _ => ⟨rfl, rfl⟩⟩) p))))

theorem reqQueryPeer {r : RingNo} {tag n : Nat} (p : P s) : P (reqQueryPeer r tag n s) := by
  unfold Machine.reqQueryPeer
  refine h.gated (fun _ => ?_) p
  split
  · exact h.reply p
  · exact h.reply (h.setLc id p)

end Quiet
end

section
variable {R : Ps → Ps → Prop} {P : State → Prop} (h : Kept R P) {s : State}
include h

namespace Kept

/-! ### Close, commit and rollback -/

theorem moveCursor {c : Ctx} {n : Nat} (p : P s) : P (moveCursor c n s) := h.setInCtx p

theorem removeReleased {e : Extent} {t : State} (removed : (Machine.releaseAppend e.volume e.run s).map (Machine.removeLive e) = some t) (p : P s) : P t := by
  obtain ⟨u, appended, rfl⟩ := Option.map_eq_some_iff.1 removed
  exact h.removeLive (h.removeExtent (h.releaseAppend appended p))

theorem commitRecord {c : Ctx} {e : Extent} {t : State} (decided : commitRecord c e s = some t) (p : P s) : P t := by
  unfold Machine.commitRecord at decided
  split at decided
  · exact Option.some.inj decided ▸ h.holdRecord (h.updateExtent p)
  · exact h.removeReleased decided p

theorem commitEnd {c : Ctx} (p : P s) : P (commitEnd c s) := by
  unfold Machine.commitEnd
  exact h.setInCtx (h.raise (h.sendClosed (h.setReplVol id (h.autoTrimAgain (h.setVol (h.moveBase (h.setSnapVol id
    (h.setExtents (List.length_map _).trans_le p))))))))

theorem commitVisit {c : Ctx} {e : Extent} (p : P s) : P (commitVisit c e s) := by
  unfold Machine.commitVisit
  split
  · split
    · next decided => exact h.moveCursor (h.commitRecord decided p)
    · exact h.producerWait (h.moveCursor p)
  · exact h.moveCursor p

theorem rollbackVisit {c : Ctx} {e : Extent} (p : P s) : P (rollbackVisit c e s) := by
  unfold Machine.rollbackVisit
  dsimp only
  split_ifs
  · split
    · next removed => exact h.moveCursor (h.removeReleased removed p)
    · exact h.producerWait (h.moveCursor p)
  · exact h.moveCursor (h.updateExtent p)
  · exact h.moveCursor p

theorem rollbackWalked {c : Ctx} (p : P s) : P (rollbackWalked c s) := by
  unfold Machine.rollbackWalked
  split
  · exact h.setInCtx p
  · exact h.setInCtx (h.raise p)

/-! ### REPLICA_RESET -/

theorem resetSnapshots {v : Vol} (p : P s) : P (resetSnapshots v s) :=
  h.setVol (List.foldlRecOn _ _ (h.setSnapVol id (h.producerLeave p)) fun _ p _ _ => h.reportTrim p)

theorem resetEnd {v : Vol} {j : ResetJob} (p : P s) : P (resetEnd v j s) := h.answerIf (h.setReplVol id p)

theorem resetEmpty {v : Vol} {j : ResetJob} (p : P s) : P (resetEmpty v j s) := by
  unfold Machine.resetEmpty
  dsimp only
  have emptied := h.setExtents (List.length_filter_le (fun e => decide (e.volume ≠ v)) (Machine.resetSnapshots v s).extents).trans (h.resetSnapshots p)
  split
  · exact h.resetEnd (h.setReplVol id (h.refundAccount (h.refundAccount emptied)))
  · exact h.setReplVol id (h.refundAccount (h.refundAccount emptied))

theorem resetAppend {v : Vol} {j : ResetJob} {t : State} (e : resetAppend v j s = some t) (p : P s) : P t := by
  unfold Machine.resetAppend at e
  split at e
  · exact Option.some.inj e ▸ h.resetEnd p
  · obtain ⟨u, appended, rfl⟩ := Option.map_eq_some_iff.1 e
    split
    · exact h.resetEnd (h.releaseAppend appended p)
    · exact h.setReplVol id (h.releaseAppend appended p)

/-! ### Frames and requests of the receiving side -/

theorem resetAccept {r : RingNo} {tag : Nat} {v : Vol} (p : P s) : P (resetAccept r tag v s) := by
  unfold Machine.resetAccept
  dsimp only
  split
  · exact h.abortCtx (h.setReplVol id p)
  · exact h.setReplVol id p

theorem reqReplicaReset {r : RingNo} {tag n : Nat} (p : P s) : P (reqReplicaReset r tag n s) := h.toQuiet.reqReplicaReset (fun _ => h.resetAccept p) p

end Kept
end

end Sys2Proof.Machine
end

section
/-! What keeps a predicate of `Quiet`, `Steady` or `Kept`: restores and probes, the mover's steps and faults, the taking of released runs, and the policy store. -/

namespace Sys2Proof.Machine

/-! ### Pieces -/

theorem length_found_le (x : RestoreCtx) (o : Option Extent) {places : Nat} (room : 1 ≤ places) : (x.found o places).length ≤ places := by
  unfold RestoreCtx.found
  split
  · exact room
  · split
    · split
      · next two => exact two
      · exact room
    · exact room

theorem length_pieceRecords (x : RestoreCtx) (birth : Nat) (gs : List Run) : ∀ o, (x.pieceRecords birth o gs).length = gs.length := by
  induction gs with
  | nil => exact fun _ => rfl
  | cons g gs ih => exact fun o => congrArg (· + 1) (ih _)

/-! ### The contexts through a change of the table -/

theorem foldl_addExtent_restoreCtx (es : List Extent) (s : State) (c : Ctx) : (es.foldl (fun t e => t.addExtent e) s).restoreCtx c = s.restoreCtx c :=
  List.foldlRecOn (motive := fun t : State => t.restoreCtx c = s.restoreCtx c) es _ rfl fun _ same _ _ => same

theorem foldl_removeExtent_restoreCtx (gs : List Run) (v : Vol) (s : State) (c : Ctx) :
    (gs.foldl (fun t g => t.removeExtent v g.first) s).restoreCtx c = s.restoreCtx c :=
  List.foldlRecOn (motive := fun t : State => t.restoreCtx c = s.restoreCtx c) gs _ rfl fun _ same _ _ => same

theorem foldl_updateExtent_restoreCtx (gs : List Run) (v : Vol) (f : Extent → Extent) (s : State) (c : Ctx) :
    (gs.foldl (fun t g => t.updateExtent v g.first f) s).restoreCtx c = s.restoreCtx c :=
  List.foldlRecOn (motive := fun t : State => t.restoreCtx c = s.restoreCtx c) gs _ rfl fun _ same _ _ => same

theorem RestoreCtx.calm_of_flight {x y : RestoreCtx} (volume : y.volume = x.volume) (flight : y.flight = x.flight) : x.calm y :=
  fun _ flying _ => ⟨volume, flight ▸ flying⟩

section
variable {R : Ps → Ps → Prop} {O : State → Vol → Prop} {P : State → Prop} (h : Quiet R O P) {s : State}
include h

namespace Quiet

/-! ### The ends of a restore -/

theorem leaveGate {c : Ctx} (p : P s) : P (leaveGate c s) := h.setGateOrder p

theorem endCtx {c : Ctx} (p : P s) : P (endCtx c s) :=
  h.releaseRestoreHold (h.calmRestoreCtx (fun _ made => nomatch made) (fun _ => Nat.zero_le _) (h.leaveGate (h.withdraw p)))

theorem freeContext {c : Ctx} (p : P s) : P (freeContext c s) :=
  h.calmRestoreCtx (fun _ made => nomatch made) (fun _ => Nat.zero_le _) p

theorem endWith {c : Ctx} {a : Answer} (p : P s) : P (endWith c a s) := by
  unfold Machine.endWith
  dsimp only
  split
  · exact h.freeContext (h.answerDue (h.endCtx p))
  · exact h.answerDue (h.endCtx p)

theorem endRestore {c : Ctx} {st : Status} {n : Nat} (p : P s) : P (endRestore c st n s) := h.endWith p
theorem endProbe {c : Ctx} {st : Status} (p : P s) : P (endProbe c st s) := h.endWith p

theorem continueRestore {c : Ctx} (p : P s) : P (continueRestore c s) := by
  unfold Machine.continueRestore
  dsimp only
  split_ifs
  · exact p
  · exact h.endRestore p
  · exact h.endRestore p
  · exact h.calmRestoreCtx (RestoreCtx.calm_of_flight rfl rfl) id p
  · exact p

theorem continueProbe {c : Ctx} (p : P s) : P (continueProbe c s) := by
  unfold Machine.continueProbe
  dsimp only
  split_ifs
  · exact p
  · exact h.endProbe p
  · exact h.endProbe p
  · exact p

theorem ctxReleased {o : AnswerOwner} (p : P s) : P (ctxReleased o s) := by
  unfold Machine.ctxReleased
  split
  · exact h.calmRestoreCtx (RestoreCtx.calm_of_flight rfl rfl) id p
  · next c =>
    have taken : P (s.updateCtx c fun x => { x with stepDue := false }) := h.calmRestoreCtx (RestoreCtx.calm_of_flight rfl rfl) id p
    dsimp only
    split
    · exact h.continueProbe taken
    · exact h.continueRestore taken
  · exact h.freeContext p
  · exact p

theorem stepAnswer {c : Ctx} {a : Answer} (p : P s) : P (stepAnswer c a s) := by
  unfold Machine.stepAnswer
  dsimp only
  split
  · exact h.ctxReleased (h.answerDue p)
  · exact h.calmRestoreCtx (RestoreCtx.calm_of_flight rfl rfl) id (h.answerDue p)

/-! ### The search and the pieces -/

theorem searchStep {c : Ctx} (may : (s.restoreCtx c).maySearch = true) (p : P s) : P (searchStep c s) := by
  refine h.calmRestoreCtx (RestoreCtx.calm_of_flight rfl rfl) (fun _ => ?_) p
  simp only [RestoreCtx.maySearch, Bool.and_eq_true, decide_eq_true_iff] at may
  have found := length_found_le (s.restoreCtx c) (earliest (s.extents.filter (s.restoreCtx c).wants)) (places := Config.maxPlan - (s.restoreCtx c).plan.length)
    (Nat.sub_pos_of_lt may.2)
  rw [List.length_append]
  omega

theorem afterPiece {c : Ctx} {k : Nat} {x : Piece} (p : P s) : P (afterPiece c k x s) := by
  unfold Machine.afterPiece
  dsimp only
  split
  · exact h.stepAnswer p
  · exact h.continueRestore p

theorem mapPiece {c : Ctx} {x : Piece} {rest : List Piece} (plan : (s.restoreCtx c).plan = x :: rest) (p : P s) : P (mapPiece c x rest s) := by
  refine h.setGateOrder (h.calmRestoreCtx (fun f mapped made => ?_) (fun few => ?_) p)
  · obtain rfl := Option.some.inj mapped
    exact nomatch made
  rw [plan] at few
  dsimp only
  split
  · exact few
  · exact (Nat.le_succ _).trans few

theorem skipHole {c : Ctx} {x : Piece} {rest : List Piece} (plan : (s.restoreCtx c).plan = x :: rest) (p : P s) : P (skipHole c x rest s) := by
  refine h.afterPiece (h.calmRestoreCtx (RestoreCtx.calm_of_flight rfl rfl) (fun few => ?_) p)
  rw [plan] at few
  exact (Nat.le_succ _).trans few

/-! ### The requests of restores -/

theorem acceptedAnswer {c : Ctx} (p : P s) : P (acceptedAnswer c s) := by
  unfold Machine.acceptedAnswer
  dsimp only
  split
  · exact h.answerDue p
  · exact h.calmRestoreCtx (RestoreCtx.calm_of_flight rfl rfl) id (h.answerDue p)

theorem takeContext {c : Ctx} {x : RestoreCtx} (fresh : x.plan = []) (none : x.flight = none) (p : P s) : P (takeContext c x s) :=
  h.acceptedAnswer (h.calmRestoreCtx (fun f made => by rw [none] at made; exact nomatch made) (fun _ => by rw [fresh]; exact Nat.zero_le _) (h.placeRestoreHold p))

theorem restoreRead {r : RingNo} {tag : Nat} {x : RestoreParams} {runs : List Run} (p : P s) : P (restoreRead r tag x runs s) := by
  unfold Machine.restoreRead
  dsimp only
  split
  · exact h.refuse p
  · refine h.checked (fun _ => ?_) p
    split
    · exact h.reply p
    · refine h.checked (fun _ => ?_) p
      split
      · exact h.takeContext rfl rfl p
      · exact p

theorem reqRestore {r : RingNo} {tag : Nat} {x : RestoreParams} {runs : List Run} (p : P s) : P (reqRestore r tag x runs s) :=
  h.gated (fun _ => h.restoreRead p) p

theorem reqProbe {r : RingNo} {tag : Nat} {x : ProbeParams} (p : P s) : P (reqProbe r tag x s) := by
  unfold Machine.reqProbe
  refine h.gated (fun _ => h.checked (fun _ => ?_) p) p
  split
  · exact h.takeContext rfl rfl p
  · exact p

theorem cancelContext {c : Ctx} (p : P s) : P (cancelContext c s) := by
  unfold Machine.cancelContext
  dsimp only
  split_ifs
  · exact h.endProbe p
  · exact h.endRestore p
  · exact h.calmRestoreCtx (RestoreCtx.calm_of_flight rfl rfl) id p

theorem reqCancelRestore {r : RingNo} {tag n : Nat} (p : P s) : P (reqCancelRestore r tag n s) := by
  unfold Machine.reqCancelRestore
  refine h.gated (fun _ => ?_) p
  dsimp only
  split
  · exact h.refuse p
  · exact List.foldlRecOn _ _ (h.reply p) fun _ p _ _ => h.cancelContext p

theorem probeWritten {c : Ctx} {x : Piece} {rest : List Piece} (plan : (s.restoreCtx c).plan = x :: rest) (p : P s) : P (probeWritten c x rest s) := by
  have written : P ((s.writeBytes ((s.restoreCtx c).buffer + 24 * (s.restoreCtx c).written) (pieceBytes x)).setRestoreCtx c
      { s.restoreCtx c with plan := rest, written := (s.restoreCtx c).written + 1 }) := by
    refine h.calmRestoreCtx ?_ (fun few => ?_) (h.writeBytes p)
    · rw [State.writeBytes, State.setMem_restoreCtx]
      exact RestoreCtx.calm_of_flight rfl rfl
    rw [State.writeBytes, State.setMem_restoreCtx, plan] at few
    exact (Nat.le_succ _).trans few
  unfold Machine.probeWritten
  dsimp only
  split
  · exact h.stepAnswer written
  · exact h.continueProbe written

/-! ### The mover's steps -/

theorem handEnd {n : Nat} {d : Digest} (p : P s) : P (handEnd n d s) := by
  unfold Machine.handEnd
  split
  · split
    · exact h.handBatch p
    · exact p
  · exact p

theorem shipComplete {u : MoverUnit} (p : P s) : P (shipComplete u s) := by
  unfold Machine.shipComplete
  split
  · exact p
  · exact h.handEnd (h.setDs id p)

theorem setUnit {u : MoverUnit} (p : P s) : P (setUnit u s) := h.setDm p

theorem slotPiece {u : MoverUnit} {bs : List Byte} (up : s.lc.up = true) (p : P s) : P (slotPiece u bs s) := by
  unfold Machine.slotPiece
  split
  · split
    · exact h.setLc (fun ok => ⟨ok.1, fun down => by simp [up] at down⟩) p
    · exact p
  · exact p

theorem reqQueryMover {r : RingNo} {tag n : Nat} (p : P s) : P (reqQueryMover r tag n s) := by
  unfold Machine.reqQueryMover
  refine h.gated (fun _ => ?_) p
  split
  · exact h.refuse p
  · dsimp only
    split
    · exact h.reply p
    · exact h.reply p

theorem clearFault {k : MoverClass} (p : P s) : P (clearFault k s) := by
  unfold Machine.clearFault
  dsimp only
  split
  · exact h.setDs id (h.setFaultRec p)
  · exact h.setFaultRec p

theorem reqFaultClear {r : RingNo} {tag n : Nat} (p : P s) : P (reqFaultClear r tag n s) := by
  unfold Machine.reqFaultClear
  refine h.gated (fun _ => ?_) p
  split
  · exact h.refuse p
  · split
    · exact h.reply (h.clearFault p)
    · exact h.reply p

/-! ### TAKE_RELEASED and the waiting producers -/

theorem reqTakeReleased {r : RingNo} {tag : Nat} {x : TakeReleasedParams} (p : P s) : P (reqTakeReleased r tag x s) := by
  unfold Machine.reqTakeReleased
  refine h.gated (fun _ => h.checked (fun _ => ?_) p) p
  dsimp only
  split
  · exact h.reply p
  · exact h.calmSnapVol ⟨rfl, rfl, rfl, rfl, id⟩ id p

/-! ### The policy store -/

theorem setVolumeAccounts {v : Vol} {d : VolumeDef} (p : P s) : P (setVolumeAccounts v d s) := by
  unfold Machine.setVolumeAccounts
  split <;> exact h.setAccount (h.setAccount p)

theorem takeLink {b : Bool} {x : Ps} {n : Nat} (p : P s) : P (takeLink b x n s) := h.setLc id p
theorem takeSettings {x : Ps} {n : Nat} (p : P s) : P (takeSettings x n s) := h.reexamine (h.setDs id p)

theorem reqApplyDefinitions {r : RingNo} {tag : Nat} (takes : P (Machine.applyAccept s)) (p : P s) : P (reqApplyDefinitions r tag s) := by
  unfold Machine.reqApplyDefinitions
  refine h.gated (fun _ => ?_) p
  split
  · refine h.refuse ?_
    split
    · exact h.setFree p
    · exact p
  · exact h.reply takes

theorem reqStoreVerify {r : RingNo} {tag : Nat} (p : P s) : P (reqStoreVerify r tag s) := by
  unfold Machine.reqStoreVerify
  refine h.gated (fun _ => ?_) p
  split
  · exact h.refuse p
  · exact h.reply p

theorem reqStoreRead {r : RingNo} {tag : Nat} {x : StoreReadParams} (p : P s) : P (reqStoreRead r tag x s) := by
  unfold Machine.reqStoreRead
  refine h.gated (fun _ => ?_) p
  split
  · exact h.refuse p
  · exact h.reply (h.writeBytes p)

theorem reqStoreStage {r : RingNo} {tag : Nat} {x : StoreStageParams}
    (staged : storeStageOk x = true → R s.ps { s.ps with staging := putBytes s.ps.staging x.offset (x.data.take x.count) }) (p : P s) :
    P (reqStoreStage r tag x s) := by
  unfold Machine.reqStoreStage
  refine h.gated (fun inRange => ?_) p
  split
  · exact h.refuse p
  · exact h.reply (h.setPs (staged inRange) p)

theorem reqStoreCommit {r : RingNo} {tag : Nat} {x : StoreCommitParams}
    (begun : ∀ op, x.page ≤ 63 → R s.ps { s.ps with commit := some ⟨x.page, op, some (r, tag)⟩ }) (p : P s) : P (reqStoreCommit r tag x s) := by
  unfold Machine.reqStoreCommit
  refine h.gated (fun inRange => ?_) p
  rw [Bool.and_eq_true, decide_eq_true_iff] at inRange
  split
  · exact h.refuse p
  · exact h.checked (fun _ => h.reply (h.setPs (begun _ inRange.1) p)) p

theorem commitOver {c : Commit} {l : List (Nat × Byte)} (done : R s.ps (s.ps.committed c (readBack (commitBytes s.ps c) l))) (p : P s) :
    P (commitOver c l s) := h.answerIf (h.setPs done p)

theorem cancelQueued (p : P s) : P (cancelQueued s) :=
  List.foldlRecOn _ _ (h.setDs id p) fun _ p _ _ => h.answer (h.releaseQueued p)

theorem formatAccounts (p : P s) : P (formatAccounts s) := List.foldlRecOn _ _ (h.setQu p) fun _ p _ _ => h.setVolumeAccounts p

end Quiet
end

section
variable {R : Ps → Ps → Prop} {O : State → Vol → Prop} {P : State → Prop} (h : Steady R O P) {s : State}
include h

namespace Steady

/-! ### The search and the pieces -/

/-- The records of a piece leave one after another while its context keeps it in flight. -/
theorem removeFlight {c : Ctx} {f : Flight} (flying : f ∈ (s.restoreCtx c).flight) (made : f.created = true) (p : P s) :
    P (f.segs.foldl (fun t g => t.removeExtent (s.restoreCtx c).volume g.first) s) := by
  refine (List.foldlRecOn (motive := fun t : State => P t ∧ t.restoreCtx c = s.restoreCtx c) f.segs _ ⟨p, rfl⟩ fun t both g mem => ?_).1
  obtain ⟨kept, same⟩ := both
  have one := h.unmake (s := t) (c := c) (same ▸ flying) made mem kept
  rw [same] at one
  exact ⟨one, same⟩

theorem undoPiece {c : Ctx} {f : Flight} (flying : f ∈ (s.restoreCtx c).flight) (made : f.created = true) (p : P s) : P (undoPiece c f s) := by
  unfold Machine.undoPiece
  refine h.gateLook (onOwnerGroup_keeps (fun _ => h.refundAccount) ?_)
  exact h.calmRestoreCtx (fun _ made => nomatch made) (congrArg (·.plan.length) (foldl_removeExtent_restoreCtx ..)).symm.trans_le (h.removeFlight flying made p)

theorem faultRestore {c : Ctx} (p : P s) : P (faultRestore c s) := by
  unfold Machine.faultRestore
  split
  · next f flying =>
    refine h.endRestore ?_
    split
    · next made => exact h.undoPiece flying made p
    · exact p
  · exact h.endRestore p

theorem createPiece {c : Ctx} {f : Flight} (makes : s.tableRoom f.segs.length = true → P (Machine.makePiece c f s)) (p : P s) : P (createPiece c f s) := by
  unfold Machine.createPiece
  dsimp only
  split
  · exact h.endRestore p
  · next passed =>
    have room : s.tableRoom f.segs.length = true := by
      unfold pieceRefusal at passed
      split_ifs at passed with _ full
      exact Bool.eq_true_of_not_eq_false full
    split
    · next asked => exact h.askUnit asked (makes room)
    · exact h.faultRestore (makes room)

theorem pieceEnd {c : Ctx} (p : P s) : P (pieceEnd c s) := by
  unfold Machine.pieceEnd
  dsimp only
  split
  · exact p
  · next f _ =>
    have cleared := List.foldlRecOn f.segs (fun t g => t.updateExtent (s.restoreCtx c).volume g.first fun e => { e with filling := false }) p
      fun _ p _ _ => h.fill p
    refine h.afterPiece (h.gateLook ?_)
    exact h.calmRestoreCtx (fun _ made => nomatch made) (congrArg (·.plan.length) (foldl_updateExtent_restoreCtx ..)).symm.trans_le cleared

theorem faultRestores (p : P s) : P (faultRestores s) := by
  refine List.foldlRecOn _ _ p fun t p c _ => ?_
  split
  · exact h.faultRestore p
  · exact p

/-! ### The mover's steps -/

theorem tellComplete {u : MoverUnit} (p : P s) : P (tellComplete u s) := by
  unfold Machine.tellComplete
  split
  · exact h.pieceEnd p
  · exact h.shipComplete p
  · exact h.landComplete p
  · exact p

theorem tellFault {u : MoverUnit} (p : P s) : P (tellFault u s) := by
  unfold Machine.tellFault
  split
  · exact h.faultRestores (h.faultRestore p)
  · exact h.endRun p
  · exact h.abortAll (h.landGone p)
  · exact p

theorem faultClass {u : MoverUnit} {f : FaultRec} (p : P s) : P (faultClass u f s) := h.grantNext (h.tellFault (h.raise (h.setDm (h.setFaultRec p))))

end Steady
end

section
variable {R : Ps → Ps → Prop} {P : State → Prop} (h : Kept R P) {s : State}
include h

namespace Kept

/-! ### The search and the pieces -/

theorem makePiece {c : Ctx} {f : Flight} (room : s.tableRoom f.segs.length = true) (p : P s) : P (makePiece c f s) := by
  unfold Machine.makePiece
  refine onOwnerGroup_keeps (fun _ => h.chargeAccount) ?_
  have added := h.addExtents (es := (s.restoreCtx c).pieceRecords ((s.vol (s.restoreCtx c).volume).epoch.getD 0) ((s.restoreCtx c).targetOffset f.piece) f.segs)
    (by rw [length_pieceRecords]; exact of_decide_eq_true room) p
  exact h.setRestoreCtx (fun few => (congrArg (·.plan.length) (foldl_addExtent_restoreCtx _ s c)).symm.trans_le few) (h.leaveGate added)

/-! ### TAKE_RELEASED and the waiting producers -/

theorem retryProducer {v : Vol} {x : Producer} {t : State} (e : retryProducer v x s = some t) (p : P s) : P t := by
  unfold Machine.retryProducer at e
  split at e
  · exact h.trimRetry e p
  · unfold commitRetry at e
    split at e
    · obtain ⟨u, decided, rfl⟩ := Option.map_eq_some_iff.1 e
      exact h.moveCursor (h.commitRecord decided p)
    · exact Option.some.inj e ▸ p
  · unfold rollbackRetry at e
    split at e
    · obtain ⟨u, removed, rfl⟩ := Option.map_eq_some_iff.1 e
      exact h.moveCursor (h.removeReleased removed p)
    · exact Option.some.inj e ▸ p
  · unfold resetRetry at e
    split at e
    · exact h.resetAppend e p
    · exact Option.some.inj e ▸ p

theorem retryOne {v : Vol} {x : Producer} (p : P s) : P (retryOne v s x) := by
  unfold Machine.retryOne
  split
  · next retried => exact h.producerLeave (h.retryProducer retried p)
  · exact p

theorem retryProducers {v : Vol} (p : P s) : P (retryProducers v s) := List.foldlRecOn _ _ p fun _ p _ _ => h.retryOne p

theorem takeComplete {v : Vol} {x : Taking} (p : P s) : P (takeComplete v x s) := by
  unfold Machine.takeComplete
  refine h.retryProducers (h.answer (h.setSnapVol (fun few => ?_) (h.writeBytes p)))
  rw [State.writeBytes, State.setMem_snapVol] at few
  exact (List.length_drop.trans_le (Nat.sub_le ..)).trans few

/-! ### The policy store -/

theorem takeDefinition {v : Vol} {d : VolumeDef} (p : P s) : P (takeDefinition v d s) := by
  unfold Machine.takeDefinition
  refine h.setVolumeAccounts (h.setVol ?_)
  split
  · exact h.setReplVol (fun _ => Nat.zero_le _) p
  · exact p

theorem takeAllDefinitions {n : Nat} (p : P s) : P (takeAllDefinitions n s) :=
  h.takeSettings (h.takeLink (List.foldlRecOn _ _ p fun _ p _ _ => h.takeDefinition p))

theorem applyAccept (p : P s) : P (applyAccept s) := by
  refine h.takeSettings (h.takeLink (List.foldlRecOn _ _ p fun _ p _ _ => ?_))
  split
  · exact h.takeDefinition p
  · exact p

theorem reqApplyDefinitions {r : RingNo} {tag : Nat} (p : P s) : P (reqApplyDefinitions r tag s) := h.toQuiet.reqApplyDefinitions (h.applyAccept p) p

end Kept
end

end Sys2Proof.Machine
end

section
/-! What keeps a predicate of `Quiet` or `Kept`: FORMAT, the rings, the requests and the resets. -/

namespace Sys2Proof.Machine

/-! ### The changes of the policy store -/

/-- The commands that may take a request from a ring, and STORE_STAGE as a command of its own. -/
def mayStage : Instr → Bool
  | .storeStage .. => true
  | .requestIntake _ => true
  | _ => false

/-- The changes that a command may make to the policy store. -/
inductive PsChange : Instr → Ps → Ps → Prop
  | staged {c : Instr} {x : Ps} {p : StoreStageParams} (may : mayStage c = true) (inRange : storeStageOk p = true) :
      PsChange c x { x with staging := putBytes x.staging p.offset (p.data.take p.count) }
  | begun {c : Instr} {x : Ps} {j : Commit} (inRange : j.page ≤ 63) : PsChange c x { x with commit := some j }
  | ended {x : Ps} {j : Commit} {l : List (Nat × Byte)} (commit : x.commit = some j) :
      PsChange (.storeCommitEnd l) x (x.committed j (readBack (commitBytes x j) l))
  | format {c : Instr} {x : Ps} {j : Option FormatJob} : PsChange c x { x with format := j }
  | safe {x : Ps} : PsChange .formatEnd x { x with safe := false }
  | silenced {c : Instr} {x : Ps} : PsChange c x x.silenced

/-- The requests that do more than quiet updates keep `P` in the state `s`. -/
structure Requests (P : State → Prop) (s : State) : Prop where
  charge : ∀ r tag x, P (reqCharge r tag x s)
  split : ∀ r tag x, P (reqSplit r tag x s)
  drop : ∀ r tag x, P (reqDrop r tag x s)
  loadSnapshot : ∀ r tag x, P (reqLoadSnapshot r tag x s)
  loadExtent : ∀ r tag x, P (reqLoadExtent r tag x s)
  openVolume : ∀ r tag x, P (reqOpenVolume r tag x s)
  replicaReset : ∀ r tag n, P (reqReplicaReset r tag n s)
  applyDefinitions : ∀ r tag, P (reqApplyDefinitions r tag s)
  format : ∀ r tag, P (reqFormat r tag s)

section
variable {R : Ps → Ps → Prop} {O : State → Vol → Prop} {P : State → Prop} (h : Quiet R O P) {s : State}
include h

namespace Quiet

/-! ### FORMAT -/

theorem reqFormat {r : RingNo} {tag : Nat} (accepts : s.formatBusy = false → P (Machine.formatAccept r tag s)) (p : P s) : P (reqFormat r tag s) := by
  unfold Machine.reqFormat
  refine h.gated (fun _ => ?_) p
  split
  · exact h.refuse p
  · split
    · exact h.refuse p
    · next free => exact h.reply (accepts (Bool.eq_false_iff.2 free))

theorem leaveSafe (safe : ∀ {x : Ps}, R x { x with safe := false })
    (takes : s.ps.safe = true → ∀ n k, P (Machine.takeAllDefinitions n (s.setFree k))) (p : P s) : P (leaveSafe s) := by
  unfold Machine.leaveSafe
  split
  · next inSafe =>
    dsimp only
    split
    · refine h.setPs safe ?_
      split
      · exact takes inSafe _ _
      · exact takes inSafe _ s.free
    · split
      · exact h.setFree p
      · exact p
  · exact p

/-! ### Rings -/

theorem releaseOwner {o : AnswerOwner} (p : P s) : P (releaseOwner o s) := by
  unfold Machine.releaseOwner
  split
  · exact p
  · exact h.runHandedOn p
  · exact h.ctxReleased p

theorem quietRing {r : RingNo} {st : RingState} {cause : RingCause} (quiet : st = .disabled ∨ (s.ring r).state ≠ .disabled) (p : P s) :
    P (quietRing r st cause s) :=
  List.foldlRecOn _ _ (h.setRing (Ring.ok_quiet quiet) p) fun _ p _ _ => h.releaseOwner p

theorem faultRing {r : RingNo} {cause : RingCause} (p : P s) : P (faultRing r cause s) := by
  unfold Machine.faultRing
  split
  · exact p
  · exact p
  · next running _ => exact h.quietRing (.inr running) p

theorem writeAnswerSize {r : RingNo} {n : Nat} (p : P s) : P (writeAnswerSize r n s) := by
  unfold Machine.writeAnswerSize
  dsimp only
  split
  · exact h.setRing id p
  · exact h.setRing id p
  · next notEnabled notStalled =>
    split
    · next good => exact h.setRing (fun _ => Ring.ok_enabledWith good) p
    · refine h.setRing (fun ok => ?_) p
      obtain ⟨holder, -, quiet, -⟩ := ok
      have held := quiet (by cases state : (s.ring r).state <;> simp_all)
      exact ⟨holder, fun _ => held.2, fun _ => held, fun running => (running rfl).elim⟩

theorem disableRing {r : RingNo} (p : P s) : P (disableRing r s) := h.quietRing (.inl rfl) (h.setRing id p)

theorem writeRequestSize {r : RingNo} {n : Nat} (p : P s) : P (writeRequestSize r n s) := by
  unfold Machine.writeRequestSize
  split
  · exact h.disableRing p
  · exact h.setRing id p

theorem writeTail {r : RingNo} {n : Nat} (p : P s) : P (writeTail r n s) := by
  unfold Machine.writeTail
  dsimp only
  split
  · exact p
  · split
    · next inside =>
      refine h.setRing (fun ok => ?_) p
      obtain ⟨holder, enabled, quiet, pointers⟩ := ok
      refine ⟨holder, enabled, quiet, fun running => ?_⟩
      obtain ⟨setup, -, head, consumed, posted⟩ := pointers running
      exact ⟨setup, inside, head, consumed, posted⟩
    · exact h.faultRing p

theorem writeHeld {r : RingNo} {t : State} (e : drainMove.writeHeld r s (s.ring r) = some t) (p : P s) : P t := by
  unfold drainMove.writeHeld at e
  split at e
  · next a rest held =>
    split at e
    · injection e with e
      subst e
      refine h.writeAnswer (h.setRing (fun ok => ?_) p)
      obtain ⟨holder, enabled, quiet, pointers⟩ := ok
      rw [held] at holder quiet
      exact ⟨(Nat.le_succ _).trans holder, enabled, fun off => absurd (quiet off).1 (by simp), pointers⟩
    · exact nomatch e
  · exact nomatch e

theorem drainMove {r : RingNo} {t : State} (e : drainMove r s = some t) (p : P s) : P t := by
  unfold Machine.drainMove at e
  dsimp only at e
  split at e
  · next d rest waiting =>
    split at e
    · next space =>
      injection e with e
      subst e
      refine h.releaseOwner (h.setRing (fun ok => ?_) p)
      obtain ⟨-, enabled, quiet, pointers⟩ := ok
      rw [waiting] at enabled quiet
      exact ⟨List.length_append.trans_le space, fun on => absurd (enabled on) (by simp),
        fun off => absurd (quiet off).2 (by simp), pointers⟩
    · exact h.writeHeld e p
  · exact h.writeHeld e p

theorem drainMoves {r : RingNo} {n : Nat} : ∀ {s : State}, P s → P (drainMoves n r s) := by
  induction n with
  | zero => exact id
  | succ n ih =>
    intro s p
    unfold Machine.drainMoves
    split
    · next moved => exact ih (h.drainMove moved p)
    · exact p

theorem drain {r : RingNo} (p : P s) : P (drain r s) := by
  unfold Machine.drain
  dsimp only
  split
  · next done =>
    obtain ⟨stalled, -, empty⟩ := done
    refine h.setRing (fun ok => ?_) (h.drainMoves p)
    obtain ⟨holder, -, -, pointers⟩ := ok
    exact ⟨holder, fun _ => List.isEmpty_iff.1 empty, by simp, fun _ => pointers (by simp [stalled])⟩
  · exact h.drainMoves p

theorem writeConsumed {r : RingNo} {n : Nat} (p : P s) : P (writeConsumed r n s) := by
  unfold Machine.writeConsumed
  dsimp only
  split
  · exact p
  · split
    · next inside =>
      have moved : P (s.setRing r { s.ring r with consumed := n }) := by
        refine h.setRing (fun ok => ?_) p
        obtain ⟨holder, enabled, quiet, pointers⟩ := ok
        refine ⟨holder, enabled, quiet, fun running => ?_⟩
        obtain ⟨setup, tail, head, -, posted⟩ := pointers running
        exact ⟨setup, tail, head, inside, posted⟩
      split
      · exact h.drain moved
      · exact moved
    · exact h.faultRing p

theorem writeStallSeen {r : RingNo} {n : Nat} (p : P s) : P (writeStallSeen r n s) := by
  unfold Machine.writeStallSeen
  split
  · exact h.setRing id p
  · exact p

theorem windowWrite {o n : Nat} (p : P s) : P (windowWrite o n s) := by
  unfold Machine.windowWrite
  split
  · exact p
  · dsimp only
    repeat' split
    · exact h.setRing id p
    · exact h.setRing id p
    · exact h.writeRequestSize p
    · exact h.writeAnswerSize p
    · exact h.writeTail p
    · exact h.writeConsumed p
    · exact h.writeStallSeen p
    · exact p

theorem refuseUnknown {r : RingNo} {tag k : Nat} (p : P s) : P (refuseUnknown r tag k s) := h.answer p

/-- A request, whose change to the policy store may be STORE_STAGE's or STORE_COMMIT's. -/
theorem handOver {r : RingNo} {tag : Nat} {q : Request}
    (staged : ∀ {x : Ps} {p : StoreStageParams}, storeStageOk p = true → R x { x with staging := putBytes x.staging p.offset (p.data.take p.count) })
    (begun : ∀ {x : Ps} {j : Commit}, j.page ≤ 63 → R x { x with commit := some j })
    (loud : Requests P s) (p : P s) : P (handOver r tag q s) := by
  cases q with
  | charge => exact loud.charge ..
  | split => exact loud.split ..
  | drop => exact loud.drop ..
  | queryExtent => exact h.reqQueryExtent p
  | queryVolume => exact h.reqQueryVolume p
  | loadSnapshot => exact loud.loadSnapshot ..
  | loadExtent => exact loud.loadExtent ..
  | openVolume => exact loud.openVolume ..
  | sealVolume => exact h.reqSealVolume p
  | unsealVolume => exact h.reqUnsealVolume p
  | scanOut => exact h.reqScanOut p
  | setLimit => exact h.reqSetLimit p
  | loadAccount => exact h.reqLoadAccount p
  | dropAccount => exact h.reqDropAccount p
  | queryAccount => exact h.reqQueryAccount p
  | setClock => exact h.reqSetClock p
  | snapshotCreate => exact h.reqSnapshotCreate p
  | snapshotRetire => exact h.reqSnapshotRetire p
  | takeReleased => exact h.reqTakeReleased p
  | restore => exact h.reqRestore p
  | probe => exact h.reqProbe p
  | cancelRestore => exact h.reqCancelRestore p
  | queryMover => exact h.reqQueryMover p
  | faultClear => exact h.reqFaultClear p
  | runStart => exact h.reqRunStart p
  | runCancel => exact h.reqRunCancel p
  | queryRun => exact h.reqQueryRun p
  | giveRuns => exact h.reqGiveRuns p
  | replicaReset => exact loud.replicaReset ..
  | queryInbound => exact h.reqQueryInbound p
  | queryPeer => exact h.reqQueryPeer p
  | storeStage => exact h.reqStoreStage staged p
  | storeCommit => exact h.reqStoreCommit (fun _ inRange => begun inRange) p
  | storeVerify => exact h.reqStoreVerify p
  | storeRead => exact h.reqStoreRead p
  | applyDefinitions => exact loud.applyDefinitions r tag
  | format => exact loud.format ..

/-! ### Faults of RING-class accesses -/

theorem ringFault {r : RingNo} {a : Nat} (p : P s) : P (ringFault r a s) := h.faultRing (h.recordRingFault p)

theorem bufferFault {r : RingNo} {q : Request} {n : Nat} (p : P s) : P (bufferFault r q n s) := by
  unfold Machine.bufferFault
  split
  · split
    · exact h.ringFault (h.writeBytes p)
    · exact p
  · exact p

theorem answerLost {r : RingNo} {n : Nat} (p : P s) : P (answerLost r n s) := h.setFree (h.writeBytes p)

theorem takeFault {v : Vol} {n : Nat} (p : P s) : P (takeFault v n s) := by
  unfold Machine.takeFault
  dsimp only
  split
  · split
    · refine h.ringFault (h.calmSnapVol ?_ ?_ (h.writeBytes p))
      · rw [State.writeBytes, State.setMem_snapVol]
        exact ⟨rfl, rfl, rfl, rfl, id⟩
      · rw [State.writeBytes, State.setMem_snapVol]
        exact id
    · exact p
  · exact p

theorem exportFault {r : RingNo} {n : Nat} (p : P s) : P (exportFault r n s) := by
  unfold Machine.exportFault
  split
  · split
    · split
      · exact h.ringFault (h.setScan (h.writeBytes p))
      · exact p
    · exact p
  · exact p

theorem probeFault {c : Ctx} {n : Nat} (p : P s) : P (probeFault c n s) := by
  unfold Machine.probeFault
  dsimp only
  split
  · split
    · exact h.ringFault (h.freeContext (h.endCtx (h.writeBytes p)))
    · exact p
  · exact p

/-! ### Function reset -/

theorem cutUnit {n : Nat} (p : P s) : P (cutUnit n s) := by
  unfold Machine.cutUnit
  split
  · exact h.moveAccesses p
  · exact p

theorem resetRestore {c : Ctx} (p : P s) : P (resetRestore c s) := by
  unfold Machine.resetRestore
  dsimp only
  split
  · exact p
  · have freed : ∀ l : List Run, P ((l.foldl (fun t g => t.updateExtent (s.restoreCtx c).volume g.first fun e => { e with filling := false }) s).setRestoreCtx c .free) :=
      fun l => h.calmRestoreCtx (fun _ made => nomatch made) (fun _ => Nat.zero_le _) (List.foldlRecOn _ _ p fun _ p _ _ => h.fill p)
    split
    · exact freed _
    · exact h.releaseRestoreHold (freed _)

theorem resetSender (p : P s) : P (resetSender s) := by
  unfold Machine.resetSender
  have queueless : P (s.ds.queue.foldl (fun t x => Machine.releaseQueued x t) (s.setDs { s.ds with queue := [], lookDue := false })) :=
    List.foldlRecOn _ _ (h.setDs id p) fun _ p _ _ => h.releaseQueued p
  refine h.emptySlot (h.setDs id ?_)
  split
  · split
    · exact queueless
    · exact h.endRunCore queueless
  · exact queueless

theorem resetReceiver {u : Option MoverUnit} (silences : ∀ {t : State}, P t → P (t.setDr { t.dr with vols := t.dr.vols.map ReplVol.silenced })) (p : P s) :
    P (resetReceiver u s) := by
  unfold Machine.resetReceiver
  refine silences (h.abortAll ?_)
  split
  · split
    · exact h.landGone p
    · exact p
  · exact p

theorem functionResetState {n : Nat} (silenced : ∀ {x : Ps}, R x x.silenced)
    (withdraws : ∀ {t : State}, P t → P (t.setSu { t.su with vols := t.su.vols.map SnapVol.functionReset }))
    (silences : ∀ {t : State}, P t → P (t.setDr { t.dr with vols := t.dr.vols.map ReplVol.silenced })) (p : P s) : P (functionResetState n s) := by
  unfold Machine.functionResetState
  have stopped : P (((Machine.cutUnit n s).setDm .start).setRiu .start) := h.setRiu (fun _ => reset_ok.riu) (h.setDm (h.cutUnit p))
  exact h.setPs silenced (h.resetReceiver silences (h.resetSender (List.foldlRecOn _ _ (h.setGateOrder (withdraws stopped)) fun _ p _ _ => h.resetRestore p)))

end Quiet
end

section
variable {R : Ps → Ps → Prop} {P : State → Prop} (h : Kept R P) {s : State}
include h

namespace Kept

/-! ### FORMAT -/

theorem formatAccept {r : RingNo} {tag : Nat} (format : ∀ {x : Ps} {j : Option FormatJob}, R x { x with format := j }) (p : P s) :
    P (formatAccept r tag s) := by
  unfold Machine.formatAccept
  exact h.setPs format <| h.formatAccounts <| h.setDr (fun _ _ => by simp [ReplVol.empty]) <|
    h.setSu (fun _ _ => by simp [SnapVol.empty]) <| h.setEtu (fun _ => Nat.zero_le _) <| h.cancelQueued p

theorem reqFormat {r : RingNo} {tag : Nat} (format : ∀ {x : Ps} {j : Option FormatJob}, R x { x with format := j }) (p : P s) : P (reqFormat r tag s) :=
  h.toQuiet.reqFormat (fun _ => h.formatAccept format p) p

theorem leaveSafe (safe : ∀ {x : Ps}, R x { x with safe := false }) (p : P s) : P (leaveSafe s) :=
  h.toQuiet.leaveSafe safe (fun _ _ _ => h.takeAllDefinitions (h.setFree p)) p

/-! ### The requests -/

theorem requests (format : ∀ {x : Ps} {j : Option FormatJob}, R x { x with format := j }) (p : P s) : Requests P s where
  charge _ _ _ := h.reqCharge p
  split _ _ _ := h.reqSplit p
  drop _ _ _ := h.reqDrop p
  loadSnapshot _ _ _ := h.reqLoadSnapshot p
  loadExtent _ _ _ := h.reqLoadExtent p
  openVolume _ _ _ := h.reqOpenVolume p
  replicaReset _ _ _ := h.reqReplicaReset p
  applyDefinitions _ _ := h.reqApplyDefinitions p
  format _ _ := h.reqFormat format p

/-! ### Function reset -/

theorem functionResetState {n : Nat} (silenced : ∀ {x : Ps}, R x x.silenced) (p : P s) : P (functionResetState n s) :=
  h.toQuiet.functionResetState silenced (fun p => h.setSu (fun ok v => by simpa [SnapVol.functionReset] using ok v) p)
    (fun p => h.setDr (fun ok v => by simpa [ReplVol.silenced] using ok v) p) p

end Kept
end

end Sys2Proof.Machine
end

section
/-! What every command keeps; with it the statements that speak of every command: it answers a next state and keeps the queue, and keeps memory, the store's form, the rings' laws and the
capacities; and the store changes by its own commands alone. -/

namespace Sys2Proof.Machine

/-- The outcome is a next state, of which `P` holds. -/
def NextHas (P : State → Prop) (o : Host.Outcome State Fault Refusal) : Prop := ∃ t, o = .next t ∧ P t

theorem NextHas.next {P : State → Prop} {t : State} (p : P t) : NextHas P (.next t) := ⟨t, rfl, p⟩

theorem NextHas.next_iff {P : State → Prop} {t : State} : NextHas P (.next t) ↔ P t :=
  ⟨fun ⟨_, e, p⟩ => Host.Outcome.next.inj e ▸ p, NextHas.next⟩

section
variable {R : Ps → Ps → Prop} {O : State → Vol → Prop} {P : State → Prop} (h : Quiet R O P) {s : State}
include h

namespace Quiet

/-! ### The commands that look before they act -/

theorem graceExpiry (p : P s) : NextHas P (execGraceExpiry s) := by
  unfold execGraceExpiry
  split
  · split
    · exact .next (h.expireHead p)
    · exact .next (h.setQu p)
  · exact .next p

theorem scanOut {r : RingNo} {tag : Nat} {x : ScanStep} (p : P s) : NextHas P (execScanOut r tag x s) := by
  unfold execScanOut
  split
  · exact .next (h.reqScanOut p)
  · split
    · exact .next (h.exportStep p)
    · exact .next p

theorem takeReleased {x : TakeStep} (completes : ∀ v y, (s.snapVol v).taking = some y → P (Machine.takeComplete v y s)) (p : P s) :
    NextHas P (execTakeReleased x s) := by
  unfold execTakeReleased
  split
  · exact .next (h.reqTakeReleased p)
  · split
    · next taking => exact .next (completes _ _ taking)
    · exact .next p

theorem execSearch {c : Ctx} (p : P s) : NextHas P (execSearchStep c s) := by
  unfold execSearchStep
  split
  · next may => exact .next (h.searchStep may p)
  · exact .next p

theorem pieceMap {c : Ctx} (p : P s) : NextHas P (execPieceMap c s) := by
  unfold execPieceMap
  dsimp only
  split
  · next plan =>
    split
    · split
      · exact .next (h.skipHole plan p)
      · exact .next (h.mapPiece plan p)
    · exact .next p
  · exact .next p

theorem probePieceWrite {c : Ctx} (p : P s) : NextHas P (execProbePieceWrite c s) := by
  unfold execProbePieceWrite
  dsimp only
  split
  · next plan =>
    split
    · exact .next (h.probeWritten plan p)
    · exact .next p
  · exact .next p

theorem segmentComplete (p : P s) : NextHas P (execSegmentComplete s) := by
  unfold execSegmentComplete
  split
  · split
    · exact .next p
    · exact .next (h.setDm (h.moveSegment p))
  · exact .next p

theorem shipPieceHandover (p : P s) : NextHas P (execShipPieceHandover s) := by
  unfold execShipPieceHandover
  split
  · split
    · split
      · exact .next (h.setUnit p)
      · next taken =>
        have up : s.lc.up = true := by simp_all
        split
        · exact .next (h.setUnit (h.slotPiece up p))
        · exact .next p
    · exact .next p
  · exact .next p

theorem ringAccessFault {a : RingAccess} (p : P s) : NextHas P (execRingAccessFault a s) := by
  unfold execRingAccessFault
  split
  · split
    · exact .next (h.ringFault p)
    · exact .next p
  · split
    · exact .next (h.ringFault (h.answerLost p))
    · exact .next p
  · split
    · split
      · split
        · split
          · exact .next (h.bufferFault (h.setRing Ring.ok_taken p))
          · exact .next p
        · exact .next p
      · exact .next p
    · exact .next p
  · exact .next (h.bufferFault p)
  · exact .next (h.takeFault p)
  · exact .next (h.exportFault p)
  · exact .next (h.probeFault p)

theorem runDequeue (p : P s) : NextHas P (execRunDequeue s) := by
  have looked : P (s.setDs { s.ds with lookDue := false }) := h.setDs id p
  unfold execRunDequeue
  split
  · dsimp only
    split
    · split
      · exact .next (h.startRun looked)
      · exact .next looked
    · exact .next looked
  · exact .next p

theorem deltaScanStep (p : P s) : NextHas P (execDeltaScanStep s) := by
  unfold execDeltaScanStep
  split
  · exact .next (h.scanStep p)
  · exact .next p

theorem batchTransmitStart (p : P s) : NextHas P (execBatchTransmitStart s) := by
  unfold execBatchTransmitStart
  split
  · split
    · exact .next (h.askShip p)
    · exact .next p
  · exact .next p

theorem resendStart (p : P s) : NextHas P (execResendStart s) := by
  unfold execResendStart
  split
  · split
    · exact .next (h.askShip p)
    · exact .next p
  · exact .next p

theorem exchangeTimerExpiry (p : P s) : NextHas P (execExchangeTimerExpiry s) := by
  unfold execExchangeTimerExpiry
  split
  · split
    · split
      · exact .next (h.endRun p)
      · dsimp only
        split
        · exact .next (h.sendOffer (h.setActive p))
        · exact .next (h.sendClose (h.setActive p))
    · exact .next p
  · exact .next p

theorem receiptTimerExpiry {n : Nat} (p : P s) : NextHas P (execReceiptTimerExpiry n s) := by
  unfold execReceiptTimerExpiry
  split
  · split
    · exact .next (h.goBack p)
    · exact .next p
  · exact .next p

theorem pacerInterval (p : P s) : NextHas P (execPacerInterval s) := by
  unfold execPacerInterval
  split
  · next room => exact .next (h.setDs (fun _ => room) p)
  · exact .next p

theorem accept {f : EthFrame} (p : P s) : NextHas P (execAccept f s) := by
  refine .next (onRunFrame_keeps (fun _ _ => ?_) p)
  split
  · exact h.setDs id (h.setActive p)
  · exact p

theorem decline {f : EthFrame} (p : P s) : NextHas P (execDecline f s) := by
  refine .next (onRunFrame_keeps (fun _ _ => ?_) p)
  split
  · split
    · split
      · exact h.adoptBase p
      · exact h.endRun p
    · exact h.endRun p
  · exact p

theorem receipt {f : EthFrame} (p : P s) : NextHas P (execReceipt f s) := by
  refine .next (onRunFrame_keeps (fun _ _ => ?_) p)
  split
  · split
    · exact h.takeReceipt p
    · exact p
  · exact p

theorem closed {f : EthFrame} (p : P s) : NextHas P (execClosed f s) := by
  refine .next (onRunFrame_keeps (fun _ _ => ?_) p)
  split
  · split
    · exact h.endRun p
    · exact h.endRun p
  · exact p

theorem abort {f : EthFrame} (p : P s) : NextHas P (execAbort f s) := by
  have forward : P (onForward .abort f (Machine.takenOpen fun c _ t => Machine.abortCtx inboundPeerAbort false c t) s) :=
    onForward_keeps (fun _ => h.takenOpen (fun _ => h.abortCtx) p) p
  unfold execAbort Machine.onRunFrame
  refine .next ?_
  split
  · split
    · split
      · exact h.endRun p
      · exact forward
    · exact forward
  · exact forward

theorem frameRejected {f : EthFrame} (p : P s) : NextHas P (execFrameRejected f s) := by
  unfold execFrameRejected
  split
  · exact .next (h.setFrameError p)
  · exact .next p

theorem frameTransmit (p : P s) : NextHas P (execFrameTransmit s) := by
  unfold execFrameTransmit
  split
  · split
    · next control =>
      refine .next (h.controlLeft (h.putOnWire (h.setLc (fun ok => ?_) p)))
      unfold Lc.ok at ok ⊢
      rw [control] at ok
      exact ⟨(Nat.le_succ _).trans ok.1, fun down => absurd (ok.2 down) (by simp)⟩
    · split
      · exact .next (h.pumpSlot (h.batchLeft (h.putOnWire (h.emptySlot (h.setDs (fun few => (Nat.sub_le ..).trans few) p)))))
      · exact .next p
    · exact .next p
  · exact .next p

theorem carrierUp (p : P s) : NextHas P (execCarrierUp s) := by
  unfold execCarrierUp
  split
  · exact .next p
  · refine .next (h.setDs id (h.raise (h.setLc (fun ok => ?_) p)))
    unfold Lc.ok at ok ⊢
    exact ⟨ok.1, fun down => nomatch down⟩

theorem carrierDown (p : P s) : NextHas P (execCarrierDown s) := by
  unfold execCarrierDown
  split
  · exact .next (h.linkDown p)
  · exact .next p

theorem idleTimerExpiry {c : Ctx} (p : P s) : NextHas P (execIdleTimerExpiry c s) := by
  unfold execIdleTimerExpiry
  split
  · exact .next (h.abortCtx p)
  · exact .next p

theorem storeCommitEnd {l : List (Nat × Byte)}
    (ended : ∀ {x : Ps} {j : Commit}, x.commit = some j → R x (x.committed j (readBack (commitBytes x j) l))) (p : P s) :
    NextHas P (execStoreCommitEnd l s) := by
  unfold execStoreCommitEnd
  split
  · next commit => exact .next (h.commitOver (ended commit) p)
  · exact .next p

theorem unknownRequest {r : RingNo} {tag k : Nat} (p : P s) : NextHas P (execUnknownRequest r tag k s) := by
  unfold execUnknownRequest
  split
  · exact .next p
  · exact .next (h.refuseUnknown p)

theorem requestIntake {r : RingNo}
    (staged : ∀ {x : Ps} {p : StoreStageParams}, storeStageOk p = true → R x { x with staging := putBytes x.staging p.offset (p.data.take p.count) })
    (begun : ∀ {x : Ps} {j : Commit}, j.page ≤ 63 → R x { x with commit := some j })
    (loud : Requests P (s.setRing r (s.ring r).taken)) (p : P s) : NextHas P (execRequestIntake r s) := by
  have taken : P (s.setRing r (s.ring r).taken) := h.setRing Ring.ok_taken p
  unfold execRequestIntake Machine.takeRequest
  split
  · refine .next ?_
    dsimp only
    split
    · exact h.handOver staged begun loud taken
    · exact h.refuseUnknown taken
  · exact .next p

theorem noticePost (p : P s) : NextHas P (execNoticePost s) := by
  unfold execNoticePost
  split
  · split
    · refine .next (h.writeAnswer (h.setRiu (fun ok => ?_) p))
      obtain ⟨rings, few, counts, distinct, -⟩ := ok
      exact ⟨rings, few, counts, distinct, by simp, Nat.zero_le _⟩
    · split
      · next oldest =>
        refine .next (h.writeAnswer (h.setRiu (fun ok => ?_) p))
        obtain ⟨rings, few, counts, distinct, rest⟩ := ok
        rw [oldest] at few counts distinct
        exact ⟨rings, (Nat.le_succ _).trans few, fun n mem => counts n (List.mem_cons_of_mem _ mem), distinct.of_cons, rest⟩
      · exact .next p
  · exact .next p

end Quiet
end

section
variable {R : Ps → Ps → Prop} {O : State → Vol → Prop} {P : State → Prop} (h : Steady R O P) {s : State}
include h

namespace Steady

/-! ### The commands that look before they act -/

theorem pieceCreate {c : Ctx} (makes : ∀ f, (s.restoreCtx c).flight = some f → f.created = false → s.tableRoom f.segs.length = true → P (makePiece c f s))
    (p : P s) : NextHas P (execPieceCreate c s) := by
  unfold execPieceCreate
  split
  · next f flying =>
    split
    · next may => exact .next (h.createPiece (makes f flying may.1) p)
    · exact .next p
  · exact .next p

theorem unitComplete (p : P s) : NextHas P (execUnitComplete s) := by
  unfold execUnitComplete
  split
  · split
    · exact .next (h.grantNext (h.tellComplete (h.releaseEngine (h.moveSegment p))))
    · exact .next p
  · exact .next p

theorem moverAccessFault {a : UnitAccess} (p : P s) : NextHas P (execMoverAccessFault a s) := by
  unfold execMoverAccessFault
  split
  · split
    · exact .next (h.faultClass (h.moveAccesses p))
    · exact .next p
  · exact .next p

end Steady
end

/-! ### Every command -/

/-- The commands that do more than quiet updates keep `P` in the state `s`, the end of a FORMAT and a cold start when `c` is that. -/
structure Commands (c : Instr) (P : State → Prop) (s : State) : Prop extends Requests P s where
  intake : ∀ r, Requests P (s.setRing r (s.ring r).taken)
  trimScanStep : ∀ v, NextHas P (execTrimScanStep v s)
  takeComplete : ∀ v x, (s.snapVol v).taking = some x → P (takeComplete v x s)
  makePiece : ∀ c f, (s.restoreCtx c).flight = some f → f.created = false → s.tableRoom f.segs.length = true → P (makePiece c f s)
  offer : ∀ f, P (takeOffer f s)
  commitScanStep : ∀ c, NextHas P (execCommitScanStep c s)
  rollbackScanStep : ∀ c, NextHas P (execRollbackScanStep c s)
  replicaResetEmpty : ∀ v, NextHas P (execReplicaResetEmpty v s)
  replicaResetAppend : ∀ v, NextHas P (execReplicaResetAppend v s)
  formatEnd : c = .formatEnd → NextHas P (execFormatEnd s)
  coldStart : ∀ strap n, c = .coldStart strap n → NextHas P (execColdStart strap n s)
  functionReset : ∀ n, P (functionResetState n s)

theorem Steady.exec {c : Instr} {R : Ps → Ps → Prop} {O : State → Vol → Prop} {P : State → Prop} (h : Steady R O P)
    (changes : ∀ {x y : Ps}, PsChange c x y → R x y) {s : State} (loud : Commands c P s) (p : P s) : NextHas P (Machine.exec c s) := by
  cases c with
  | charge => exact .next (loud.charge ..)
  | split => exact .next (loud.split ..)
  | drop => exact .next (loud.drop ..)
  | queryExtent => exact .next (h.reqQueryExtent p)
  | queryVolume => exact .next (h.reqQueryVolume p)
  | loadSnapshot => exact .next (loud.loadSnapshot ..)
  | loadExtent => exact .next (loud.loadExtent ..)
  | openVolume => exact .next (loud.openVolume ..)
  | sealVolume => exact .next (h.reqSealVolume p)
  | unsealVolume => exact .next (h.reqUnsealVolume p)
  | scanOut => exact h.scanOut p
  | setLimit => exact .next (h.reqSetLimit p)
  | loadAccount => exact .next (h.reqLoadAccount p)
  | dropAccount => exact .next (h.reqDropAccount p)
  | queryAccount => exact .next (h.reqQueryAccount p)
  | setClock => exact .next (h.reqSetClock p)
  | clockAdvance => exact .next (h.setDs id (h.reexamine (h.setQu p)))
  | graceExpiry => exact h.graceExpiry p
  | snapshotCreate => exact .next (h.reqSnapshotCreate p)
  | snapshotRetire => exact .next (h.reqSnapshotRetire p)
  | trimScanStep => exact loud.trimScanStep ..
  | takeReleased => exact h.takeReleased loud.takeComplete p
  | restore => exact .next (h.reqRestore p)
  | probe => exact .next (h.reqProbe p)
  | cancelRestore => exact .next (h.reqCancelRestore p)
  | searchStep => exact h.execSearch p
  | pieceMap => exact h.pieceMap p
  | pieceCreate => exact h.pieceCreate (loud.makePiece _) p
  | probePieceWrite => exact h.probePieceWrite p
  | queryMover => exact .next (h.reqQueryMover p)
  | faultClear => exact .next (h.reqFaultClear p)
  | segmentComplete => exact h.segmentComplete p
  | unitComplete => exact h.unitComplete p
  | shipPieceHandover => exact h.shipPieceHandover p
  | moverAccessFault => exact h.moverAccessFault p
  | ringAccessFault => exact h.ringAccessFault p
  | runStart => exact .next (h.reqRunStart p)
  | runCancel => exact .next (h.reqRunCancel p)
  | queryRun => exact .next (h.reqQueryRun p)
  | runDequeue => exact h.runDequeue p
  | deltaScanStep => exact h.deltaScanStep p
  | batchTransmitStart => exact h.batchTransmitStart p
  | resendStart => exact h.resendStart p
  | exchangeTimerExpiry => exact h.exchangeTimerExpiry p
  | receiptTimerExpiry => exact h.receiptTimerExpiry p
  | busyWaitEnd => exact .next (h.setDs id p)
  | pacerInterval => exact h.pacerInterval p
  | offer => exact .next (onForward_keeps loud.offer p)
  | accept => exact h.accept p
  | decline => exact h.decline p
  | batchHead => exact .next (onForward_keeps (fun _ => h.takenOpen (fun _ => h.takeHead) p) p)
  | batchData => exact .next (onForward_keeps (fun _ => h.takenOpen (fun _ => h.takeData) p) p)
  | batchEnd => exact .next (onForward_keeps (fun _ => h.takenOpen (fun _ => h.takeEnd) p) p)
  | receipt => exact h.receipt p
  | close => exact .next (onForward_keeps (fun _ => h.takeClose p) p)
  | closed => exact h.closed p
  | abort => exact h.abort p
  | frameRejected => exact h.frameRejected p
  | frameTransmit => exact h.frameTransmit p
  | carrierUp => exact h.carrierUp p
  | carrierDown => exact h.carrierDown p
  | idleTimerExpiry => exact h.idleTimerExpiry p
  | commitScanStep => exact loud.commitScanStep ..
  | rollbackScanStep => exact loud.rollbackScanStep ..
  | giveRuns => exact .next (h.reqGiveRuns p)
  | replicaReset => exact .next (loud.replicaReset ..)
  | replicaResetEmpty => exact loud.replicaResetEmpty ..
  | replicaResetAppend => exact loud.replicaResetAppend ..
  | queryInbound => exact .next (h.reqQueryInbound p)
  | queryPeer => exact .next (h.reqQueryPeer p)
  | storeStage => exact .next (h.reqStoreStage (fun inRange => changes (.staged rfl inRange)) p)
  | storeCommit => exact .next (h.reqStoreCommit (fun _ inRange => changes (.begun inRange)) p)
  | storeCommitEnd => exact h.storeCommitEnd (fun commit => changes (.ended commit)) p
  | storeVerify => exact .next (h.reqStoreVerify p)
  | storeRead => exact .next (h.reqStoreRead p)
  | applyDefinitions => exact .next (loud.applyDefinitions ..)
  | format => exact .next (loud.format ..)
  | formatEnd => exact loud.formatEnd rfl
  | unknownRequest => exact h.unknownRequest p
  | ringSetup => exact .next (h.writeAnswerSize p)
  | ringDisable => exact .next (h.disableRing p)
  | requestTailWrite => exact .next (h.writeTail p)
  | answerConsumedWrite => exact .next (h.writeConsumed p)
  | stallSeenClear => exact .next (h.writeStallSeen p)
  | registerWrite => exact .next (h.windowWrite p)
  | requestIntake => exact h.requestIntake (fun inRange => changes (.staged rfl inRange)) (fun inRange => changes (.begun inRange)) (loud.intake _) p
  | noticePost => exact h.noticePost p
  | coldStart strap n => exact loud.coldStart strap n rfl
  | functionReset => exact .next (loud.functionReset _)

section
variable {R : Ps → Ps → Prop} {P : State → Prop} (h : Kept R P) {s : State}
include h

namespace Kept

theorem trimScanStep {v : Vol} (p : P s) : NextHas P (execTrimScanStep v s) := by
  unfold execTrimScanStep
  split
  · split
    · exact .next (h.trimVisit p)
    · refine .next ?_
      split
      · exact h.setTrim p
      · exact h.trimEnd p
  · exact .next p

theorem commitScanStep {c : Ctx} (p : P s) : NextHas P (execCommitScanStep c s) := by
  unfold execCommitScanStep
  dsimp only
  split
  · split
    · exact .next (h.commitVisit p)
    · exact .next (h.commitEnd p)
  · exact .next p

theorem rollbackScanStep {c : Ctx} (p : P s) : NextHas P (execRollbackScanStep c s) := by
  unfold execRollbackScanStep
  dsimp only
  split
  · split
    · exact .next (h.rollbackVisit p)
    · exact .next (h.rollbackWalked p)
  · exact .next p

theorem replicaResetEmpty {v : Vol} (p : P s) : NextHas P (execReplicaResetEmpty v s) := by
  unfold execReplicaResetEmpty
  split
  · split
    · exact .next (h.resetEmpty p)
    · exact .next p
  · exact .next p

theorem replicaResetAppend {v : Vol} (p : P s) : NextHas P (execReplicaResetAppend v s) := by
  unfold execReplicaResetAppend
  split
  · split
    · split
      · next appended => exact .next (h.resetAppend appended p)
      · exact .next (h.producerWait p)
    · exact .next p
  · exact .next p

theorem formatEnd (format : ∀ {x : Ps} {j : Option FormatJob}, R x { x with format := j }) (safe : ∀ {x : Ps}, R x { x with safe := false }) (p : P s) :
    NextHas P (execFormatEnd s) := by
  unfold execFormatEnd
  split
  · exact .next (h.answerIf (h.leaveSafe safe (h.setPs format p)))
  · exact .next p

end Kept
end

/-- A command keeps the predicate, a cold start when the state it comes up with has it; one that verifies has the SAFE flag cleared and takes its definitions. -/
theorem Kept.exec {c : Instr} {R : Ps → Ps → Prop} {P : State → Prop} (h : Kept R P) (changes : ∀ {x y : Ps}, PsChange c x y → R x y) {s : State}
    (cold : ∀ strap n t, c = .coldStart strap n → t = coldBase strap (Machine.cutUnit n s) → P t ∧ P (t.setPs { t.ps with safe := false }))
    (p : P s) : NextHas P (Machine.exec c s) := by
  refine h.toSteady.exec changes ?_ p
  exact {
    toRequests := h.requests (changes .format) p
    intake := fun _ => h.requests (changes .format) (h.setRing Ring.ok_taken p)
    trimScanStep := fun _ => h.trimScanStep p
    takeComplete := fun _ _ _ => h.takeComplete p
    makePiece := fun _ _ _ _ room => h.makePiece room p
    offer := fun _ => h.takeOffer p
    commitScanStep := fun _ => h.commitScanStep p
    rollbackScanStep := fun _ => h.rollbackScanStep p
    replicaResetEmpty := fun _ => h.replicaResetEmpty p
    replicaResetAppend := fun _ => h.replicaResetAppend p
    formatEnd := fun is => h.formatEnd (changes .format) (changes (is ▸ .safe)) p
    coldStart := fun strap n is => by
      obtain ⟨up, verified⟩ := cold strap n _ is rfl
      unfold execColdStart
      dsimp only
      split
      · exact .next (h.takeAllDefinitions verified)
      · exact .next up
    functionReset := fun _ => h.functionResetState (changes .silenced) p }

end Sys2Proof.Machine
end

section
/-! The statements that speak of every command: O2, O4, O5, O7 and O13. -/

namespace Sys2Proof.Machine

/-! ### The pages of the store -/

theorem canonical_putBytes {n : Nat} (bs : List Byte) : ∀ {a : Nat} {m : List Host.Cell}, canonical 0xFF n m → a + bs.length ≤ n →
    canonical 0xFF n (putBytes m a bs) := by
  induction bs with
  | nil => exact fun ok _ => ok
  | cons b bs ih =>
    intro a m ok inside
    rw [List.length_cons] at inside
    exact ih (canonical_set _ _ _ _ _ ok (by omega)) (by omega)

theorem length_readBack (l : List (Nat × Byte)) : ∀ bs : List Byte, (readBack bs l).length = bs.length := by
  induction l with
  | nil => exact fun _ => rfl
  | cons m l ih => exact fun bs => (ih _).trans List.length_set

theorem Ps.ok_start {x : Ps} (n : Nat) (ok : x.ok) : (Ps.start (x.unpowered n)).ok := by
  obtain ⟨pages, -, inRange⟩ := ok
  refine ⟨?_, ⟨rfl, by simp [Ps.start]⟩, by simp [Ps.start]⟩
  change canonical 0xFF 16384 (x.unpowered n)
  unfold Ps.unpowered
  split
  · next c commit =>
    have := inRange c commit
    exact canonical_putBytes _ pages (by simp; omega)
  · exact pages

/-- Every change of the policy store that a command makes keeps the store's form. -/
theorem PsChange.keeps_ok {c : Instr} {x y : Ps} (change : PsChange c x y) (ok : x.ok) : y.ok := by
  obtain ⟨pages, staging, commit⟩ := ok
  cases change with
  | @staged _ _ p _ inRange =>
    simp only [storeStageOk, Bool.and_eq_true, decide_eq_true_iff] at inRange
    refine ⟨pages, canonical_putBytes _ staging ?_, commit⟩
    exact (Nat.add_le_add_left (List.length_take_le ..) _).trans inRange.2
  | begun inRange => exact ⟨pages, staging, fun _ e => Option.some.inj e ▸ inRange⟩
  | @ended _ j _ under =>
    have := commit j under
    refine ⟨canonical_putBytes _ pages ?_, staging, nofun⟩
    rw [length_readBack, commitBytes, List.length_map, List.length_range]
    omega
  | format => exact ⟨pages, staging, commit⟩
  | safe => exact ⟨pages, staging, commit⟩
  | silenced =>
    refine ⟨pages, staging, fun j e => ?_⟩
    obtain ⟨i, under, rfl⟩ := Option.map_eq_some_iff.1 e
    exact commit i under

/-! ### A step -/

/-- What every command keeps and what does not look at the queue, a step keeps. -/
theorem step_keeps {P : State → Prop} {s t : State} (queue : ∀ {s : State} {l : List Instr}, P s → P (s.setPending l))
    (keeps : ∀ (c : Instr) {s : State}, P s → NextHas P (exec c s)) (p : P s) (e : step s = .next t) : P t := by
  unfold step at e
  split at e
  · exact Host.Outcome.next.inj e ▸ p
  · next c rest _ => exact NextHas.next_iff.1 (e ▸ keeps c (queue p))

/-! ### Every command -/

theorem kept_pending {l : List Instr} : Kept (fun _ _ => True) fun t => t.pending = l :=
  .of (fun _ p => p) (fun p => p) (fun _ p => p) (fun _ p => p) (fun p => p) (fun _ p => p) (fun _ p => p) (fun p => p) (fun _ p => p) (fun _ p => p)
    (fun _ p => p) (fun _ p => p)

/-- Settles O2: no command touches the queue. -/
theorem everyCommandAnswersAndKeepsTheQueue : Obligations.EveryCommandAnswersAndKeepsTheQueue := by
  unfold Obligations.EveryCommandAnswersAndKeepsTheQueue
  intro c s
  refine kept_pending.exec (fun _ => trivial) (fun strap n t _ e => ?_) rfl
  subst e
  have cut : (cutUnit n s).pending = s.pending := kept_pending.cutUnit rfl
  exact ⟨cut, cut⟩

theorem kept_forms : Kept (fun x y => x.ok → y.ok) fun t => memOk t.mem ∧ t.ps.ok :=
  .of (fun m p => ⟨m p.1, p.2⟩) (fun p => p) (fun _ p => p) (fun _ p => p) (fun p => p) (fun _ p => p) (fun _ p => p) (fun p => p) (fun _ p => p)
    (fun _ p => p) (fun _ p => p) (fun ok p => ⟨p.1, ok p.2⟩)

/-- Settles O4: memory is written in its canonical form, and the store by the changes of `PsChange` alone. -/
theorem stepKeepsMemoryAndStoreForms : Obligations.StepKeepsMemoryAndStoreForms := by
  unfold Obligations.StepKeepsMemoryAndStoreForms
  intro s t mem ps
  refine step_keeps (P := fun t => memOk t.mem ∧ t.ps.ok) id (fun c s p => ?_) ⟨mem, ps⟩
  refine kept_forms.exec PsChange.keeps_ok (fun strap n u _ e => ?_) p
  obtain ⟨mem, ps⟩ := kept_forms.cutUnit (n := n) p
  subst e
  exact ⟨⟨mem, Ps.ok_start _ ps⟩, mem, Ps.ok_start _ ps⟩

theorem kept_riuOk : Kept (fun _ _ => True) fun t => t.riu.ok :=
  .of (fun _ p => p) (fun p => p) (fun ok => ok) (fun _ p => p) (fun p => p) (fun _ p => p) (fun _ p => p) (fun p => p) (fun _ p => p) (fun _ p => p)
    (fun _ p => p) (fun _ p => p)

/-- Settles O5. -/
theorem stepKeepsRingAndNoticeLaws : Obligations.StepKeepsRingAndNoticeLaws := by
  unfold Obligations.StepKeepsRingAndNoticeLaws
  intro s t
  refine step_keeps (P := fun t => t.riu.ok) id fun c s p => kept_riuOk.exec (fun _ => trivial) (fun strap n u _ e => ?_) p
  subst e
  exact ⟨reset_ok.riu, reset_ok.riu⟩

/-- The capacities that every step keeps. -/
structure State.fits (s : State) : Prop where
  etu : s.etu.ok
  su : s.su.ok
  ru : s.ru.ok
  dr : s.dr.ok
  lc : s.lc.ok
  ds : s.ds.ok

theorem coldBase_fits (strap : Bool) (s : State) : (coldBase strap s).fits where
  etu := reset_ok.etu
  su := reset_ok.su
  ru := reset_ok.ru
  dr := reset_ok.dr
  lc := reset_ok.lc
  ds := reset_ok.ds

theorem kept_fits : Kept (fun _ _ => True) State.fits :=
  .of (setMem := fun _ p => { p with }) (setFree := fun p => { p with }) (setRiu := fun _ p => { p with })
    (setEtu := fun ok p => { p with etu := ok p.etu }) (setQu := fun p => { p with }) (setSu := fun ok p => { p with su := ok p.su })
    (setRu := fun ok p => { p with ru := ok p.ru }) (setDm := fun p => { p with }) (setDs := fun ok p => { p with ds := ok p.ds })
    (setDr := fun ok p => { p with dr := ok p.dr }) (setLc := fun ok p => { p with lc := ok p.lc }) (setPs := fun _ p => { p with })

/-- Settles O7. -/
theorem stepKeepsCapacities : Obligations.StepKeepsCapacities := by
  unfold Obligations.StepKeepsCapacities
  intro s t etu su ru dr lc ds e
  have fits : t.fits := by
    refine step_keeps (P := State.fits) (fun p => { p with }) (fun c s p => ?_) ⟨etu, su, ru, dr, lc, ds⟩ e
    refine kept_fits.exec (fun _ => trivial) (fun strap n u _ e => ?_) p
    subst e
    exact ⟨coldBase_fits .., { coldBase_fits strap (cutUnit n s) with }⟩
  exact ⟨fits.etu, fits.su, fits.ru, fits.dr, fits.lc, fits.ds⟩

/-! ### The store's own commands -/

/-- The store and the strap of a state `t` that a command gave, against those before it. -/
structure StoreFrom (c : Instr) (x : Ps) (strap : Bool) (t : State) : Prop where
  pages : t.ps.pages = x.pages ∨ (∃ m, c = .storeCommitEnd m) ∨ ∃ b n, c = .coldStart b n
  safe : t.ps.safe = x.safe ∨ c = .formatEnd ∨ ∃ b n, c = .coldStart b n
  staging : t.ps.staging = x.staging ∨ (∃ r g p, c = .storeStage r g p) ∨ (∃ r, c = .requestIntake r) ∨ ∃ b n, c = .coldStart b n
  strap : t.strap = strap ∨ ∃ b n, c = .coldStart b n

theorem mayStage_iff {c : Instr} : mayStage c = true ↔ (∃ r g p, c = .storeStage r g p) ∨ ∃ r, c = .requestIntake r := by
  cases c <;> simp [mayStage]

theorem StoreFrom.change {c : Instr} {x y : Ps} {strap : Bool} {t : State} (from_x : StoreFrom c x strap t) (change : PsChange c t.ps y) :
    StoreFrom c x strap (t.setPs y) := by
  obtain ⟨pages, safe, staging, strap⟩ := from_x
  cases change with
  | staged may _ => exact ⟨pages, safe, .inr ((mayStage_iff.1 may).imp id .inl), strap⟩
  | begun _ => exact ⟨pages, safe, staging, strap⟩
  | ended _ => exact ⟨.inr (.inl ⟨_, rfl⟩), safe, staging, strap⟩
  | format => exact ⟨pages, safe, staging, strap⟩
  | safe => exact ⟨pages, .inr (.inl rfl), staging, strap⟩
  | silenced => exact ⟨pages, safe, staging, strap⟩

theorem kept_storeFrom {c : Instr} {x : Ps} {strap : Bool} : Kept (PsChange c) (StoreFrom c x strap) :=
  .of (setMem := fun _ p => { p with }) (setFree := fun p => { p with }) (setRiu := fun _ p => { p with }) (setEtu := fun _ p => { p with })
    (setQu := fun p => { p with }) (setSu := fun _ p => { p with }) (setRu := fun _ p => { p with }) (setDm := fun p => { p with })
    (setDs := fun _ p => { p with }) (setDr := fun _ p => { p with }) (setLc := fun _ p => { p with }) (setPs := fun change p => p.change change)

/-- Settles O13: of `PsChange`, only the end of a commit changes the pages, only the end of a FORMAT the SAFE flag and only STORE_STAGE the staging page; no operation changes the
strap. -/
theorem storeChangesOnlyByItsOwnCommands : Obligations.StoreChangesOnlyByItsOwnCommands := by
  unfold Obligations.StoreChangesOnlyByItsOwnCommands
  intro c s t e
  have before : StoreFrom c s.ps s.strap s := ⟨.inl rfl, .inl rfl, .inl rfl, .inl rfl⟩
  have after : NextHas (StoreFrom c s.ps s.strap) (exec c s) := by
    refine kept_storeFrom.exec id (fun strap n u isCold _ => ?_) before
    have cold : ∃ b n, c = .coldStart b n := ⟨strap, n, isCold⟩
    have any : ∀ w, StoreFrom c s.ps s.strap w := fun w => ⟨.inr (.inr cold), .inr (.inr cold), .inr (.inr (.inr cold)), .inr cold⟩
    exact ⟨any _, any _⟩
  obtain ⟨pages, safe, staging, strap⟩ := NextHas.next_iff.1 (e ▸ after)
  exact ⟨pages, safe, staging, strap⟩

end Sys2Proof.Machine
end

section
/-! Fields of a byte record, and O14: the record of a request reads back as the request. -/

namespace Sys2Proof.Machine

/-! ### Little-endian fields -/

@[simp] theorem length_le (w n : Nat) : (le w n).length = w := by
  induction w generalizing n with
  | zero => rfl
  | succ w ih => exact congrArg Nat.succ (ih _)

theorem ofLe_le {w : Nat} : ∀ {n : Nat}, n < 256 ^ w → ofLe (le w n) = n := by
  induction w with
  | zero => intro n small; exact (Nat.lt_one_iff.1 small).symm
  | succ w ih =>
    intro n small
    have rest : n / 256 < 256 ^ w := Nat.div_lt_of_lt_mul (by rwa [pow_succ, mul_comm] at small)
    rw [le, ofLe, ih rest, BitVec.toNat_ofNat]
    omega

theorem lt_of_fits {w n : Nat} (small : fits w n = true) : n < 256 ^ w := by
  rw [show (256 : Nat) = 2 ^ 8 from rfl, ← pow_mul]
  exact of_decide_eq_true small

/-- The field that starts a record is read back. -/
theorem field_le {w n : Nat} (small : fits w n = true) (l : List Byte) : field (le w n ++ l) 0 w = n := by
  rw [field, List.drop_zero, List.take_left' (length_le w n), ofLe_le (lt_of_fits small)]

/-- Fields stand one after another. -/
theorem field_append {a : List Byte} {k o w : Nat} (len : a.length = k) (after : k ≤ o) (l : List Byte) : field (a ++ l) o w = field l (o - k) w := by
  rw [field, field, List.drop_append, List.drop_eq_nil_of_le (len.trans_le after), len, List.nil_append]

/-! ### Flags -/

theorem bitOf_flagBit (b : Bool) (i : Nat) : bitOf (flagBit b i) i = b := by
  cases b
  · simp [bitOf, flagBit]
  · simp [bitOf, flagBit, Nat.div_self (Nat.two_pow_pos i)]

theorem optional_isSome (x : Option Nat) : optional x.isSome (x.getD 0) = x := by cases x <;> rfl

theorem fits_getD {w : Nat} {x : Option Nat} (small : fitsOpt w x = true) : fits w (x.getD 0) = true := by
  cases x with
  | none => exact decide_eq_true (Nat.two_pow_pos _)
  | some n => exact small

/-- The flags of the requests that have two (Table 11-3). -/
theorem bitOf_twoFlags (a b : Bool) :
    bitOf (flagBit a 3 + flagBit b 4) 3 = a ∧ bitOf (flagBit a 3 + flagBit b 4) 4 = b ∧ bitOf (flagBit a 4 + flagBit b 5) 4 = a ∧
      bitOf (flagBit a 4 + flagBit b 5) 5 = b := by
  revert a b
  decide

/-- The flags of the requests that have three (Table 11-3). -/
theorem bitOf_threeFlags (a b c : Bool) :
    bitOf (flagBit a 0 + flagBit b 1 + flagBit c 2) 0 = a ∧ bitOf (flagBit a 0 + flagBit b 1 + flagBit c 2) 1 = b ∧
      bitOf (flagBit a 0 + flagBit b 1 + flagBit c 2) 2 = c ∧ bitOf (flagBit a 0 + flagBit b 4 + flagBit c 5) 0 = a ∧
      bitOf (flagBit a 0 + flagBit b 4 + flagBit c 5) 4 = b ∧ bitOf (flagBit a 0 + flagBit b 4 + flagBit c 5) 5 = c := by
  revert a b c
  decide

/-! ### The record of a request -/

/-- The zeros after the last parameter. -/
def recordTail (q : Request) : List Byte := zeros (64 - (10 + (requestParams q).length))

theorem requestBytes_eq (tag : Nat) (q : Request) :
    requestBytes tag q = le 8 tag ++ (le 1 (kindCode q) ++ (le 1 (requestFlags q) ++ (requestParams q ++ recordTail q))) := by
  simp only [requestBytes, recordTail, List.append_assoc, List.length_append, length_le]
  congr 6
  omega

theorem fits_kindCode (q : Request) : fits 1 (kindCode q) = true := by cases q <;> rfl

theorem fits_requestFlags (q : Request) : fits 1 (requestFlags q) = true := by
  have one : ∀ a : Bool, fits 1 (flagBit a 0) = true ∧ fits 1 (flagBit a 4) = true := by decide
  have two : ∀ a b : Bool, fits 1 (flagBit a 3 + flagBit b 4) = true ∧ fits 1 (flagBit a 4 + flagBit b 5) = true := by decide
  have three : ∀ a b c : Bool, fits 1 (flagBit a 0 + flagBit b 1 + flagBit c 2) = true ∧ fits 1 (flagBit a 0 + flagBit b 4 + flagBit c 5) = true := by
    decide
  cases q with
  | charge p => exact (one _).1
  | loadExtent p => exact (three ..).1
  | loadSnapshot p => exact (one _).2
  | setLimit p => exact (one _).2
  | loadAccount p => exact (two ..).1
  | restore p => exact (three ..).2
  | probe p => exact (one _).2
  | runStart p => exact (two ..).2
  | _ => rfl

section
variable (tag : Nat) (q : Request)

theorem field_tag (small : fits 8 tag = true) : field (requestBytes tag q) 0 8 = tag := by rw [requestBytes_eq, field_le small]

@[simp] theorem field_kind : field (requestBytes tag q) 8 1 = kindCode q := by
  rw [requestBytes_eq, field_append (length_le ..) (Nat.le_refl 8), field_le (fits_kindCode q)]

@[simp] theorem field_flags : field (requestBytes tag q) 9 1 = requestFlags q := by
  rw [requestBytes_eq, field_append (length_le ..) (by decide), field_append (length_le ..) (Nat.le_refl 1), field_le (fits_requestFlags q)]

theorem drop_params {o : Nat} (after : 10 ≤ o) : (requestBytes tag q).drop o = (requestParams q ++ recordTail q).drop (o - 10) := by
  have head : (le 8 tag ++ le 1 (kindCode q) ++ le 1 (requestFlags q)).length = 10 := by simp
  rw [requestBytes_eq, ← List.append_assoc, ← List.append_assoc, List.drop_append, List.drop_eq_nil_of_le (head.trans_le after), head, List.nil_append]

theorem field_params {o w : Nat} (after : 10 ≤ o) : field (requestBytes tag q) o w = field (requestParams q ++ recordTail q) (o - 10) w := by
  rw [field, field, drop_params tag q after]

theorem length_requestParams (fit : q.fits = true) : (requestParams q).length ≤ 54 := by
  cases q with
  | storeStage p =>
    simp only [Request.fits, Bool.and_eq_true, decide_eq_true_iff] at fit
    simp [requestParams, fit.2]
  | _ => simp [requestParams, chargeBytes]

theorem length_requestBytes (fit : q.fits = true) : (requestBytes tag q).length = 64 := by
  have := length_requestParams q fit
  simp only [requestBytes_eq, recordTail, zeros, List.length_append, length_le, List.length_replicate]
  omega
end

/-- Each parameter stands where it is read. -/
theorem readRequest_requestBytes (tag : Nat) (q : Request) (fit : q.fits = true) : readRequest (requestBytes tag q) = some q := by
  unfold readRequest
  cases q with
  | storeStage p =>
    simp only [Request.fits, Bool.and_eq_true, decide_eq_true_iff] at fit
    obtain ⟨⟨offset, count⟩, data⟩ := fit
    have bytes : ((requestBytes tag (.storeStage p)).drop 12).take 32 = p.data := by
      have params : (requestParams (.storeStage p)).drop 2 = p.data := by
        rw [requestParams, List.append_assoc, ← List.append_assoc, List.drop_left' (by simp)]
      rw [drop_params _ _ (by decide), List.drop_append_of_le_length (by simp [requestParams]; omega), params, List.take_left' data]
    simp [kindCode, bytes, field_params, requestParams, field_le, field_append (length_le ..), offset, count]
  | _ =>
    simp only [Request.fits, ChargeParams.fits, Bool.and_eq_true] at fit
    simp [kindCode, readCharge, field_params, requestParams, chargeBytes, field_le, field_append (length_le ..), fits_getD, fit, requestFlags,
      bitOf_flagBit, bitOf_twoFlags, bitOf_threeFlags, optional_isSome]

/-- Settles O14. -/
theorem requestRecordReadsBack : Obligations.RequestRecordReadsBack := by
  unfold Obligations.RequestRecordReadsBack
  intro tag q small fit
  exact ⟨length_requestBytes tag q fit, readRequest_requestBytes tag q fit, field_tag tag q (decide_eq_true small)⟩

end Sys2Proof.Machine
end

section
/-! O15: a frame that a part sends passes the checks of the part that takes it in, and the lists of a BATCH_HEAD read back. -/

namespace Sys2Proof.Machine

/-! ### The header -/

theorem ofLe_lt (bs : List Byte) : ofLe bs < 256 ^ bs.length := by
  induction bs with
  | nil => exact Nat.one_pos
  | cons b bs ih =>
    have := b.isLt
    rw [ofLe, List.length_cons, pow_succ]
    omega

theorem field_lt (bs : List Byte) (o w : Nat) : field bs o w < 256 ^ w :=
  (ofLe_lt _).trans_le (Nat.pow_le_pow_right (by decide) (List.length_take_le ..))

theorem headerCheck_lt (h : List Byte) : headerCheck h < 65536 :=
  List.foldlRecOn (motive := fun n => n < 65536) _ _ (Nat.zero_lt_succ _) fun _ small o _ => checkAdd_lt small (field_lt h o 2)

theorem fits_headerCheck (h : List Byte) : fits 2 (headerCheck h) = true := decide_eq_true (headerCheck_lt h)

/-- The header after its check field. -/
def headerRest (localId : Nat) (f : OutFrame) : List Byte :=
  le 4 localId ++ (le 4 f.runId ++ (le 1 f.sendVol ++ (le 1 f.recvVol ++ (le 2 f.payload.length ++ (le 4 f.seq ++ le 4 f.arg)))))

section
variable (check localId : Nat) (f : OutFrame)

theorem headerWith_eq : headerWith check localId f = le 1 f.kind.code ++ (le 1 f.dir.code ++ (le 2 check ++ headerRest localId f)) := by
  simp [headerWith, headerRest]

@[simp] theorem length_headerWith : (headerWith check localId f).length = 24 := by simp [headerWith_eq, headerRest]

/-- A field before the check field or after it does not depend on the check. -/
theorem field_headerWith_rest {o w : Nat} (after : 4 ≤ o) : field (headerWith check localId f) o w = field (headerRest localId f) (o - 4) w := by
  rw [headerWith_eq, field_append (length_le ..) (by omega), field_append (length_le ..) (by omega), field_append (length_le ..) (by omega)]
  congr 1

theorem field_headerWith_start : field (headerWith check localId f) 0 2 = ofLe (le 1 f.kind.code ++ le 1 f.dir.code) := by
  rw [headerWith_eq, ← List.append_assoc, field, List.drop_zero, List.take_left' (by simp)]

theorem field_headerWith_check {check : Nat} (fit : fits 2 check = true) (l : List Byte) : field (headerWith check localId f ++ l) 2 2 = check := by
  simp [headerWith_eq, field_append (length_le ..), field_le fit]

theorem headerCheck_headerWith : headerCheck (headerWith check localId f) = headerCheck (headerWith 0 localId f) := by
  simp [headerCheck, field_headerWith_start, field_headerWith_rest]
end

/-! ### A sent frame -/

theorem frameBytes_eq (localId : Nat) (f : OutFrame) (padding : List Byte) :
    frameBytes localId f ++ padding =
      headerWith (headerCheck (headerWith 0 localId f)) localId f ++ (f.payload ++ padding) := List.append_assoc ..

section
variable {localId : Nat} {f : OutFrame} (padding : List Byte)

theorem headerCheck_frameBytes : headerCheck ((frameBytes localId f ++ padding).take 24) = field (frameBytes localId f ++ padding) 2 2 := by
  rw [frameBytes_eq, List.take_left' (length_headerWith ..), headerCheck_headerWith, field_headerWith_check _ _ (fits_headerCheck _)]

theorem fits_kind (k : FrameKind) : fits 1 k.code = true := by cases k <;> rfl
theorem fits_dir (d : Direction) : fits 1 d.code = true := by cases d <;> rfl
theorem FrameKind.ofCode_code (k : FrameKind) : FrameKind.ofCode k.code = some k := by cases k <;> rfl
theorem Direction.ofCode_code (d : Direction) : Direction.ofCode d.code = some d := by cases d <;> rfl

theorem field_frameBytes_kind : field (frameBytes localId f ++ padding) 0 1 = f.kind.code := by
  simp only [frameBytes_eq, headerWith_eq, List.append_assoc, field_le (fits_kind _)]

theorem field_frameBytes_dir : field (frameBytes localId f ++ padding) 1 1 = f.dir.code := by
  simp only [frameBytes_eq, headerWith_eq, List.append_assoc, field_append (length_le ..), Nat.le_refl, Nat.sub_self, field_le (fits_dir _)]

/-- The fields of a frame fit the header (Table 8-2). -/
structure FrameFits (localId : Nat) (f : OutFrame) : Prop where
  id : fits 4 localId = true
  runId : fits 4 f.runId = true
  sendVol : fits 1 f.sendVol = true
  recvVol : fits 1 f.recvVol = true
  length : fits 2 f.payload.length = true
  seq : fits 4 f.seq = true
  arg : fits 4 f.arg = true

/-- The fields after the check read as sent. -/
theorem fields_frameBytes (fit : FrameFits localId f) :
    field (frameBytes localId f ++ padding) 4 4 = localId ∧ field (frameBytes localId f ++ padding) 8 4 = f.runId ∧
      field (frameBytes localId f ++ padding) 12 1 = f.sendVol ∧ field (frameBytes localId f ++ padding) 13 1 = f.recvVol ∧
      field (frameBytes localId f ++ padding) 14 2 = f.payload.length ∧ field (frameBytes localId f ++ padding) 16 4 = f.seq ∧
      field (frameBytes localId f ++ padding) 20 4 = f.arg := by
  obtain ⟨id, runId, sendVol, recvVol, length, seq, arg⟩ := fit
  simp [frameBytes_eq, headerWith_eq, headerRest, field_append (length_le ..), field_le, id, runId, sendVol, recvVol, length, seq, arg]

theorem payload_frameBytes : ((frameBytes localId f ++ padding).drop 24).take f.payload.length = f.payload := by
  rw [frameBytes_eq, List.drop_left' (length_headerWith ..), List.take_left]

theorem length_frameBytes : (frameBytes localId f ++ padding).length = 24 + f.payload.length + padding.length := by
  rw [frameBytes_eq, List.length_append, length_headerWith, List.length_append, Nat.add_assoc]

theorem formCheck_frameBytes {s : State} {i : Ctx} {src : Nat} (fit : FrameFits localId f) (peer : s.lc.peers[i].id = localId)
    (direction : dirAllowed f.kind f.dir = true) (length : lengthAllowed f.kind f.arg f.payload.length = true)
    (argument : argAllowed f.kind f.arg = true) (short : f.payload.length ≤ 8976) :
    formCheck s i ⟨true, s.lc.station, src, s.lc.etherType, frameBytes localId f ++ padding⟩ =
      some ⟨i, src, ⟨f.kind, f.dir, localId, f.runId, f.sendVol, f.recvVol, f.seq, f.arg⟩, f.payload⟩ := by
  obtain ⟨id, runId, sendVol, recvVol, len, seq, arg⟩ := fields_frameBytes padding fit
  have whole : 24 + f.payload.length ≤ (frameBytes localId f ++ padding).length := by rw [length_frameBytes]; omega
  simp only [formCheck, field_frameBytes_kind, field_frameBytes_dir, FrameKind.ofCode_code, Direction.ofCode_code, id, runId, sendVol, recvVol, len, seq,
    arg, payload_frameBytes, peer, direction, length, argument, short, whole, and_self, if_true]

theorem arrival_frameBytes {s : State} {i : Ctx} {src : Nat} (fit : FrameFits localId f) (up : s.lc.up = true) (enabled : s.lc.peers[i].enabled = true)
    (address : s.lc.peers[i].address = src) (peer : s.lc.peers[i].id = localId)
    (lowest : ∀ j : Ctx, j < i → s.lc.peers[j].enabled = true → s.lc.peers[j].address = src → s.lc.peers[j].id ≠ localId)
    (direction : dirAllowed f.kind f.dir = true) (length : lengthAllowed f.kind f.arg f.payload.length = true)
    (argument : argAllowed f.kind f.arg = true) (short : f.payload.length ≤ 8976) (port : 24 + f.payload.length + padding.length ≤ 9000) :
    s.arrival ⟨true, s.lc.station, src, s.lc.etherType, frameBytes localId f ++ padding⟩ =
      .pass ⟨i, src, ⟨f.kind, f.dir, localId, f.runId, f.sendVol, f.recvVol, f.seq, f.arg⟩, f.payload⟩ := by
  have len := length_frameBytes (localId := localId) (f := f) padding
  obtain ⟨id, -⟩ := fields_frameBytes padding fit
  have takes : s.portTakes ⟨true, s.lc.station, src, s.lc.etherType, frameBytes localId f ++ padding⟩ = true := by
    simp [State.portTakes, len, port]
  have charged : s.chargedEntry src (senderIdOf ⟨true, s.lc.station, src, s.lc.etherType, frameBytes localId f ++ padding⟩) = some i :=
    State.chargedEntry_of_sender (f := ⟨true, s.lc.station, src, s.lc.etherType, frameBytes localId f ++ padding⟩) (by dsimp only; omega) enabled address
      (peer.trans id.symm) fun j before on from_src => id.symm ▸ lowest j before on from_src
  have header : ¬((frameBytes localId f ++ padding).length < 24 ∨
      headerCheck ((frameBytes localId f ++ padding).take 24) ≠ field (frameBytes localId f ++ padding) 2 2) := by
    rintro (tooShort | differs)
    · omega
    · exact differs (headerCheck_frameBytes padding)
  simp only [State.arrival, up, takes, charged, if_neg header, formCheck_frameBytes padding fit peer direction length argument short, Bool.and_self, if_true]
end

/-! ### The lists of a BATCH_HEAD -/

/-- Records of one length, cut one after another. -/
theorem cutRecords_flatMap {α : Type} {f : α → List Byte} {w : Nat} (len : ∀ x, (f x).length = w) (rest : List Byte) (l : List α) :
    cutRecords w l.length (l.flatMap f ++ rest) = l.map f := by
  induction l with
  | nil => rfl
  | cons x l ih =>
    rw [List.map_cons, ← ih]
    simp only [cutRecords, List.length_cons, List.range_succ_eq_map, List.map_cons, List.map_map, List.flatMap_cons, List.append_assoc, Nat.mul_zero,
      List.drop_zero, List.take_left' (len x)]
    refine congrArg (List.cons _) (List.map_congr_left fun i _ => ?_)
    rw [Function.comp, Nat.mul_succ, Nat.add_comm, ← List.drop_drop, List.drop_left' (len x)]

theorem length_flatMap {α : Type} {f : α → List Byte} {w : Nat} (len : ∀ x, (f x).length = w) (l : List α) : (l.flatMap f).length = w * l.length := by
  simp [List.length_flatMap, len, Nat.mul_comm]

theorem length_entryBytes (e : PayloadEntry) : (entryBytes e).length = 32 := by simp [entryBytes]

theorem length_runBytes (r : Run) : (runBytes r).length = 8 := by simp [runBytes]

theorem readEntry_entryBytes {e : PayloadEntry} (first : fits 6 e.first = true) (len : e.len < 8192) (object : fits 6 e.object = true)
    (offset : fits 6 e.offset = true) (owner : fits 4 e.owner = true) (birth : fits 4 e.birth = true) (group : fitsOpt 4 e.group = true) :
    readEntry (entryBytes e) = e := by
  obtain ⟨a, n, o, p, q, g, b⟩ := e
  have bit : flagBit g.isSome 15 = if g.isSome then 32768 else 0 := rfl
  have word : fits 2 (n + flagBit g.isSome 15) = true := decide_eq_true (by rw [bit]; split <;> dsimp only at len <;> omega)
  have tail : field (le 4 b) 0 4 = b := by simpa using field_le birth []
  simp only [readEntry, entryBytes, List.append_assoc, field_append (length_le ..), Nat.reduceLeDiff, Nat.le_refl, Nat.reduceSub, field_le, first, word, object,
    offset, owner, fits_getD group, tail, PayloadEntry.mk.injEq, true_and, and_true]
  rw [bit]
  dsimp only at len
  cases g <;> simp <;> omega

theorem readRun_runBytes {r : Run} (first : fits 6 r.first = true) (len : fits 2 r.len = true) : readRun (runBytes r) = r := by
  have tail : field (le 2 r.len) 0 2 = r.len := by simpa using field_le len []
  simp only [readRun, runBytes, field_append (length_le ..), Nat.le_refl, Nat.sub_self, field_le first, tail]

theorem readHead_headPayload {es : List PayloadEntry} {ds : List Run} (few : es.length < 65536) (entries : ∀ e ∈ es, readEntry (entryBytes e) = e)
    (deletions : ∀ d ∈ ds, readRun (runBytes d) = d) : readHead (headArg es ds) (headPayload es ds) = (es, ds) := by
  have low : headArg es ds % 65536 = es.length := by rw [headArg]; omega
  have high : headArg es ds / 65536 = ds.length := by rw [headArg]; omega
  have second : (headPayload es ds).drop (32 * es.length) = ds.flatMap runBytes ++ [] := by
    rw [headPayload, List.drop_left' (length_flatMap length_entryBytes es), List.append_nil]
  rw [readHead, low, high, second, headPayload, cutRecords_flatMap length_entryBytes, cutRecords_flatMap length_runBytes, List.map_map, List.map_map]
  exact Prod.ext ((List.map_congr_left entries).trans (List.map_id _)) ((List.map_congr_left deletions).trans (List.map_id _))

/-- Settles O15: the header reads back field by field, its check is that of the header without it, and the lists are cut as they were written. -/
theorem sentFrameArrivesWhole : Obligations.SentFrameArrivesWhole := by
  unfold Obligations.SentFrameArrivesWhole
  refine ⟨fun s i src id f padding up enabled address peer lowest direction length argument id4 runId sendVol recvVol seq arg short port => ?frame,
    fun es ds fewEntries _ entries deletions => ⟨?length, readHead_headPayload fewEntries ?entries ?deletions⟩⟩
  case frame =>
    refine arrival_frameBytes padding ?_ up enabled address peer lowest direction length argument short port
    exact ⟨decide_eq_true id4, decide_eq_true runId, decide_eq_true sendVol, decide_eq_true recvVol, decide_eq_true (by omega), decide_eq_true seq,
      decide_eq_true arg⟩
  case length => rw [headPayload, List.length_append, length_flatMap length_entryBytes, length_flatMap length_runBytes]
  case entries =>
    intro e mem
    obtain ⟨first, len, object, offset, owner, birth, group⟩ := entries e mem
    refine readEntry_entryBytes (decide_eq_true first) len (decide_eq_true object) (decide_eq_true offset) (decide_eq_true owner) (decide_eq_true birth) ?_
    cases known : e.group with
    | none => rfl
    | some g => exact decide_eq_true (group g known)
  case deletions =>
    intro d mem
    obtain ⟨first, len⟩ := deletions d mem
    exact readRun_runBytes (decide_eq_true first) (decide_eq_true len)

end Sys2Proof.Machine
end

section
/-! Answers, the pointer and register writes, intake, and the gates of a request (O17, O20, O21, O22). -/

namespace Sys2Proof.Machine

/-! ### PCI Express memory -/

/-- A written run reads back as written. -/
theorem readBytes_writeBytes {s : State} {a : Nat} {bs : List Byte} (ok : memOk s.mem) (inside : a + bs.length ≤ 2 ^ 64) :
    (s.writeBytes a bs).readBytes a bs.length = bs := by
  refine List.ext_getElem (by simp [State.readBytes]) fun i _ small => ?_
  have address : addr64 (a + i) = a + i := Nat.mod_eq_of_lt (by omega)
  simp only [State.readBytes, List.getElem_map, List.getElem_range, State.readByte, address]
  exact readByte_write_same s.mem a bs ok i small inside

/-- Every other byte reads as before. -/
theorem readByte_writeBytes_other {s : State} {a b : Nat} {bs : List Byte} (ok : memOk s.mem) (inside : a + bs.length ≤ 2 ^ 64) (small : b < 2 ^ 64)
    (outside : b < a ∨ a + bs.length ≤ b) : (s.writeBytes a bs).readByte b = s.readByte b := by
  have address : addr64 b = b := Nat.mod_eq_of_lt small
  simp only [State.readByte, address]
  refine readByte_write_other s.mem a bs ok b fun i short => ?_
  have : addr64 (a + i) = a + i := Nat.mod_eq_of_lt (by omega)
  omega

/-! ### Answers (R182 to R185) -/

@[simp] theorem length_answerBytes (phase : Bool) (x : Answer) : (answerBytes phase x).length = 32 := by simp [answerBytes, zeros]

theorem answerBytes_eq (phase : Bool) (x : Answer) :
    answerBytes phase x = le 8 x.tag ++ le 1 x.kind ++ le 1 x.status ++ le 1 (if phase then 1 else 0) ++ [0] ++ le 4 x.a ++ le 8 x.b ++ le 8 x.c := by
  simp only [answerBytes, flagBit, pow_zero, zeros, List.replicate_one]

section
variable (s : State) (r : RingNo) (x : Ring) (a n : Nat) (bs : List Byte)
theorem State.readByte_setRing : (s.setRing r x).readByte a = s.readByte a := rfl
theorem State.readBytes_setRing : (s.setRing r x).readBytes a n = s.readBytes a n := rfl
theorem State.writeBytes_setRing_mem : (s.writeBytes a bs).setRing r x = (s.setMem ((s.writeBytes a bs).setRing r x).mem).setRing r x := rfl
end

theorem writeAnswer_eq (r : RingNo) (x : Answer) (s : State) :
    writeAnswer r x s = (s.setMem (writeAnswer r x s).mem).setRing r (s.ring r).advance := by
  unfold writeAnswer
  exact State.writeBytes_setRing_mem ..

/-- The 32 bytes of an answer stand at its place, and every other byte is as before. -/
theorem writeAnswer_memory {s : State} {r : RingNo} (x : Answer) (ok : memOk s.mem)
    (inside : (s.ring r).setup.ansBase + 32 * (s.ring r).posted + 32 ≤ 2 ^ 64) :
    (writeAnswer r x s).readBytes ((s.ring r).setup.ansBase + 32 * (s.ring r).posted) 32 = answerBytes (s.ring r).phase x ∧
      ∀ a < 2 ^ 64, (a < (s.ring r).setup.ansBase + 32 * (s.ring r).posted ∨ (s.ring r).setup.ansBase + 32 * (s.ring r).posted + 32 ≤ a) →
        (writeAnswer r x s).readByte a = s.readByte a := by
  have len := length_answerBytes (s.ring r).phase x
  have fit : (s.ring r).setup.ansBase + 32 * (s.ring r).posted + (answerBytes (s.ring r).phase x).length ≤ 2 ^ 64 := by rwa [len]
  have stands := readBytes_writeBytes ok fit
  rw [len] at stands
  unfold writeAnswer
  exact ⟨(State.readBytes_setRing ..).trans stands, fun a small outside =>
    (State.readByte_setRing ..).trans (readByte_writeBytes_other ok fit small (by rwa [len]))⟩

section
variable {s : State} {r : RingNo} (x : Answer) (o : AnswerOwner)

theorem answerDue_of_quiet (quiet : (s.ring r).state = .disabled ∨ (s.ring r).state = .faulted) : answerDue r x o s = (s, true) := by
  rcases quiet with disabled | faulted
  · simp only [answerDue, disabled]
  · simp only [answerDue, faulted]

theorem answerDue_of_stalled (stalled : (s.ring r).state = .stalled) :
    answerDue r x o s = if (s.ring r).waiting = [] ∧ (s.ring r).holder.length < Config.maxHolder
      then (s.setRing r { s.ring r with holder := (s.ring r).holder ++ [x] }, true)
      else (s.setRing r { s.ring r with waiting := (s.ring r).waiting ++ [⟨x, o⟩] }, false) := by
  simp only [answerDue, stalled, Bool.and_eq_true, List.isEmpty_iff, decide_eq_true_iff]

theorem answerDue_of_enabled (enabled : (s.ring r).state = .enabled) :
    answerDue r x o s = if (s.ring r).room = true ∧ (s.ring r).holder = [] then (writeAnswer r x s, true)
      else if (s.ring r).holder.length < Config.maxHolder then (s.setRing r { s.ring r with holder := (s.ring r).holder ++ [x] }, true)
      else (s.setRing r { s.ring r with waiting := (s.ring r).waiting ++ [⟨x, o⟩], state := .stalled, stallSeen := true }, false) := by
  simp only [answerDue, enabled, Bool.and_eq_true, List.isEmpty_iff]
end

/-- Settles O17: where an answer stands, and the branches of `answerDue`. -/
theorem answersAreWrittenHeldOrWait : Obligations.AnswersAreWrittenHeldOrWait := by
  unfold Obligations.AnswersAreWrittenHeldOrWait
  refine ⟨fun s r x ok inside => ?written, fun s r x o => ⟨?quiet, ?waits, ?drained, ?room, ?held, ?stalls⟩⟩
  case written =>
    obtain ⟨stands, others⟩ := writeAnswer_memory x ok inside
    rw [answerBytes_eq] at stands
    exact ⟨_, rfl, stands, others, writeAnswer_eq r x s⟩
  case quiet => exact answerDue_of_quiet x o
  case waits =>
    intro stalled full
    rw [answerDue_of_stalled x o stalled, if_neg]
    rintro ⟨noneWaits, space⟩
    exact full.elim (· noneWaits) (not_le.2 space)
  case drained =>
    intro stalled noneWaits space
    exact (answerDue_of_stalled x o stalled).trans (if_pos ⟨noneWaits, space⟩)
  case room =>
    intro enabled _ few empty
    exact (answerDue_of_enabled x o enabled).trans (if_pos ⟨(Ring.room_iff _).2 (Nat.add_lt_of_lt_sub few), empty⟩)
  case held =>
    intro enabled space full
    rw [answerDue_of_enabled x o enabled, if_neg]
    · exact if_pos space
    rintro ⟨room, empty⟩
    rw [Ring.room_iff, Ring.unconsumed] at room
    exact full.elim (fun noRoom => by omega) (· empty)
  case stalls =>
    intro enabled full
    rw [answerDue_of_enabled x o enabled, if_neg fun h => by simp [h.2] at full, if_neg (by rw [full]; decide)]

/-! ### Pointer and register writes (R174, R177, R178) -/

section
variable {s : State} {r : RingNo} {n : Nat}

theorem faultRing_of_quiet {cause : RingCause} (quiet : (s.ring r).state = .disabled ∨ (s.ring r).state = .faulted) : faultRing r cause s = s := by
  rcases quiet with disabled | faulted
  · simp only [faultRing, disabled]
  · simp only [faultRing, faulted]

/-- A running ring that has nothing waiting drops what its holder has. -/
theorem faultRing_of_running {cause : RingCause} (running : (s.ring r).state = .enabled ∨ (s.ring r).state = .stalled) (noneWaits : (s.ring r).waiting = []) :
    faultRing r cause s = s.setRing r { s.ring r with state := .faulted, cause := cause, holder := [] } := by
  rcases running with enabled | stalled
  · simp only [faultRing, enabled, quietRing, noneWaits, List.foldl_nil]
  · simp only [faultRing, stalled, quietRing, noneWaits, List.foldl_nil]

theorem writeTail_of_running (running : (s.ring r).state ≠ .disabled) :
    writeTail r n s = if n < (s.ring r).setup.reqSize then s.setRing r { s.ring r with tail := n } else faultRing r .tailRange s := if_neg running

theorem writeConsumed_of_running (running : (s.ring r).state ≠ .disabled) :
    writeConsumed r n s = if n < (s.ring r).setup.ansSize
      then (if ((s.setRing r { s.ring r with consumed := n }).ring r).room = true ∧ (s.ring r).state ≠ .faulted
        then drain r (s.setRing r { s.ring r with consumed := n }) else s.setRing r { s.ring r with consumed := n })
      else faultRing r .consumedRange s := if_neg running

/-- A ring that holds nothing has nothing to drain. -/
theorem drain_of_nothing (empty : (s.ring r).holder = []) (noneWaits : (s.ring r).waiting = []) (notStalled : (s.ring r).state ≠ .stalled) :
    drain r s = s := by
  have none : drainMove r s = none := by simp only [drainMove, noneWaits, drainMove.writeHeld, empty]
  simp only [drain, drainMoves, none]
  exact if_neg fun h => notStalled h.1

theorem writeConsumed_of_nothing (running : (s.ring r).state ≠ .disabled) (inRing : n < (s.ring r).setup.ansSize) (empty : (s.ring r).holder = [])
    (noneWaits : (s.ring r).waiting = []) (notStalled : (s.ring r).state ≠ .stalled) :
    writeConsumed r n s = s.setRing r { s.ring r with consumed := n } := by
  have atRing : (s.setRing r { s.ring r with consumed := n }).ring r = { s.ring r with consumed := n } := by rw [State.ring_setRing, if_pos rfl]
  have nothing : drain r (s.setRing r { s.ring r with consumed := n }) = s.setRing r { s.ring r with consumed := n } := by
    apply drain_of_nothing <;> rw [atRing]
    exacts [empty, noneWaits, notStalled]
  rw [writeConsumed_of_running running, if_pos inRing, nothing, ite_self]

theorem ringPlace_of_inside {o : Nat} (small : o < 0x40) : ringPlace (0x100 + o + 0x40 * r.val) = some (r, o) := by
  have := r.isLt
  have ring : (0x100 + o + 0x40 * r.val - 0x100) / 0x40 = r.val := by omega
  have place : (0x100 + o + 0x40 * r.val - 0x100) % 0x40 = o := by omega
  rw [ringPlace, if_pos (by omega), ring, place]
  simp [Fin.ofNat, Nat.mod_eq_of_lt this]

/-- A write of the window at a place of a ring's part of it. -/
theorem windowWrite_of_inside {o : Nat} (small : o < 0x40) :
    windowWrite (0x100 + o + 0x40 * r.val) n s =
      if o = 0x00 then s.setRing r { s.ring r with stored := { (s.ring r).stored with reqBase := n } }
      else if o = 0x08 then s.setRing r { s.ring r with stored := { (s.ring r).stored with ansBase := n } }
      else if o = 0x10 then writeRequestSize r n s
      else if o = 0x14 then writeAnswerSize r n s
      else if o = 0x18 then writeTail r n s
      else if o = 0x20 then writeConsumed r n s
      else if o = 0x2C then writeStallSeen r n s
      else s := by
  simp only [windowWrite, ringPlace_of_inside small]

theorem windowWrite_of_outside {o : Nat} (outside : o < 0x100 ∨ 0x200 ≤ o) : windowWrite o n s = s := by
  simp only [windowWrite, ringPlace, if_neg (show ¬(0x100 ≤ o ∧ o < 0x200) by omega)]
end

/-- Settles O20. -/
theorem pointerWritesAreCheckedAndStored : Obligations.PointerWritesAreCheckedAndStored := by
  unfold Obligations.PointerWritesAreCheckedAndStored
  intro s r n
  refine ⟨?disabled, ?tail, ?consumed, ?outOfRange, ?faulted, fun odd => congrArg _ (if_pos odd), fun even => congrArg _ (if_neg (by omega)),
    congrArg _ (windowWrite_of_inside (o := 0x00) (by decide)), congrArg _ (windowWrite_of_inside (o := 0x08) (by decide)), ?size,
    congrArg _ (windowWrite_of_inside (o := 0x10) (by decide)), congrArg _ (windowWrite_of_inside (o := 0x14) (by decide)),
    congrArg _ (windowWrite_of_inside (o := 0x18) (by decide)), congrArg _ (windowWrite_of_inside (o := 0x20) (by decide)),
    congrArg _ (windowWrite_of_inside (o := 0x2C) (by decide)), fun o outside => congrArg _ (windowWrite_of_outside outside)⟩
  case disabled => exact fun disabled => ⟨congrArg _ (if_pos disabled), congrArg _ (if_pos disabled)⟩
  case tail => exact fun running inRing => congrArg _ ((writeTail_of_running running).trans (if_pos inRing))
  case consumed => exact fun running inRing empty noneWaits notStalled => congrArg _ (writeConsumed_of_nothing running inRing empty noneWaits notStalled)
  case outOfRange =>
    intro running noneWaits
    have notDisabled : (s.ring r).state ≠ .disabled := by rcases running with state | state <;> simp [state]
    exact ⟨fun past => congrArg _ ((writeTail_of_running notDisabled).trans ((if_neg past.not_gt).trans (faultRing_of_running running noneWaits))),
      fun past => congrArg _ ((writeConsumed_of_running notDisabled).trans ((if_neg past.not_gt).trans (faultRing_of_running running noneWaits)))⟩
  case faulted =>
    intro faulted past
    exact congrArg _ ((writeTail_of_running (by simp [faulted])).trans ((if_neg past.not_gt).trans (faultRing_of_quiet (.inr faulted))))
  case size => exact fun positive => congrArg _ ((windowWrite_of_inside (o := 0x10) (by decide)).trans (if_neg positive))

/-! ### Intake (R178, R180) -/

theorem State.takingFrom_iff (s : State) (r : RingNo) :
    s.takingFrom r = true ↔ s.scanOf r ≠ none ∨ ∃ v, ∃ t ∈ (s.snapVol v).taking, t.ring = r := by
  rw [State.takingFrom, Bool.or_eq_true, Option.isSome_iff_ne_none, List.any_eq_true]
  refine or_congr Iff.rfl ⟨fun ⟨v, _, h⟩ => ?_, fun ⟨v, t, taking, same⟩ => ⟨v, List.mem_finRange v, ?_⟩⟩
  · split at h
    · next t taking => exact ⟨v, t, taking, of_decide_eq_true h⟩
    · exact nomatch h
  · rw [taking]
    exact decide_eq_true same

theorem State.mayTake_iff (s : State) (r : RingNo) :
    s.mayTake r = true ↔ (s.ring r).state = .enabled ∧ (s.ring r).requests ≠ 0 ∧ s.scanOf r = none ∧ ∀ v, ∀ t ∈ (s.snapVol v).taking, t.ring ≠ r := by
  have none : s.takingFrom r = false ↔ s.scanOf r = none ∧ ∀ v, ∀ t ∈ (s.snapVol v).taking, t.ring ≠ r := by
    rw [← Bool.not_eq_true, State.takingFrom_iff]
    simp only [not_or, not_not, not_exists, not_and]
  rw [State.mayTake, Bool.and_eq_true, Bool.and_eq_true, decide_eq_true_iff, decide_eq_true_iff, Bool.not_eq_true', none, and_assoc, Nat.pos_iff_ne_zero]

theorem requests_eq_zero_of_tail_eq_head {g : Ring} (empty : g.tail = g.head) : g.requests = 0 := by
  rw [Ring.requests, empty, Nat.add_sub_cancel_left, Nat.mod_self]

/-- A request given as its own command is handed over, but for the two whose buffer's runs are operands. -/
theorem exec_request {c : Instr} {r : RingNo} {tag : Nat} {q : Request} (s : State) (given : c.request = some (r, tag, q))
    (notRestore : ∀ p ts, c ≠ .restore r tag p ts) (notGiveRuns : ∀ p rs, c ≠ .giveRuns r tag p rs) : exec c s = .next (handOver r tag q s) := by
  cases c with
  | restore r' tag' p ts =>
    obtain ⟨rfl, rfl, rfl⟩ : r' = r ∧ tag' = tag ∧ Request.restore p = q := by simpa [Instr.request] using given
    exact (notRestore p ts rfl).elim
  | giveRuns r' tag' p rs =>
    obtain ⟨rfl, rfl, rfl⟩ : r' = r ∧ tag' = tag ∧ Request.giveRuns p = q := by simpa [Instr.request] using given
    exact (notGiveRuns p rs rfl).elim
  | scanOut r' tag' x => cases x <;> cases given <;> rfl
  | takeReleased x => cases x <;> cases given <;> rfl
  | _ => cases given <;> rfl

theorem exec_requestIntake_of_mayTake {s : State} {r : RingNo} (may : s.mayTake r = true) : exec (.requestIntake r) s = .next (takeRequest r s) := if_pos may

/-- Settles O21. -/
theorem intakeTakesTheRecordAtTheHead : Obligations.IntakeTakesTheRecordAtTheHead := by
  unfold Obligations.IntakeTakesTheRecordAtTheHead
  refine ⟨fun s r b enabled _ pending noScan noTaking record => ?taken, fun s r blocked inRing => if_neg ?nothing,
    fun c s r tag q => exec_request s, fun s r tag kind other => if_neg ?notListed⟩
  case taken =>
    have may : s.mayTake r = true := (s.mayTake_iff r).2 ⟨enabled, pending, noScan, noTaking⟩
    rw [exec_requestIntake_of_mayTake may, takeRequest, State.headRecord, ← record]
    refine ⟨_, rfl, fun q read => ?_, fun read => ?_⟩
    · simp only [read]
      rfl
    · simp only [read]
      rfl
  case nothing =>
    rw [State.mayTake_iff]
    rintro ⟨enabled, pending, noScan, noTaking⟩
    rcases blocked with off | empty | scan | ⟨v, t, taking, same⟩
    · exact off enabled
    · exact pending (requests_eq_zero_of_tail_eq_head empty)
    · exact scan noScan
    · exact noTaking v t taking same
  case notListed => simpa using other

/-! ### The gates of a request (R180, R200, R202) -/

theorem restore_gated (r : RingNo) (tag : Nat) (p : RestoreParams) (ts : List Run) (s : State) :
    ∃ act, reqRestore r tag p ts s = gated r tag (.restore p) (formOk (.restore p)) act s := ⟨_, rfl⟩

theorem giveRuns_gated (r : RingNo) (tag : Nat) (p : GiveRunsParams) (rs : List Run) (s : State) :
    ∃ act, reqGiveRuns r tag p rs s = gated r tag (.giveRuns p) (formOk (.giveRuns p)) act s := ⟨_, rfl⟩

/-- Each request passes the gates with its form check before its owner acts on it. -/
theorem handOver_gated (r : RingNo) (tag : Nat) (q : Request) (s : State) : ∃ act, handOver r tag q s = gated r tag q (formOk q) act s := by
  cases q with
  | restore p => exact restore_gated ..
  | giveRuns p => exact giveRuns_gated ..
  | _ =>
    apply Exists.intro
    dsimp only [handOver, reqCharge, reqSplit, reqDrop, reqQueryExtent, reqQueryVolume, reqLoadSnapshot, reqLoadExtent, reqOpenVolume, reqSealVolume,
      reqUnsealVolume, reqScanOut, reqSetLimit, reqLoadAccount, reqDropAccount, reqQueryAccount, reqSetClock, reqSnapshotCreate, reqSnapshotRetire,
      reqTakeReleased, reqProbe, reqCancelRestore, reqQueryMover, reqFaultClear, reqRunStart, reqRunCancel, reqQueryRun, reqReplicaReset,
      reqQueryInbound, reqQueryPeer, reqStoreStage, reqStoreCommit, reqStoreVerify, reqStoreRead, reqApplyDefinitions, reqFormat]
    rfl

theorem exec_request_gated {c : Instr} {r : RingNo} {tag : Nat} {q : Request} (s : State) (given : c.request = some (r, tag, q)) :
    ∃ act, exec c s = .next (gated r tag q (formOk q) act s) := by
  have gated_of {t : State} (acts : ∃ act, t = gated r tag q (formOk q) act s) :
      ∃ act, (Host.Outcome.next t : Host.Outcome State Fault Refusal) = .next (gated r tag q (formOk q) act s) :=
    acts.imp fun _ e => congrArg _ e
  cases c with
  | restore r' tag' p ts => cases given; exact gated_of (restore_gated ..)
  | giveRuns r' tag' p rs => cases given; exact gated_of (giveRuns_gated ..)
  | _ => exact exec_request s given (by simp) (by simp) ▸ gated_of (handOver_gated ..)

section
variable {s : State} {r : RingNo} {tag : Nat} {q : Request} {act : State → State}

theorem gated_of_safe (safe : s.ps.safe = true) (refused : safeAdmits q = false) : gated r tag q true act s = refuse r tag q .storeBad s := by
  simp [gated, State.gateRefusal, safe, refused]

theorem gated_of_format (up : s.ps.safe = false) (format : s.ps.format.isSome = true) (refused : formatAdmits q = false) :
    gated r tag q true act s = refuse r tag q .busy s := by
  simp [gated, State.gateRefusal, up, format, refused]
end

/-- Settles O22: every request goes through `gated`, whose refusals stand in this order. -/
theorem gateRefusalsAnswerAndChangeNothing : Obligations.GateRefusalsAnswerAndChangeNothing := by
  unfold Obligations.GateRefusalsAnswerAndChangeNothing
  intro c s r tag q given
  obtain ⟨act, acts⟩ := exec_request_gated s given
  rw [acts]
  refine ⟨fun bad => ?_, fun good safe refused => ?_, fun good up format refused => ?_⟩
  · rw [bad, gated_false]; rfl
  · rw [good, gated_of_safe safe refused]; rfl
  · rw [good, gated_of_format up format refused]; rfl

end Sys2Proof.Machine
end

section
/-! The refusals of the owners' rules in their order (O23). Each request has one equation that lists its checks in the model's order; a request that fails one is refused with its status, by
`refused_of_failing`. -/

namespace Sys2Proof.Machine

/-! ### Lists of checks -/

section
variable {r : RingNo} {tag : Nat} {q : Request} {act : State → State} {s : State}

theorem checked_firstFailure_cons (b : Bool) (st : Status) (l : List (Bool × Status)) :
    checked r tag q (firstFailure ((b, st) :: l)) act s = if b = true then refuse r tag q st s else checked r tag q (firstFailure l) act s := by
  cases b <;> rfl

theorem checked_append (l m : List (Bool × Status)) :
    checked r tag q (firstFailure (l ++ m)) act s = checked r tag q (firstFailure l) (checked r tag q (firstFailure m) act) s := by
  induction l with
  | nil => rfl
  | cons x l ih =>
    obtain ⟨b, st⟩ := x
    rw [List.cons_append, checked_firstFailure_cons, checked_firstFailure_cons, ih]

/-- The act matters at the state of the checks only. -/
theorem checked_congr {c : Option Status} {act' : State → State} (same : act s = act' s) : checked r tag q c act s = checked r tag q c act' s := by
  cases c
  · exact same
  · rfl
end

theorem firstFailing_map (l : List (Bool × Status)) :
    firstFailing (l.map fun x => (x.1, x.2.code)) = (firstFailure l).map Status.code := by
  induction l with
  | nil => rfl
  | cons x l ih =>
    obtain ⟨b, st⟩ := x
    cases b
    · exact ih
    · rfl

/-- A request whose checks are `l` is refused with the first of them that fails. -/
theorem refused_of_failing {r : RingNo} {tag n : Nat} {q : Request} {s t : State} (l : List (Bool × Status)) {act : State → State}
    (checks : t = checked r tag q (firstFailure l) act s) (failing : firstFailing (l.map fun x => (x.1, x.2.code)) = some n) :
    (Host.Outcome.next t : Host.Outcome State Fault Refusal) = .next (answer r ⟨tag, kindCode q, n, 0, 0, 0⟩ s) := by
  rw [firstFailing_map] at failing
  obtain ⟨st, fails, rfl⟩ := Option.map_eq_some_iff.1 failing
  rw [checks, fails, checked_some]
  rfl

/-- A request that fails none of its checks is acted on. -/
theorem passed_of_not_failing {r : RingNo} {tag : Nat} {q : Request} {s t : State} (l : List (Bool × Status)) {act : State → State}
    (checks : t = checked r tag q (firstFailure l) act s) (passes : firstFailing (l.map fun x => (x.1, x.2.code)) = none) : t = act s := by
  rw [firstFailing_map, Option.map_eq_none_iff] at passes
  rw [checks, passes, checked_none]

/-! ### The checks as the rules name them -/

theorem accountKindFault_isSome (s : State) (o : Nat) (g : Option Nat) :
    (accountKindFault s o g).isSome = (decide ((s.account o).kind ≠ .user) || g.any fun i => decide ((s.account i).kind ≠ .group)) := by
  unfold accountKindFault
  split
  case isTrue bad => simp [bad]
  case isFalse good =>
    cases g with
    | none => simp [good]
    | some i => by_cases group : (s.account i).kind = .group <;> simp [good, group]

theorem not_tableRoom (s : State) : (!s.tableRoom 1) = decide (16777216 ≤ s.extents.length) := by
  rw [State.tableRoom, Bool.eq_iff_iff, Bool.not_eq_true', decide_eq_false_iff_not, decide_eq_true_iff, Config.maxExtents]
  omega

theorem tableRoom_eq_false (s : State) : s.tableRoom 1 = false ↔ 16777216 ≤ s.extents.length := by
  rw [← Bool.not_eq_true', not_tableRoom, decide_eq_true_iff]

/-- The bad accounts of a LIVE record of a PRIMARY volume (R9). -/
def badKind (s : State) (o : Nat) (g : Option Nat) : Bool :=
  decide ((s.account o).kind ≠ .user) || g.any fun i => decide ((s.account i).kind ≠ .group)

theorem badKind_eq (s : State) (o : Nat) (g : Option Nat) : (accountKindFault s o g).isSome = badKind s o g := accountKindFault_isSome s o g

theorem accountKindFault_of_badKind {s : State} {o : Nat} {g : Option Nat} (bad : badKind s o g = true) :
    accountKindFault s o g = some (if (s.account o).kind = .user then g.getD 0 else o) := by
  by_cases user : (s.account o).kind = .user
  · cases g with
    | none => simp [badKind, user] at bad
    | some i =>
      have group : (s.account i).kind ≠ .group := by simpa [badKind, user] using bad
      simp [accountKindFault, user, group]
  · simp [accountKindFault, user]

theorem accountKindFault_of_not_badKind {s : State} {o : Nat} {g : Option Nat} (good : badKind s o g = false) : accountKindFault s o g = none := by
  rwa [← Option.not_isSome_iff_eq_none, badKind_eq, Bool.not_eq_true]

theorem not_neededBy (s : State) (v : Vol) (birth death : Nat) :
    (!s.neededBy v birth death) = (s.snapVol v).snaps.all fun x => !(decide (birth ≤ x.epoch) && decide (x.epoch < death)) := by
  rw [State.neededBy, List.not_any_eq_all_not]

theorem snapLabelled_isSome (s : State) (v : Vol) (l : Nat) :
    (s.snapLabelled v l).isSome = (s.snapVol v).snaps.any fun x => decide (x.label = l) := by
  rw [State.snapLabelled, Bool.eq_iff_iff, List.find?_isSome, List.any_eq_true]

theorem snapAt_isSome (s : State) (v : Vol) (n : Nat) : (s.snapAt v n).isSome = (s.snapVol v).snaps.any fun x => decide (x.epoch = n) := by
  rw [State.snapAt, Bool.eq_iff_iff, List.find?_isSome, List.any_eq_true]

theorem not_aboveSeen (s : State) (v : Vol) (e : Nat) : (!s.aboveSeen v e) = (s.vol v).seen.any fun m => decide (e ≤ m) := by
  unfold State.aboveSeen
  cases (s.vol v).seen with
  | none => rfl
  | some m => simp [← decide_not]

theorem not_unheld (x : Snapshot) : (!x.unheld) = (x.replBase || x.replTarget || decide (x.holds ≠ 0)) := by
  simp [Snapshot.unheld, Bool.not_and]

theorem freeCtx_isNone (s : State) : s.freeCtx.isNone = ctxList.all fun c => decide ((s.restoreCtx c).phase ≠ .free) := by
  rw [State.freeCtx, Bool.eq_iff_iff, Option.isNone_iff_eq_none, List.find?_eq_none, List.all_eq_true]
  simp

theorem recordHolding_isNone (s : State) (v : Vol) (n : Nat) :
    (s.recordHolding v n).isNone = (s.records v).all fun e => !(decide (e.first ≤ n) && decide (n < e.first + e.len)) := by
  rw [State.recordHolding, State.records, Bool.eq_iff_iff, Option.isNone_iff_eq_none, List.find?_eq_none, List.all_filter, List.all_eq_true]
  refine forall₂_congr fun e _ => ?_
  grind [Extent.stop]

/-! ### The checks of each request, in the model's order -/

section
variable {s : State} (up : s.up) (r : RingNo) (tag : Nat) {v : Vol}
include up

theorem reqCharge_checked {p : ChargeParams} (form : chargeOk p = true) (vol : p.volume = v.val) :
    reqCharge r tag p s = checked r tag (.charge p) (firstFailure
      [(decide ((s.vol v).state = .undefined), .noVolume), (decide ((s.vol v).defn.role = .replica), .volumeRole),
        (decide ((s.vol v).state ≠ .online), .volumeState), (decide ((s.vol v).defn.blockCount < p.first + p.len), .outOfRange),
        (badKind s p.owner p.group, .accountKind), (s.taken v ⟨p.first, p.len⟩, .overlap), (decide (16777216 ≤ s.extents.length), .tableFull)])
      (fun s => match twoAccountDecision s p.owner p.group (s.chargeOf v p.len) with
        | some f => reply r tag (.charge p) f.status f.account f.side 0 s
        | none => reply r tag (.charge p) .ok 0 (s.epochOf v) (s.chargeOf v p.len) (chargeAccept p v s)) s := by
  simp only [reqCharge, form, gated_up _ _ _ _ _ up, vol, toVol_val, State.primaryOnline, checked_firstFailure_cons, firstFailure_nil, checked_none,
    badKind_eq, tableRoom_eq_false, decide_eq_true_eq, State.outOfRange, chargeRun, Run.stop] <;> rfl

theorem reqSplit_checked {p : SplitParams} (vol : p.volume = v.val) :
    reqSplit r tag p s = checked r tag (.split p) (firstFailure
      ([(decide ((s.vol v).state = .undefined), .noVolume), (decide ((s.vol v).defn.role = .replica), .volumeRole),
        (decide ((s.vol v).state ≠ .online), .volumeState)] ++ match s.recordAt v p.first with
        | none => [(true, .noExtent)]
        | some e => [(decide (p.k = 0 ∨ e.len ≤ p.k), .outOfRange), (e.death.isSome, .notLive), (e.filling, .extentBusy),
            (decide (16777216 ≤ s.extents.length), .tableFull)]))
      (fun s => match s.recordAt v p.first with
        | none => s
        | some e => reply r tag (.split p) .ok 0 (e.first + p.k) 0 (splitRecord e p.k s)) s := by
  have live : ∀ e : Extent, e.live = false ↔ e.death.isSome = true := fun e => by cases h : e.death <;> simp [Extent.live, h]
  simp only [reqSplit, gated_up _ _ _ _ _ up, vol, toVol_val, volumeOk_val, State.primaryOnline, checked_append, checked_firstFailure_cons,
    firstFailure_nil, checked_none]
  cases found : s.recordAt v p.first with
  | none => simp only [checked_firstFailure_cons, if_true]
  | some e =>
    simp only [found, checked_firstFailure_cons, firstFailure_nil, checked_none, decide_eq_true_eq, live, tableRoom_eq_false]

theorem reqDrop_checked {p : DropParams} (vol : p.volume = v.val) :
    reqDrop r tag p s = checked r tag (.drop p) (firstFailure
      ([(decide ((s.vol v).state = .undefined), .noVolume), (decide ((s.vol v).defn.role = .replica), .volumeRole),
        (decide ((s.vol v).state ≠ .online), .volumeState)] ++ match s.recordAt v p.first with
        | none => [(true, .noExtent)]
        | some e => [(e.death.isSome, .notLive), (e.filling, .extentBusy)]))
      (fun s => match s.recordAt v p.first with
        | none => s
        | some e => if s.dropHolds e (s.epochOf v) then
            reply r tag (.drop p) .held 0 (s.epochOf v) (s.chargeOf v e.len) (holdRecord e (s.epochOf v) s)
          else reply r tag (.drop p) .released 0 (s.epochOf v) (s.chargeOf v e.len) (removeLive e s)) s := by
  have live : ∀ e : Extent, e.live = false ↔ e.death.isSome = true := fun e => by cases h : e.death <;> simp [Extent.live, h]
  simp only [reqDrop, gated_up _ _ _ _ _ up, vol, toVol_val, volumeOk_val, State.primaryOnline, checked_append, checked_firstFailure_cons,
    firstFailure_nil, checked_none]
  cases found : s.recordAt v p.first with
  | none => simp only [checked_firstFailure_cons, if_true]
  | some e =>
    simp only [found, checked_firstFailure_cons, firstFailure_nil, checked_none, live]

theorem reqLoadSnapshot_checked {p : LoadSnapshotParams} (form : formOk (.loadSnapshot p) = true) (vol : p.volume = v.val) :
    reqLoadSnapshot r tag p s = checked r tag (.loadSnapshot p) (firstFailure
      [(decide ((s.vol v).state = .undefined), .noVolume), (!decide ((s.vol v).state = .defined), .volumeState),
        (decide (p.epoch = 4294967295), .epochExhausted), ((s.snapVol v).snaps.any fun x => decide (x.label = p.label), .labelTaken),
        ((s.snapVol v).snaps.any fun x => decide (x.epoch = p.epoch), .epochOrder),
        (decide (64 ≤ (s.snapVol v).snaps.length), .snapshotListFull)])
      (fun s => reply r tag (.loadSnapshot p) .ok 0 p.epoch 0 (loadSnapshotAccept p v s)) s := by
  rw [formOk] at form
  simp only [reqLoadSnapshot, form, gated_up _ _ _ _ _ up]
  simp only [vol, toVol_val, State.definedOnly, decide_not, ne_eq, snapLabelled_isSome, snapAt_isSome]
  rfl

theorem reqLoadExtent_checked {p : LoadExtentParams} (form : formOk (.loadExtent p) = true) (vol : p.charge.volume = v.val) :
    reqLoadExtent r tag p s = checked r tag (.loadExtent p) (firstFailure
      [(decide ((s.vol v).state = .undefined), .noVolume), (!decide ((s.vol v).state = .defined), .volumeState),
        (decide ((s.vol v).defn.role = .replica) && p.source.isNone, .badRequest),
        (decide ((s.vol v).defn.blockCount < p.charge.first + p.charge.len), .outOfRange),
        (decide ((s.vol v).defn.role = .primary) && p.death.isNone && badKind s p.charge.owner p.charge.group, .accountKind),
        (s.taken v ⟨p.charge.first, p.charge.len⟩, .overlap),
        (p.death.any fun d => (s.snapVol v).snaps.all fun x => !(decide (p.birth ≤ x.epoch) && decide (x.epoch < d)), .notNeeded),
        (decide (16777216 ≤ s.extents.length), .tableFull)])
      (fun s => reply r tag (.loadExtent p) .ok 0 0 0 (loadExtentAccept p v s)) s := by
  rw [formOk] at form
  simp only [reqLoadExtent, form, gated_up _ _ _ _ _ up]
  simp only [vol, toVol_val, State.definedOnly, decide_not, ne_eq, badKind_eq, not_tableRoom]
  cases death : p.death with
  | none => rfl
  | some d =>
    simp only [not_neededBy]
    rfl

theorem reqOpenVolume_checked {p : OpenVolumeParams} (form : formOk (.openVolume p) = true) (vol : p.volume = v.val) :
    reqOpenVolume r tag p s = checked r tag (.openVolume p) (firstFailure
      [(decide ((s.vol v).state = .undefined), .noVolume), (!decide ((s.vol v).state = .defined), .volumeState),
        ((s.vol v).seen.any fun m => decide (p.epoch ≤ m), .epochOrder)])
      (fun s => reply r tag (.openVolume p) .ok 0 p.epoch 0 (s.setVol v { s.vol v with epoch := some p.epoch, state := .online })) s := by
  rw [formOk] at form
  simp only [reqOpenVolume, form, gated_up _ _ _ _ _ up]
  simp only [vol, toVol_val, State.definedOnly, decide_not, ne_eq, not_aboveSeen]
  rfl

theorem reqSealVolume_checked :
    reqSealVolume r tag v.val s = checked r tag (.sealVolume v.val) (firstFailure
      [(decide ((s.vol v).state = .undefined), .noVolume), (decide ((s.vol v).state = .defined), .volumeState)])
      (fun s => reply r tag (.sealVolume v.val) .ok 0 0 0 (s.setVol v { s.vol v with state := .sealed })) s := by
  simp only [reqSealVolume, gated_up _ _ _ _ _ up, toVol_val, volumeOk_val, State.openOnly]

theorem reqUnsealVolume_checked :
    reqUnsealVolume r tag v.val s = checked r tag (.unsealVolume v.val) (firstFailure
      [(decide ((s.vol v).state = .undefined), .noVolume), (decide ((s.vol v).state = .defined), .volumeState)])
      (fun s => reply r tag (.unsealVolume v.val) .ok 0 0 0 (s.setVol v { s.vol v with state := .online })) s := by
  simp only [reqUnsealVolume, gated_up _ _ _ _ _ up, toVol_val, volumeOk_val, State.openOnly]

theorem reqSnapshotCreate_checked {p : SnapshotParams} (vol : p.volume = v.val) :
    reqSnapshotCreate r tag p s = checked r tag (.snapshotCreate p) (firstFailure
      [(decide ((s.vol v).state = .undefined), .noVolume), (decide ((s.vol v).defn.role = .replica), .volumeRole),
        (decide ((s.vol v).state = .defined), .volumeState), (s.labelTaken v p.label, .labelTaken),
        (decide (64 ≤ (s.snapVol v).snaps.length + (s.snapVol v).reserved.length), .snapshotListFull),
        (decide (4294967294 < (s.vol v).epoch.getD 0 + (s.snapVol v).gate.length), .epochExhausted), ((s.snapVol v).hostWaits, .busy)])
      (fun s => if s.anyFilling v then reply r tag (.snapshotCreate p) .accepted 0 0 0 (joinGate v (.host r tag p.label) s)
        else reply r tag (.snapshotCreate p) .ok 0 ((s.vol v).epoch.getD 0) s.qu.clock (makeSnapshot v p.label false s)) s := by
  simp only [reqSnapshotCreate, gated_up _ _ _ _ _ up, vol, toVol_val, volumeOk_val, createRefusal, checked_firstFailure_cons, firstFailure_nil,
    checked_none, State.snapListFull]
  rfl

theorem reqSnapshotRetire_checked {p : SnapshotParams} (vol : p.volume = v.val) :
    reqSnapshotRetire r tag p s = checked r tag (.snapshotRetire p) (firstFailure
      [(decide ((s.vol v).state = .undefined), .noVolume), (decide ((s.vol v).state = .defined), .volumeState),
        ((s.activeLabelled v p.label).isNone, .noSnapshot),
        ((s.activeLabelled v p.label).any fun x => x.replBase || x.replTarget || decide (x.holds ≠ 0), .snapshotHeld)])
      (fun s => match s.activeLabelled v p.label with
        | none => s
        | some x => reply r tag (.snapshotRetire p) .accepted 0 x.epoch 0 (retireSnapshot v x.epoch (.host r tag) s)) s := by
  simp only [reqSnapshotRetire, gated_up _ _ _ _ _ up, vol, toVol_val, volumeOk_val, checked_firstFailure_cons, firstFailure_nil, checked_none]
  cases s.activeLabelled v p.label with
  | none => rfl
  | some x =>
    simp only [Option.isNone_some, Option.any_some, ← not_unheld]
    cases x.unheld <;> rfl

theorem reqTakeReleased_checked {p : TakeReleasedParams} (form : formOk (.takeReleased p) = true) (vol : p.volume = v.val) :
    reqTakeReleased r tag p s = checked r tag (.takeReleased p) (firstFailure
      [(decide ((s.vol v).state = .undefined), .noVolume), ((s.snapVol v).taking.isSome, .busy)])
      (fun s => if (s.snapVol v).release.isEmpty then reply r tag (.takeReleased p) .ok 0 0 0 s
        else s.setSnapVol v { s.snapVol v with taking := some ⟨r, tag, p.buffer, min p.max (s.snapVol v).release.length⟩ }) s := by
  rw [formOk] at form
  simp only [reqTakeReleased, form, gated_up _ _ _ _ _ up, vol, toVol_val]

/-- RESTORE's checks of its source snapshot come before those of its accounts, and those before the checks of its targets. -/
theorem reqRestore_checked {p : RestoreParams} (targets : List Run) (form : formOk (.restore p) = true) (vol : p.volume = v.val) :
    reqRestore r tag p targets s = checked r tag (.restore p) (firstFailure
      [(targets.any fun x : Run => decide (x.len = 0), .badRequest), (decide ((s.vol v).state = .undefined), .noVolume),
        (decide ((s.vol v).defn.role ≠ .primary), .volumeRole), (decide ((s.vol v).state ≠ .online), .volumeState),
        ((s.activeLabelled v p.label).isNone, .noSnapshot)])
      (fun s => match accountKindFault s p.owner p.group with
        | some i => reply r tag (.restore p) .accountKind i 0 0 s
        | none => checked r tag (.restore p) (firstFailure
            [(decide ((targets.map (·.len)).sum < p.count), .shortTarget), (targets.any fun x : Run => decide ((s.vol v).defn.blockCount < x.first + x.len), .outOfRange),
              (anyOverlap targets || targets.any (s.taken v), .overlap), ((s.faultRec .restore).fault, .faultHeld),
              (ctxList.all fun c => decide ((s.restoreCtx c).phase ≠ .free), .busy)])
            (fun s => match s.freeCtx, s.activeLabelled v p.label with
              | some c, some x => takeContext c (restoreContext r tag p targets x.epoch) s
              | _, _ => s) s) s := by
  rw [formOk] at form
  simp only [reqRestore, form, gated_up _ _ _ _ _ up]
  simp only [restoreRead, vol, toVol_val, checked_firstFailure_cons, sourceChecks, targetChecks, freeCtx_isNone]
  rfl

theorem reqProbe_checked {p : ProbeParams} (form : formOk (.probe p) = true) (vol : p.volume = v.val) :
    reqProbe r tag p s = checked r tag (.probe p) (firstFailure
      [(decide ((s.vol v).state = .undefined), .noVolume), (decide ((s.vol v).defn.role ≠ .primary), .volumeRole),
        (decide ((s.vol v).state = .defined), .volumeState), ((s.activeLabelled v p.label).isNone, .noSnapshot),
        ((s.faultRec .restore).fault, .faultHeld), (ctxList.all fun c => decide ((s.restoreCtx c).phase ≠ .free), .busy)])
      (fun s => match s.freeCtx, s.activeLabelled v p.label with
        | some c, some x => takeContext c (probeContext r tag p x.epoch) s
        | _, _ => s) s := by
  rw [formOk] at form
  simp only [reqProbe, form, gated_up _ _ _ _ _ up]
  simp only [vol, toVol_val, sourceChecks, freeCtx_isNone]
  rfl

/-- The check of the label depends on whether the run makes its own snapshot, and only one of the two can fail. -/
theorem reqRunStart_checked {p : RunStartParams} (vol : p.volume = v.val) :
    reqRunStart r tag p s = checked r tag (.runStart p) (firstFailure
      [(decide ((s.vol v).state = .undefined), .noVolume), (decide ((s.vol v).defn.role = .replica), .volumeRole),
        (decide ((s.vol v).state = .defined), .volumeState), (s.noPeer v, .noPeer),
        (!p.newSnapshot && (s.activeLabelled v p.label).isNone, .noSnapshot), (p.newSnapshot && s.labelTaken v p.label, .labelTaken),
        (!p.newSnapshot && (s.activeLabelled v p.label).any fun x => decide (x.epoch ≤ if p.full then 0 else s.baseEpoch v), .staleEpoch),
        (s.strap, .serviceMode), ((s.ds.queue.any fun x => decide (x.volume = v)) || s.ds.active.any fun x => decide (x.volume = v), .alreadyQueued),
        ((s.faultRec .ship).fault, .faultHeld)])
      (fun s => reply r tag (.runStart p) .accepted (s.ds.queue.length + 1) (startTarget p s) (startBase p s) (runStartAccept r tag p s)) s := by
  have base : startBase p s = if p.full then 0 else s.baseEpoch v := by rw [startBase, vol, toVol_val]
  simp only [reqRunStart, runStartRefusal, vol, toVol_val, volumeOk_val, gated_up _ _ _ _ _ up, State.hasRun, base]
  refine congrArg (fun c => checked r tag (.runStart p) c _ s) ?_
  cases p.newSnapshot
  · cases s.activeLabelled v p.label <;> cases s.ds.active <;> rfl
  · cases s.ds.active <;> rfl

theorem reqGiveRuns_checked {p : GiveRunsParams} (runs : List Run) (form : formOk (.giveRuns p) = true) (vol : p.volume = v.val) :
    reqGiveRuns r tag p runs s = checked r tag (.giveRuns p) (firstFailure
      [(decide ((s.vol v).state = .undefined), .noVolume), (decide ((s.vol v).defn.role = .primary), .volumeRole),
        (runs.any fun x : Run => decide (x.len = 0 ∨ 65535 < x.len), .badRequest),
        (runs.any fun x : Run => decide ((s.vol v).defn.blockCount < x.first + x.len), .outOfRange),
        (anyOverlap runs || runs.any (s.taken v), .overlap), (decide (4096 < (s.replVol v).pool.length + runs.length), .poolFull)])
      (fun s => reply r tag (.giveRuns p) .ok ((giveRunsAccept v runs s).replVol v).pool.length 0 ((giveRunsAccept v runs s).replVol v).untaken
        (giveRunsAccept v runs s)) s := by
  rw [formOk] at form
  simp only [reqGiveRuns, form, gated_up _ _ _ _ _ up]
  simp only [vol, toVol_val, giveRunsRefusal, ← Bool.decide_or]
  exact (checked_congr rfl).trans (checked_append (s.replicaChecks v) _).symm

theorem reqReplicaReset_checked :
    reqReplicaReset r tag v.val s = checked r tag (.replicaReset v.val) (firstFailure
      [(decide ((s.vol v).state = .undefined), .noVolume), (decide ((s.vol v).defn.role = .primary), .volumeRole),
        (decide ((s.vol v).state = .defined), .volumeState),
        ((ctxList.any fun c => decide (s.ctxOf v.val = some c) && decide ((s.inCtx c).state = .committing)) || (s.replVol v).reset.isSome, .busy)])
      (fun s => reply r tag (.replicaReset v.val) .accepted 0 0 0 (resetAccept r tag v s)) s := by
  have refused : s.resetRefused v =
      ((ctxList.any fun c => decide (s.ctxOf v.val = some c) && decide ((s.inCtx c).state = .committing)) || (s.replVol v).reset.isSome) := by
    unfold State.resetRefused
    congr 1
    cases s.ctxOf v.val with
    | none => rfl
    | some c =>
      have listed : c ∈ ctxList := by revert c; decide
      rw [Bool.eq_iff_iff, List.any_eq_true]
      exact ⟨fun committing => ⟨c, listed, by simpa using committing⟩, fun ⟨d, _, at_d⟩ => by
        rw [Bool.and_eq_true, decide_eq_true_iff] at at_d
        exact Option.some.inj at_d.1 ▸ at_d.2⟩
  simp only [reqReplicaReset, toVol_val, volumeOk_val, gated_up _ _ _ _ _ up, State.replicaChecks, refused]
  rfl

theorem reqQueryExtent_checked {p : QueryExtentParams} (vol : p.volume = v.val) :
    reqQueryExtent r tag p s = checked r tag (.queryExtent p) (firstFailure
      [(decide ((s.vol v).state = .undefined), .noVolume),
        ((s.records v).all fun e => !(decide (e.first ≤ p.block) && decide (p.block < e.first + e.len)), .noExtent)])
      (fun s => match s.recordHolding v p.block with
        | none => s
        | some e => reply r tag (.queryExtent p) .ok 0 e.first e.object (s.writeBytes p.buffer (extentBytes e))) s := by
  simp only [reqQueryExtent, queryExtentFound, vol, toVol_val, volumeOk_val, gated_up _ _ _ _ _ up, checked_firstFailure_cons, ← recordHolding_isNone,
    decide_eq_true_eq]
  by_cases undefined : (s.vol v).state = .undefined
  · simp only [if_pos undefined]
  · simp only [if_neg undefined]
    cases found : s.recordHolding v p.block with
    | none => rfl
    | some e =>
      simp only [checked, firstFailure_nil, found]
      rfl

theorem reqSetLimit_checked {p : SetLimitParams} (form : formOk (.setLimit p) = true) :
    reqSetLimit r tag p s = checked r tag (.setLimit p) (firstFailure [(decide ((s.account p.account).kind = .none), .noAccount)])
      (fun s => reply r tag (.setLimit p) .ok ((setLimitAccept p s).account p.account).state.code ((setLimitAccept p s).account p.account).soft
        ((setLimitAccept p s).account p.account).leave (setLimitAccept p s)) s := by
  rw [formOk] at form
  simp only [reqSetLimit, form, gated_up _ _ _ _ _ up, checked_firstFailure_cons, decide_eq_true_eq]
  rfl

theorem reqLoadAccount_checked {p : LoadAccountParams} {k : AccountKind} (form : formOk (.loadAccount p) = true)
    (kind : AccountKind.ofHostCode p.kind = some k) :
    reqLoadAccount r tag p s = checked r tag (.loadAccount p) (firstFailure
      [(decide ((s.account p.account).kind ≠ .none ∧ (s.account p.account).kind ≠ k ∧ (s.account p.account).records ≠ 0), .accountBusy)])
      (fun s => reply r tag (.loadAccount p) .ok ((loadAccountAccept p k s).account p.account).state.code ((loadAccountAccept p k s).account p.account).usage 0
        (loadAccountAccept p k s)) s := by
  rw [formOk] at form
  simp only [reqLoadAccount, form, gated_up _ _ _ _ _ up, checked_firstFailure_cons, decide_eq_true_eq]
  simp only [kind]
  rfl

theorem reqDropAccount_checked {i : Nat} (form : formOk (.dropAccount i) = true) :
    reqDropAccount r tag i s = checked r tag (.dropAccount i) (firstFailure [(decide ((s.account i).records ≠ 0), .accountBusy)])
      (fun s => reply r tag (.dropAccount i) .ok 0 0 0 (s.putUser i .none)) s := by
  rw [formOk] at form
  simp only [reqDropAccount, form, gated_up _ _ _ _ _ up, checked_firstFailure_cons, decide_eq_true_eq]
  rfl

end

section
variable (s : State) (r : RingNo) (tag : Nat) {v : Vol}

theorem reqScanOut_checked (up : s.up) {p : ScanOutParams} {w : ScanWhat} (form : formOk (.scanOut p) = true) (vol : p.volume = v.val)
    (what : ScanWhat.ofCode p.what = some w) (ofVolume : w ≠ .accounts) :
    reqScanOut r tag p s = checked r tag (.scanOut p) (firstFailure [(decide ((s.vol v).state = .undefined), .noVolume)])
      (fun s => if (s.scanOf r).isSome then s else s.setScan r (some ⟨tag, v, w, p.buffer, p.max, p.key, 0⟩)) s := by
  rw [formOk] at form
  simp only [reqScanOut, form, gated_up _ _ _ _ _ up]
  simp only [what, vol, toVol_val, checked_firstFailure_cons, decide_eq_true_eq, ne_eq, ofVolume, not_false_eq_true, true_and]
  rfl

theorem reqQueryInbound_checked :
    reqQueryInbound r tag v.val s = checked r tag (.queryInbound v.val) (firstFailure [(decide ((s.vol v).state = .undefined), .noVolume)])
      (fun s => reply r tag (.queryInbound v.val) .ok (inboundWord s v)
        (match s.ctxOf v.val with | some c => (s.inCtx c).runId + 4294967296 * (s.inCtx c).expected | none => 0) (s.replVol v).untaken s) s := by
  simp only [reqQueryInbound, toVol_val, volumeOk_val, gated_always _ _ _ _ _ (show safeAdmits (.queryInbound v.val) = true from rfl) rfl,
    checked_firstFailure_cons, decide_eq_true_eq]
  rfl

theorem reqStoreVerify_checked :
    reqStoreVerify r tag s = checked r tag .storeVerify (firstFailure [(s.ps.commit.isSome, .busy)])
      (fun s => reply r tag .storeVerify (if s.ps.verifies 0 then .good else .bad) 0 (s.ps.crc 0) (s.ps.storedCrc 0) s) s := by
  simp only [reqStoreVerify, gated_always _ _ _ .storeVerify _ rfl rfl, checked_firstFailure_cons]
  rfl

theorem reqStoreRead_checked {p : StoreReadParams} (page : p.page ≤ 64) :
    reqStoreRead r tag p s = checked r tag (.storeRead p) (firstFailure [(s.ps.commit.any fun c => decide (c.page = p.page), .busy)])
      (fun s => reply r tag (.storeRead p) .ok p.page (if s.ps.locked then 1 else 0) (if s.ps.safe then 1 else 0)
        (s.writeBytes p.buffer (if p.page = 64 then (List.range 256).map s.ps.staged else s.ps.page 0 p.page))) s := by
  have busy : (s.ps.commit.any fun c => decide (c.page = p.page)) = decide (s.ps.commit.map Commit.page = some p.page) := by
    cases s.ps.commit <;> simp
  simp only [reqStoreRead, storeReadFound, decide_eq_true page, gated_always _ _ _ (.storeRead p) _ rfl rfl, checked_firstFailure_cons, busy, decide_eq_true_eq]
  by_cases under : s.ps.commit.map Commit.page = some p.page
  · simp only [if_pos under]
  · by_cases staging : p.page = 64
    · simp only [if_neg under, if_pos staging]
      rfl
    · simp only [if_neg under, if_neg staging]
      rfl

end

end Sys2Proof.Machine
end

section
/-! The assembly of O23 from the equations of the requests' checks. -/

namespace Sys2Proof.Machine

/-- The commit's page reads as free bytes under a commit (notes/assumptions/22.md), so the refusal leaves the state the next free value. -/
theorem reqApplyDefinitions_refused {s : State} {n : Nat} (up : s.up) (r : RingNo) (tag : Nat)
    (failing : firstFailing [(!s.ps.verifies s.free, 0x3F), (s.ps.commit.isSome, 0x37)] = some n) :
    reqApplyDefinitions r tag s = answer r ⟨tag, 0x64, n, 0, 0, 0⟩ (if s.ps.commit = none then s else s.setFree (s.free + 1)) := by
  obtain ⟨safe, format⟩ := up
  have checks : (applyRefusal s).map Status.code = some n := by
    rw [← failing, applyRefusal, ← firstFailing_map]
    simp only [format, Option.isSome_none, Bool.or_false, List.map_cons, List.map_nil, Status.code]
  obtain ⟨st, fails, rfl⟩ := Option.map_eq_some_iff.1 checks
  simp only [reqApplyDefinitions, gated_up _ _ _ _ _ ⟨safe, format⟩, fails]
  cases s.ps.commit <;> rfl

/-- Settles O23: every request's checks, in the model's order, are the list of the statement, and the first that fails gives the answer. -/
theorem requestsAreRefusedInTheirOrder : Obligations.RequestsAreRefusedInTheirOrder := by
  unfold Obligations.RequestsAreRefusedInTheirOrder
  intro s r tag n v up
  refine ⟨fun p form vol => ⟨refused_of_failing _ (reqCharge_checked up r tag form vol), fun passes f decision => ?_⟩,
    fun p _ vol failing => refused_of_failing _ (reqSplit_checked up r tag vol) ?_,
    fun p _ vol failing => refused_of_failing _ (reqDrop_checked up r tag vol) ?_,
    fun p form vol => refused_of_failing _ (reqLoadSnapshot_checked up r tag form vol),
    fun p form vol => refused_of_failing _ (reqLoadExtent_checked up r tag form vol),
    fun p form vol => refused_of_failing _ (reqOpenVolume_checked up r tag form vol),
    fun failing => ⟨refused_of_failing _ (reqSealVolume_checked up r tag) failing, refused_of_failing _ (reqUnsealVolume_checked up r tag) failing⟩,
    fun p vol => refused_of_failing _ (reqSnapshotCreate_checked up r tag vol),
    fun p vol => refused_of_failing _ (reqSnapshotRetire_checked up r tag vol),
    fun p form vol => refused_of_failing _ (reqTakeReleased_checked up r tag form vol),
    fun p targets form vol => ⟨refused_of_failing _ (reqRestore_checked up r tag targets form vol), fun passes bad => ?_, fun passes good failing => ?_⟩,
    fun p form vol => refused_of_failing _ (reqProbe_checked up r tag form vol),
    fun p vol => refused_of_failing _ (reqRunStart_checked up r tag vol),
    fun p runs form vol => refused_of_failing _ (reqGiveRuns_checked up r tag runs form vol),
    refused_of_failing _ (reqReplicaReset_checked up r tag),
    fun p vol => refused_of_failing _ (reqQueryExtent_checked up r tag vol),
    fun p form vol what failing => ?_,
    fun p form => refused_of_failing _ (reqSetLimit_checked up r tag form),
    fun p k form kind => refused_of_failing _ (reqLoadAccount_checked up r tag form ?_),
    fun i form => refused_of_failing _ (reqDropAccount_checked up r tag form),
    refused_of_failing _ (reqQueryInbound_checked s r tag),
    refused_of_failing _ (reqStoreVerify_checked s r tag),
    fun p page => refused_of_failing _ (reqStoreRead_checked s r tag page),
    fun failing => congrArg _ (reqApplyDefinitions_refused up r tag failing)⟩
  case refine_1 =>
    have acted := passed_of_not_failing _ (reqCharge_checked up r tag form vol) passes
    simp only [show s.chargeOf v p.len = p.len * (s.vol v).defn.blockKiB from rfl, decision] at acted
    exact congrArg _ acted
  case refine_2 =>
    rw [List.map_append]
    cases found : s.recordAt v p.first <;> (simp only [found] at failing ⊢; exact failing)
  case refine_3 =>
    rw [List.map_append]
    cases found : s.recordAt v p.first <;> (simp only [found] at failing ⊢; exact failing)
  case refine_4 =>
    have acted := passed_of_not_failing _ (reqRestore_checked up r tag targets form vol) passes
    simp only [accountKindFault_of_badKind bad] at acted
    exact congrArg _ acted
  case refine_5 =>
    have acted := passed_of_not_failing _ (reqRestore_checked up r tag targets form vol) passes
    simp only [accountKindFault_of_not_badKind good] at acted
    exact refused_of_failing _ acted failing
  case refine_6 =>
    obtain extents | snapshots := what
    · exact refused_of_failing _ (reqScanOut_checked s r tag up form vol (congrArg ScanWhat.ofCode extents) (by decide)) failing
    · exact refused_of_failing _ (reqScanOut_checked s r tag up form vol (congrArg ScanWhat.ofCode snapshots) (by decide)) failing
  case refine_7 =>
    simp only [List.mem_cons, List.not_mem_nil, or_false, Prod.mk.injEq] at kind
    obtain ⟨code, rfl⟩ | ⟨code, rfl⟩ := kind <;> rw [code] <;> rfl

end Sys2Proof.Machine
end

section
/-! The Quota Unit's laws under a change of one account (R30, R43): the sum of what its timer list and its re-ratings need. The statements of chapters 1 to 3 use them
for the last clause of `State.accountsOnly`. -/

namespace Sys2Proof.Machine

/-! ### The grace timer list -/

theorem mem_timerInsert {d i : Nat} {ts : List (Nat × Nat)} {t : Nat × Nat} : t ∈ timerInsert d i ts ↔ t = (d, i) ∨ t ∈ ts := by
  induction ts with
  | nil => rw [timerInsert, List.mem_singleton]; simp
  | cons x ts ih =>
    rw [timerInsert]
    split
    · rw [List.mem_cons]
    · rw [List.mem_cons, ih, List.mem_cons]
      tauto

theorem mem_timerRemove {i : Nat} {ts : List (Nat × Nat)} {t : Nat × Nat} : t ∈ timerRemove i ts ↔ t ∈ ts ∧ t.2 ≠ i := by
  rw [timerRemove, List.mem_filter, decide_eq_true_iff]

theorem mem_timerSync {i : Nat} {a : Account} {ts : List (Nat × Nat)} {t : Nat × Nat} :
    t ∈ timerSync i a ts ↔ (t.2 = i ∧ a.state = .grace ∧ a.deadline = some t.1) ∨ (t ∈ ts ∧ t.2 ≠ i) := by
  unfold timerSync
  split
  next d grace deadline =>
    rw [mem_timerInsert, mem_timerRemove, grace, deadline]
    obtain ⟨e, j⟩ := t
    simp only [Prod.mk.injEq, Option.some.injEq, true_and]
    tauto
  next notGrace =>
    rw [mem_timerRemove]
    refine ⟨.inr, fun h => h.resolve_left ?_⟩
    rintro ⟨-, grace, deadline⟩
    exact notGrace _ grace deadline

/-- An insertion of an entry that is not of a listed account keeps the order of R43. -/
theorem pairwise_timerInsert {d i : Nat} {ts : List (Nat × Nat)} (sorted : ts.Pairwise timerBefore) (absent : ∀ t ∈ ts, t.2 ≠ i) :
    (timerInsert d i ts).Pairwise timerBefore := by
  induction ts with
  | nil => exact List.pairwise_singleton ..
  | cons x ts ih =>
    obtain ⟨before, sorted⟩ := List.pairwise_cons.1 sorted
    rw [timerInsert]
    split
    next first =>
      refine List.pairwise_cons.2 ⟨fun t mem => ?_, List.pairwise_cons.2 ⟨before, sorted⟩⟩
      obtain rfl | mem := List.mem_cons.1 mem
      · exact first
      · have later := before t mem
        unfold timerBefore at *
        grind
    next later =>
      refine List.pairwise_cons.2 ⟨fun t mem => ?_, ih sorted fun t mem => absent t (List.mem_cons_of_mem _ mem)⟩
      obtain rfl | mem := mem_timerInsert.1 mem
      · have other := absent x List.mem_cons_self
        unfold timerBefore
        grind
      · exact before t mem

theorem pairwise_timerSync {i : Nat} {a : Account} {ts : List (Nat × Nat)} (sorted : ts.Pairwise timerBefore) :
    (timerSync i a ts).Pairwise timerBefore := by
  have removed : (timerRemove i ts).Pairwise timerBefore := sorted.filter _
  unfold timerSync
  split
  · exact pairwise_timerInsert removed fun t mem => (mem_timerRemove.1 mem).2
  · exact removed

/-! ### One account changes -/

/-- A state whose table differs in account `i` alone, which keeps its own laws, and whose timer list holds the others as before and `i` exactly while it is in GRACE. -/
theorem Qu.ok_of_account {q u : Qu} {i : Nat} {a : Account} (ok : q.ok) (wf : sparseWf Account.none u.accounts = true)
    (reads : ∀ j, sparseGet Account.none u.accounts j = if j = i then a else sparseGet Account.none q.accounts j)
    (good : a = .none ∨ a.ok i) (clock : u.clock = q.clock) (sorted : u.timers.Pairwise timerBefore)
    (timers : ∀ t, t ∈ u.timers ↔ (t.2 = i ∧ a.state = .grace ∧ a.deadline = some t.1) ∨ (t ∈ q.timers ∧ t.2 ≠ i)) : u.ok := by
  obtain ⟨_, accounts, bound, _, exact⟩ := ok
  refine ⟨wf, fun e mem => ?_, clock ▸ bound, sorted, fun d j => ?_⟩
  · have read := sparseGet_of_mem _ _ wf e mem
    have listed : e.2 ≠ Account.none := by
      obtain ⟨k, x⟩ := e
      obtain ⟨l, m, split⟩ := List.append_of_mem mem
      have wf' := split ▸ wf
      clear * - wf'
      induction l with
      | nil => exact ((sparseWf_cons _ _ _ _).1 wf').2.1
      | cons y l ih => exact ih ((sparseWf_cons _ _ _ _).1 wf').2.2
    rw [reads] at read
    by_cases at_i : e.1 = i
    · rw [if_pos at_i] at read
      obtain none | good := good
      · exact absurd (read.symm.trans none) listed
      · rwa [← read, at_i]
    · rw [if_neg at_i] at read
      have mem' := mem_of_sparseGet Account.none q.accounts e.1 (read ▸ listed)
      exact read ▸ accounts _ mem'
  · rw [timers, reads]
    by_cases at_i : j = i
    · simp only [at_i, ne_eq, not_true_eq_false, and_false, or_false, true_and, if_true]
    · simp only [at_i, false_and, false_or, ne_eq, not_false_eq_true, and_true, if_false]
      exact exact d j

/-- The laws survive the write of an account with its timer. -/
theorem quOk_putUser {s t : State} {i : Nat} {a : Account} (ok : s.qu.ok) (wf : sparseWf Account.none t.qu.accounts = true)
    (others : ∀ j, j ≠ i → t.account j = s.account j) (clock : t.qu.clock = s.qu.clock) (timers : t.qu.timers = s.qu.timers)
    (good : a = .none ∨ a.ok i) : (t.putUser i a).qu.ok := by
  refine Qu.ok_of_account (a := a) (i := i) ok (sparseWf_set _ _ _ _ wf) (fun j => ?_) good clock (pairwise_timerSync ?_) fun x => ?_
  · refine (sparseGet_set _ _ _ _ _ wf).trans ?_
    by_cases at_i : j = i
    · rw [if_pos at_i, if_pos at_i]
    · rw [if_neg at_i, if_neg at_i]
      exact others j at_i
  · exact (timers ▸ ok.2.2.2.1 : (t.setAccount i a).qu.timers.Pairwise timerBefore)
  · exact mem_timerSync.trans (iff_of_eq (congrArg (fun l => _ ∨ (x ∈ l ∧ _)) timers))

/-- The laws survive the write of an account that is not in GRACE and was not. -/
theorem quOk_setAccount {s t : State} {i : Nat} {a : Account} (ok : s.qu.ok) (wf : sparseWf Account.none t.qu.accounts = true)
    (others : ∀ j, j ≠ i → t.account j = s.account j) (clock : t.qu.clock = s.qu.clock) (timers : t.qu.timers = s.qu.timers)
    (old : (s.account i).state ≠ .grace) (new : a.state ≠ .grace) (good : a.ok i) : (t.setAccount i a).qu.ok := by
  refine Qu.ok_of_account (a := a) (i := i) ok (sparseWf_set _ _ _ _ wf) (fun j => ?_) (.inr good) clock ?_ fun x => ?_
  · refine (sparseGet_set _ _ _ _ _ wf).trans ?_
    by_cases at_i : j = i
    · rw [if_pos at_i, if_pos at_i]
    · rw [if_neg at_i, if_neg at_i]
      exact others j at_i
  · exact (timers ▸ ok.2.2.2.1 : t.qu.timers.Pairwise timerBefore)
  · change x ∈ t.qu.timers ↔ _
    rw [timers]
    refine ⟨fun mem => .inr ⟨mem, fun at_i => ?_⟩, fun h => ?_⟩
    · exact old (at_i ▸ ((ok.2.2.2.2 x.1 x.2).1 mem).1)
    · obtain ⟨-, grace, -⟩ | ⟨mem, -⟩ := h
      · exact absurd grace new
      · exact mem

/-! ### The laws of one account after a re-rating -/

/-- A table that reads an account of a kind holds it, with its laws. -/
theorem Qu.ok.account {s : State} (ok : s.qu.ok) {i : Nat} (listed : (s.account i).kind ≠ .none) : (s.account i).ok i :=
  ok.2.1 _ (mem_of_sparseGet _ _ _ fun none => listed (by rw [State.account, none]; rfl))

theorem Account.ok_user_iff {i : Nat} {a : Account} (kind : a.kind = .user ∨ a.kind = .group) :
    a.ok i ↔ kindAt i a.kind ∧ a.state ≠ .over ∧ (a.state = .overHard ↔ a.above) ∧ (a.state = .under → a.deadline = Option.none) ∧
      (a.state = .grace ∨ a.state = .expired → a.deadline.isSome = true) := by
  unfold Account.ok
  obtain kind | kind := kind <;> rw [kind]

theorem Account.soft_zero {a : Account} (h : a.hard = 0) : a.soft = 0 := by simp [Account.soft, h]

/-- What a re-rating leaves of a USER or GROUP account keeps the laws of R30, when a GRACE or EXPIRED account had a deadline. -/
theorem rateUser_ok {i clock : Nat} {a : Account} (kind : a.kind = .user ∨ a.kind = .group) (index : kindAt i a.kind)
    (deadline : a.state = .grace ∨ a.state = .expired → a.deadline.isSome = true) (notOver : a.state ≠ .over) : (rateUser clock a).1.ok i := by
  have kind' := kind
  rw [← rateUser_kind clock a] at kind' index
  refine (Account.ok_user_iff kind').2 ⟨index, ?_⟩
  have soft := a.soft_le_hard
  have leave := a.leave_le_soft
  clear kind' index kind
  unfold rateUser
  split
  next unlimited => simp [Account.above, unlimited]
  next limited =>
  split
  next above => simp [Account.above, limited, above]
  next within =>
  split
  next stays => 
    obtain ⟨-, grace | expired⟩ := stays
    · simp [Account.above, within, grace, deadline (.inl grace)]
    · simp [Account.above, within, expired, deadline (.inr expired)]
  next =>
  have started : (graceStart clock a).1.state ≠ .over ∧ ((graceStart clock a).1.state = .overHard ↔ (graceStart clock a).1.above) ∧
      ((graceStart clock a).1.state = .under → (graceStart clock a).1.deadline = Option.none) ∧
      ((graceStart clock a).1.state = .grace ∨ (graceStart clock a).1.state = .expired → (graceStart clock a).1.deadline.isSome = true) := by
    unfold graceStart
    split <;> simp [Account.above, within]
  split
  next => exact started
  next =>
  split
  next =>
    split
    next d due => split <;> simp [Account.above, within, due]
    next => exact started
  next => simp [Account.above, within]

end Sys2Proof.Machine
end

section
/-! Charges, refunds and new terms of one account, with the laws of the Quota Unit: the rules of Laws/Operations with the last clause of `State.accountsOnly`. -/

namespace Sys2Proof.Machine

/-! ### The laws of a listed account, by its kind -/

section
variable {s : State} {i : Nat} (ok : s.qu.ok)
include ok

theorem Qu.ok.user (kind : (s.account i).kind = .user ∨ (s.account i).kind = .group) :
    kindAt i (s.account i).kind ∧ (s.account i).state ≠ .over ∧
      ((s.account i).state = .grace ∨ (s.account i).state = .expired → (s.account i).deadline.isSome = true) := by
  have listed : (s.account i).kind ≠ .none := by rintro none; simp [none] at kind
  obtain ⟨index, notOver, -, -, deadline⟩ := (Account.ok_user_iff kind).1 (ok.account listed)
  exact ⟨index, notOver, deadline⟩

theorem Qu.ok.reserve (kind : (s.account i).kind = .reserve) :
    kindAt i .reserve ∧ (s.account i).state ≠ .grace ∧ (s.account i).grace = 0 ∧ (s.account i).deadline = none ∧ (s.account i).privileged = false := by
  obtain ⟨index, laws⟩ := ok.account (i := i) (by simp [kind])
  rw [kind] at index laws
  obtain ⟨states, -, grace, deadline, privileged⟩ := laws
  exact ⟨index, by obtain h | h := states <;> simp [h], grace, deadline, privileged⟩

theorem Qu.ok.landing (kind : (s.account i).kind = .landing) :
    kindAt i .landing ∧ (s.account i).state ≠ .grace ∧ (s.account i).grace = 0 ∧ (s.account i).deadline = none ∧ (s.account i).privileged = false := by
  obtain ⟨index, laws⟩ := ok.account (i := i) (by simp [kind])
  rw [kind] at index laws
  obtain ⟨states, -, grace, deadline, privileged⟩ := laws
  exact ⟨index, by obtain h | h := states <;> simp [h], grace, deadline, privileged⟩
end

theorem rateReserve_ok {i : Nat} {a : Account} (kind : a.kind = .reserve) (index : kindAt i .reserve) (grace : a.grace = 0) (deadline : a.deadline = none)
    (privileged : a.privileged = false) : (rateReserve a).ok i ∧ (rateReserve a).state ≠ .grace := by
  by_cases above : a.hard ≠ 0 ∧ a.hard < a.usage <;>
    simp [Account.ok, rateReserve, Account.above, kind, index, grace, deadline, privileged, above]

theorem rateLanding_ok {i old : Nat} {a : Account} (kind : a.kind = .landing) (index : kindAt i .landing) (grace : a.grace = 0) (deadline : a.deadline = none)
    (privileged : a.privileged = false) : (rateLanding old a).1.ok i ∧ (rateLanding old a).1.state ≠ .grace := by
  by_cases above : a.hard ≠ 0 ∧ a.hard < a.usage <;>
    simp [Account.ok, rateLanding, Account.above, kind, index, grace, deadline, privileged, above]

/-! ### New values of one account, re-rated -/

theorem account_setAccount_other {s : State} (ok : s.qu.ok) (i : Nat) (a : Account) {j : Nat} (other : j ≠ i) : (s.setAccount i a).account j = s.account j :=
  (sparseGet_set _ _ _ _ _ ok.1).trans (if_neg other)

theorem rerate_setAccount_user {s : State} {i old : Nat} {a : Account} (kind : a.kind = .user ∨ a.kind = .group)
    (laws : s.qu.ok → kindAt i a.kind ∧ a.state ≠ .over ∧ (a.state = .grace ∨ a.state = .expired → a.deadline.isSome = true)) :
    s.accountsOnly (rerate i old (s.setAccount i a)) ((rateUser s.qu.clock a).2.map (·, i)) ∧
      ∀ j, (rerate i old (s.setAccount i a)).account j = if j = i then (rateUser s.qu.clock a).1 else s.account j := by
  have listed : a.kind ≠ .none := by rintro none; simp [none] at kind
  have stored : (s.setAccount i a).account i = a := (account_setAccount s i i a listed).trans (if_pos rfl)
  obtain ⟨frame, reads⟩ := rerate_user i old (s.setAccount i a) (stored.symm ▸ kind)
  rw [stored] at frame reads
  refine ⟨((accountsFrame_setAccount s i a).trans frame).only fun ok => ?_, fun j => ?_⟩
  · obtain ⟨index, notOver, deadline⟩ := laws ok
    have rerated : rerate i old (s.setAccount i a) = raiseAll (rateUser s.qu.clock a).2 i ((s.setAccount i a).putUser i (rateUser s.qu.clock a).1) := by
      unfold rerate
      obtain kind | kind := kind <;> simp only [stored, kind] <;> rfl
    rw [rerated, (noticesOnly_raiseAll _ _ _).qu]
    exact quOk_putUser ok (sparseWf_set _ _ _ _ ok.1) (fun j => account_setAccount_other ok i a) rfl rfl (.inr (rateUser_ok kind index deadline notOver))
  · refine (reads j).trans ?_
    by_cases at_i : j = i
    · rw [if_pos at_i, if_pos at_i]
      rfl
    · rw [if_neg at_i, if_neg at_i, account_setAccount s i j a listed, if_neg at_i]

theorem rerate_reserve_at {i old : Nat} {s : State} (kind : (s.account i).kind = .reserve) :
    rerate i old s = reserveTrim (toVol i) (s.account i).state (reserveState (s.account i).hard (s.account i).usage)
      ((s.setAccount i (rateReserve (s.account i))).raising
        (reserveNotice (toVol i) (s.account i).state (reserveState (s.account i).hard (s.account i).usage))) := by
  have rated : (rateReserve (s.account i)).state = reserveState (s.account i).hard (s.account i).usage := rfl
  have states : reserveState (s.account i).hard (s.account i).usage = .over ∨ reserveState (s.account i).hard (s.account i).usage = .under := by
    unfold reserveState
    split <;> simp
  unfold rerate
  simp only [kind, rated]
  obtain new | new := states <;> rw [new] <;> cases (s.account i).state <;> simp [reserveTrim, reserveNotice, State.raising]

theorem rerate_setAccount_reserve {s : State} {i old : Nat} {a : Account} (kind : a.kind = .reserve)
    (laws : s.qu.ok → kindAt i .reserve ∧ (s.account i).state ≠ .grace ∧ a.grace = 0 ∧ a.deadline = none ∧ a.privileged = false) :
    ∃ m, rerate i old (s.setAccount i a) = reserveTrim (toVol i) a.state (reserveState a.hard a.usage) m ∧
      s.accountsOnly m (reserveNotice (toVol i) a.state (reserveState a.hard a.usage)) ∧
      ∀ j, m.account j = if j = i then { a with state := reserveState a.hard a.usage } else s.account j := by
  have listed : a.kind ≠ .none := by simp [kind]
  have stored : (s.setAccount i a).account i = a := (account_setAccount s i i a listed).trans (if_pos rfl)
  have reads : ∀ j, ((s.setAccount i a).setAccount i (rateReserve a)).account j = if j = i then rateReserve a else s.account j := fun j => by
    rw [account_setAccount _ i j _ (by simp [rateReserve, kind])]
    by_cases at_i : j = i
    · rw [if_pos at_i, if_pos at_i]
    · rw [if_neg at_i, if_neg at_i, account_setAccount s i j a listed, if_neg at_i]
  rw [rerate_reserve_at (stored.symm ▸ kind), stored]
  have raised := noticesOnly_raising (reserveNotice (toVol i) a.state (reserveState a.hard a.usage)) ((s.setAccount i a).setAccount i (rateReserve a))
  refine ⟨_, rfl, State.accountsFrame.only ⟨?_, ?_, ?_⟩ fun ok => ?_, fun j => ?_⟩
  · rw [raised.qu, ← raising_setQu]
    rfl
  · rw [raised.qu]
    rfl
  · rw [raised.qu]
    rfl
  · obtain ⟨index, old, grace, deadline, privileged⟩ := laws ok
    obtain ⟨good, new⟩ := rateReserve_ok kind index grace deadline privileged
    rw [raised.qu]
    exact quOk_setAccount ok (sparseWf_set _ _ _ _ ok.1) (fun j => account_setAccount_other ok i a) rfl rfl old new good
  · rw [raised.account, reads]
    rfl

theorem rerate_setAccount_landing {s : State} {i old : Nat} {a : Account} (kind : a.kind = .landing)
    (laws : s.qu.ok → kindAt i .landing ∧ (s.account i).state ≠ .grace ∧ a.grace = 0 ∧ a.deadline = none ∧ a.privileged = false) :
    s.accountsOnly (rerate i old (s.setAccount i a)) (landingNotices i old a) ∧
      ∀ j, (rerate i old (s.setAccount i a)).account j =
        if j = i then { a with state := if a.hard ≠ 0 ∧ a.hard < a.usage then .overHard else .under } else s.account j := by
  have listed : a.kind ≠ .none := by simp [kind]
  have stored : (s.setAccount i a).account i = a := (account_setAccount s i i a listed).trans (if_pos rfl)
  have rerated : rerate i old (s.setAccount i a) =
      raiseAll (rateLanding old a).2 i ((s.setAccount i a).setAccount i (rateLanding old a).1) := by
    unfold rerate
    simp only [stored, kind]
  have notices : landingNotices i old a = (rateLanding old a).2.map (·, i) := by
    simp only [landingNotices, rateLanding, List.map_append, and_assoc]
    congr 1 <;> split <;> rfl
  rw [rerated, notices]
  have raised := noticesOnly_raiseAll (rateLanding old a).2 i ((s.setAccount i a).setAccount i (rateLanding old a).1)
  refine ⟨State.accountsFrame.only (((accountsFrame_setAccount s i a).trans (accountsFrame_setAccount _ i _)).trans (accountsFrame_raiseAll _ _ _))
    fun ok => ?_, fun j => ?_⟩
  · obtain ⟨index, old, grace, deadline, privileged⟩ := laws ok
    obtain ⟨good, new⟩ := rateLanding_ok kind index grace deadline privileged
    rw [raised.qu]
    exact quOk_setAccount ok (sparseWf_set _ _ _ _ ok.1) (fun j => account_setAccount_other ok i a) rfl rfl old new good
  · rw [raised.account, account_setAccount _ i j _ (by simp [rateLanding, kind])]
    by_cases at_i : j = i
    · rw [if_pos at_i, if_pos at_i]
      rfl
    · rw [if_neg at_i, if_neg at_i, account_setAccount s i j a listed, if_neg at_i]

/-! ### Charges and refunds -/

theorem State.accountsOnly.trans {s t u : State} {l m : List (NoticeKind × Nat)} (h : s.accountsOnly t l) (h' : t.accountsOnly u m) :
    s.accountsOnly u (l ++ m) := (h.frame.trans h'.frame).only fun ok => h'.2.2.2 (h.2.2.2 ok)

theorem chargeAccount_of_listed {i c n : Nat} {s : State} (listed : (s.account i).kind ≠ .none) : chargeAccount i c n s =
    rerate i (s.account i).usage (s.setAccount i { s.account i with usage := (s.account i).usage + c, records := (s.account i).records + n }) := by
  simp only [chargeAccount, listed, if_false]

theorem refundAccount_of_listed {i c n : Nat} {s : State} (listed : (s.account i).kind ≠ .none) : refundAccount i c n s =
    rerate i (s.account i).usage (s.setAccount i { s.account i with usage := (s.account i).usage - c, records := (s.account i).records - n }) := by
  simp only [refundAccount, listed, if_false]

theorem quOk_chargeAccount {i c n : Nat} {s : State} (kind : (s.account i).kind = .user ∨ (s.account i).kind = .group) (ok : s.qu.ok) :
    (chargeAccount i c n s).qu.ok := by
  rw [chargeAccount_of_listed (by rintro none; simp [none] at kind)]
  refine (rerate_setAccount_user ?_ ?_).1.2.2.2 ok
  · exact kind
  · exact fun ok => ok.user kind

theorem quOk_refundAccount {i c n : Nat} {s : State} (kind : (s.account i).kind = .user ∨ (s.account i).kind = .group) (ok : s.qu.ok) :
    (refundAccount i c n s).qu.ok := by
  rw [refundAccount_of_listed (by rintro none; simp [none] at kind)]
  refine (rerate_setAccount_user ?_ ?_).1.2.2.2 ok
  · exact kind
  · exact fun ok => ok.user kind

theorem quOk_onOwnerGroup {f : Nat → State → State} {s : State} {owner : Nat} {group : Option Nat}
    (keeps : ∀ (t : State) (i : Nat), (t.account i).kind = .user ∨ (t.account i).kind = .group → t.qu.ok → (f i t).qu.ok)
    (kept : ∀ i, group = some i → i ≠ owner → (f owner s).account i = s.account i)
    (user : (s.account owner).kind = .user) (groups : ∀ i, group = some i → (s.account i).kind = .group) (ok : s.qu.ok) :
    (onOwnerGroup f owner group s).qu.ok := by
  have first := keeps s owner (.inl user) ok
  cases group with
  | none => exact first
  | some g =>
    have other : g ≠ owner := fun same => group_ne_owner s owner (some g) user groups (congrArg some same)
    exact keeps _ g (.inr (kept g rfl other ▸ groups g rfl)) first

/-- The charges of a new LIVE record of a PRIMARY volume, with the laws of the accounts. -/
theorem chargeOwnerGroup_only (s : State) {owner : Nat} {group : Option Nat} (c : Nat) (user : (s.account owner).kind = .user)
    (groups : ∀ i, group = some i → (s.account i).kind = .group) :
    s.accountsOnly (onOwnerGroup (fun i => chargeAccount i c 1) owner group s) (ownerThenGroup owner group (s.chargedUser c)) ∧
      ∀ i, (onOwnerGroup (fun i => chargeAccount i c 1) owner group s).account i =
        if i = owner ∨ group = some i then (s.chargedUser c i).1 else s.account i := by
  obtain ⟨frame, reads⟩ := chargeOwnerGroup s owner group c user groups
  refine ⟨frame.only fun ok => quOk_onOwnerGroup (fun t i => quOk_chargeAccount) (fun i _ other => ?_) user groups ok, reads⟩
  rw [(chargeAccount_user owner c 1 s (.inl user)).2, if_neg other]

/-- The refunds of a LIVE record of a PRIMARY volume, with the laws of the accounts. -/
theorem refundOwnerGroup_only (s : State) {owner : Nat} {group : Option Nat} (c : Nat) (user : (s.account owner).kind = .user)
    (groups : ∀ i, group = some i → (s.account i).kind = .group) :
    s.accountsOnly (onOwnerGroup (fun i => refundAccount i c 1) owner group s) (ownerThenGroup owner group (s.refundedUser c)) ∧
      ∀ i, (onOwnerGroup (fun i => refundAccount i c 1) owner group s).account i =
        if i = owner ∨ group = some i then (s.refundedUser c i).1 else s.account i := by
  obtain ⟨frame, reads⟩ := refundOwnerGroup s owner group c user groups
  refine ⟨frame.only fun ok => quOk_onOwnerGroup (fun t i => quOk_refundAccount) (fun i _ other => ?_) user groups ok, reads⟩
  rw [(refundAccount_user owner c 1 s (.inl user)).2, if_neg other]

theorem chargeAccount_reserve_only {i c n : Nat} {s : State} (kind : (s.account i).kind = .reserve) :
    ∃ m, chargeAccount i c n s = reserveTrim (toVol i) (s.account i).state (reserveState (s.account i).hard ((s.account i).usage + c)) m ∧
      s.accountsOnly m (reserveNotice (toVol i) (s.account i).state (reserveState (s.account i).hard ((s.account i).usage + c))) ∧
      ∀ j, m.account j = if j = i then
        { s.account i with usage := (s.account i).usage + c
                           records := (s.account i).records + n
                           state := reserveState (s.account i).hard ((s.account i).usage + c) }
        else s.account j := by
  rw [chargeAccount_of_listed (by simp [kind])]
  exact rerate_setAccount_reserve kind fun ok => ok.reserve kind

theorem refundAccount_reserve_only {i c n : Nat} {s : State} (kind : (s.account i).kind = .reserve) :
    ∃ m, refundAccount i c n s = reserveTrim (toVol i) (s.account i).state (reserveState (s.account i).hard ((s.account i).usage - c)) m ∧
      s.accountsOnly m (reserveNotice (toVol i) (s.account i).state (reserveState (s.account i).hard ((s.account i).usage - c))) ∧
      ∀ j, m.account j = if j = i then
        { s.account i with usage := (s.account i).usage - c
                           records := (s.account i).records - n
                           state := reserveState (s.account i).hard ((s.account i).usage - c) }
        else s.account j := by
  rw [refundAccount_of_listed (by simp [kind])]
  exact rerate_setAccount_reserve kind fun ok => ok.reserve kind

theorem chargeAccount_landing_only {i c n : Nat} {s : State} (kind : (s.account i).kind = .landing) :
    s.accountsOnly (chargeAccount i c n s) (landingNotices i (s.account i).usage
        { s.account i with usage := (s.account i).usage + c, records := (s.account i).records + n }) ∧
      ∀ j, (chargeAccount i c n s).account j = if j = i then
        { s.account i with usage := (s.account i).usage + c
                           records := (s.account i).records + n
                           state := if (s.account i).hard ≠ 0 ∧ (s.account i).hard < (s.account i).usage + c then .overHard else .under }
        else s.account j := by
  rw [chargeAccount_of_listed (by simp [kind])]
  exact rerate_setAccount_landing kind fun ok => ok.landing kind

theorem refundAccount_landing_only {i c n : Nat} {s : State} (kind : (s.account i).kind = .landing) :
    s.accountsOnly (refundAccount i c n s) (landingNotices i (s.account i).usage
        { s.account i with usage := (s.account i).usage - c, records := (s.account i).records - n }) ∧
      ∀ j, (refundAccount i c n s).account j = if j = i then
        { s.account i with usage := (s.account i).usage - c
                           records := (s.account i).records - n
                           state := if (s.account i).hard ≠ 0 ∧ (s.account i).hard < (s.account i).usage - c then .overHard else .under }
        else s.account j := by
  rw [refundAccount_of_listed (by simp [kind])]
  exact rerate_setAccount_landing kind fun ok => ok.landing kind

end Sys2Proof.Machine
end

section
/-! CHARGE, SPLIT and DROP (O24, O25, O26; R9 to R13, R24, R31, R33, R34). -/

namespace Sys2Proof.Machine

/-! ### A request that passes its checks -/

theorem firstFailing_cons (b : Bool) (n : Nat) (l : List (Bool × Nat)) : firstFailing ((b, n) :: l) = if b then some n else firstFailing l := by
  cases b <;> rfl

@[simp] theorem firstFailing_cons_false (n : Nat) (l : List (Bool × Nat)) : firstFailing ((false, n) :: l) = firstFailing l := rfl
@[simp] theorem firstFailing_nil : firstFailing [] = none := rfl

theorem chargeDecision_none {a : Account} {c : Nat} (accepts : a.hard = 0 ∨ (a.usage + c ≤ a.hard ∧ (a.state ≠ .expired ∨ a.privileged = true))) :
    chargeDecision a c = none := by
  obtain unlimited | ⟨fits, notExpired⟩ := accepts
  · exact chargeDecision_of_no_limit c unlimited
  · exact chargeDecision_of_fits fits notExpired

theorem twoAccountDecision_none {s : State} {owner c : Nat} {group : Option Nat}
    (accept : ∀ i, i = owner ∨ group = some i → chargeDecision (s.account i) c = none) : twoAccountDecision s owner group c = none := by
  cases group with
  | none => exact twoAccountDecision_of_no_group (accept owner (.inl rfl))
  | some g => exact twoAccountDecision_of_both_accept (accept owner (.inl rfl)) (accept g (.inr rfl))

theorem badKind_of_kinds {s : State} {owner : Nat} {group : Option Nat} (user : (s.account owner).kind = .user)
    (groups : ∀ g, group = some g → (s.account g).kind = .group) : badKind s owner group = false := by
  cases group with
  | none => simp [badKind, user]
  | some g => simp [badKind, user, groups g rfl]

/-- Settles O24: no check fails, and both accounts accept the charge. -/
theorem chargeAddsALiveRecord : Obligations.ChargeAddsALiveRecord := by
  unfold Obligations.ChargeAddsALiveRecord
  intro s r tag p v up form vol online primary inside user groups free room accept
  have passes := passed_of_not_failing _ (reqCharge_checked up r tag form vol)
    (by simp [online, primary, badKind_of_kinds user groups, free, inside.not_gt, room.not_ge])
  have decision : twoAccountDecision s p.owner p.group (s.chargeOf v p.len) = none :=
    twoAccountDecision_none fun i mem => chargeDecision_none (accept i mem)
  simp only [decision] at passes
  obtain ⟨only, reads⟩ := chargeOwnerGroup_only (s.addExtent (chargeRecord p v (s.epochOf v))) (s.chargeOf v p.len) user groups
  exact ⟨chargeAccept p v s, congrArg _ passes, only, reads⟩

/-! ### Records found and replaced -/

theorem State.recordAt_eq_some {s : State} {v : Vol} {first : Nat} {e : Extent} (found : s.recordAt v first = some e) :
    e ∈ s.extents ∧ e.volume = v ∧ e.first = first := by
  have holds := List.find?_some found
  rw [Extent.at, Bool.and_eq_true, decide_eq_true_iff, decide_eq_true_iff] at holds
  exact ⟨List.mem_of_find?_eq_some found, holds⟩

theorem updateExtent_extents (s : State) (v : Vol) (first : Nat) (f : Extent → Extent) :
    s.updateExtent v first f = s.setExtents (s.extents.map fun x => if x.volume = v ∧ x.first = first then f x else x) := by
  unfold State.updateExtent
  congr 2
  funext x
  simp only [Extent.at, Bool.and_eq_true, decide_eq_true_eq]

theorem onLiveAccounts_of_primary {s : State} {e : Extent} (f : Nat → State → State) (primary : (s.vol e.volume).defn.role = .primary) :
    onLiveAccounts f e s = onOwnerGroup f e.owner e.group s := by
  rw [onLiveAccounts, if_neg (by rw [primary]; decide)]

theorem onLiveAccounts_of_replica {s : State} {e : Extent} (f : Nat → State → State) (replica : (s.vol e.volume).defn.role = .replica) :
    onLiveAccounts f e s = f (landingIndex e.volume) s := by
  rw [onLiveAccounts, if_pos replica]

/-! ### SPLIT -/

/-- A count of records changes the table of accounts alone. -/
theorem countRecords_of_listed {i n : Nat} {s : State} (listed : (s.account i).kind ≠ .none) :
    countRecords i n s = s.setAccount i { s.account i with records := (s.account i).records + n } := if_neg listed

theorem onOwnerGroup_countRecords (s : State) {owner : Nat} {group : Option Nat} (n : Nat) (user : (s.account owner).kind = .user)
    (groups : ∀ g, group = some g → (s.account g).kind = .group) :
    (∃ accounts, onOwnerGroup (fun i => countRecords i n) owner group s = s.setQu { s.qu with accounts := accounts }) ∧
      ∀ i, (onOwnerGroup (fun i => countRecords i n) owner group s).account i =
        if i = owner ∨ group = some i then { s.account i with records := (s.account i).records + n } else s.account i := by
  have listed : (s.account owner).kind ≠ .none := by simp [user]
  have first := fun j => account_setAccount s owner j { s.account owner with records := (s.account owner).records + n } listed
  cases group with
  | none =>
    simp only [onOwnerGroup, countRecords_of_listed listed]
    refine ⟨⟨_, rfl⟩, fun i => (first i).trans ?_⟩
    by_cases at_owner : i = owner <;> simp [at_owner]
  | some g =>
    have other : g ≠ owner := fun same => group_ne_owner s owner (some g) user groups (congrArg some same)
    have group := groups g rfl
    have kept := (first g).trans (if_neg other)
    simp only [onOwnerGroup, countRecords_of_listed listed]
    rw [countRecords_of_listed (by simp [kept, group]), kept]
    refine ⟨⟨_, rfl⟩, fun i => (account_setAccount _ g i _ (by simp [group])).trans ?_⟩
    by_cases at_group : i = g
    · simp [at_group]
    · rw [if_neg at_group, first]
      by_cases at_owner : i = owner
      · simp [at_owner]
      · simp [at_owner, Ne.symm at_group]

/-- Settles O25: the record is found, LIVE and not FILLING, so that its two halves take its place. -/
theorem splitCutsARecordInTwo : Obligations.SplitCutsARecordInTwo := by
  unfold Obligations.SplitCutsARecordInTwo
  intro s r tag p v e up vol online primary found pos inside live notFilling room user groups
  obtain ⟨-, rfl, first⟩ := State.recordAt_eq_some found
  have passes := passed_of_not_failing _ (reqSplit_checked up r tag vol)
    (by simp [online, primary, found, live, notFilling, room.not_ge, pos.ne', inside.not_ge])
  simp only [found] at passes
  set w := (s.updateExtent e.volume e.first (·.front p.k)).addExtent (e.back p.k) with cut
  have split : splitRecord e p.k s = onOwnerGroup (fun i => countRecords i 1) e.owner e.group w := onLiveAccounts_of_primary _ primary
  obtain ⟨⟨accounts, counted⟩, reads⟩ := onOwnerGroup_countRecords w 1 user groups
  refine ⟨splitRecord e p.k s, ?_, ?_, ?_⟩
  · rw [← first]
    exact congrArg _ passes
  · rw [split, counted, cut, updateExtent_extents, ← first]
    rfl
  · rw [split]
    exact reads

/-! ### DROP -/

theorem protectedBy_iff {snaps : List Snapshot} {birth d : Nat} :
    protectedBy snaps birth d = true ↔ ∃ x ∈ snaps, x.active = true ∧ birth ≤ x.epoch ∧ x.epoch < d := by
  simp [protectedBy, List.any_eq_true, and_assoc]

/-- Settles O26: the record is found, LIVE and not FILLING, and the snapshots decide. -/
theorem dropHoldsOrRemoves : Obligations.DropHoldsOrRemoves := by
  unfold Obligations.DropHoldsOrRemoves
  intro s r tag p v e E c up vol online primary epoch found live notFilling user groups reserve charge
  obtain ⟨-, rfl, first⟩ := State.recordAt_eq_some found
  subst charge
  have passes := passed_of_not_failing _ (reqDrop_checked up r tag vol) (by simp [online, primary, found, live, notFilling])
  have current : s.epochOf e.volume = E := by rw [State.epochOf, epoch]; rfl
  simp only [found, current] at passes
  refine ⟨fun protect z state => ?_, fun unprotected => ?_⟩
  · have holds : s.dropHolds e E = true := protectedBy_iff.2 protect
    rw [if_pos holds] at passes
    set w := s.setExtents (s.extents.map fun x => if x.volume = e.volume ∧ x.first = p.first then { x with death := some E } else x) with held
    have updated : (s.updateExtent e.volume e.first fun x => { x with death := some E }) = w := by rw [updateExtent_extents, first]
    obtain ⟨refunded, reads⟩ := refundOwnerGroup_only w (s.chargeOf e.volume e.len) user groups
    set t := onOwnerGroup (fun i => refundAccount i (s.chargeOf e.volume e.len) 1) e.owner e.group w
    have other : ¬(e.volume.val = e.owner ∨ e.group = some e.volume.val) := by
      rintro (same | same)
      · exact absurd (same ▸ reserve) (by simp [user])
      · exact absurd (groups _ same) (by simp [reserve])
    have kept : t.account e.volume.val = s.account e.volume.val := (reads _).trans (if_neg other)
    obtain ⟨m, charged, frame, reads'⟩ := chargeAccount_reserve_only (i := e.volume.val) (c := s.chargeOf e.volume e.len) (n := 1) (s := t)
      (kept.symm ▸ reserve)
    rw [kept] at charged frame reads'
    have hold : holdRecord e E s = chargeAccount e.volume.val (s.chargeOf e.volume e.len) 1 t := by
      unfold holdRecord refundLive
      rw [updated]
      exact congrArg (chargeAccount _ _ 1) (onLiveAccounts_of_primary (s := w) _ primary)
    refine ⟨m, ?_, ?_, fun i => ?_⟩
    · rw [state, ← toVol_val e.volume]
      refine (congrArg Host.Outcome.next passes).trans ?_
      rw [hold, charged]
      simp only [toVol_val]
      rfl
    · have both := refunded.trans frame
      rw [toVol_val] at both
      exact state ▸ both
    · rw [reads', reads]
      by_cases at_reserve : i = e.volume.val
      · rw [if_pos at_reserve, at_reserve, if_neg other, if_pos rfl, state]
        rfl
      · rw [if_neg at_reserve, if_neg at_reserve]
        rfl
  · have released : ¬s.dropHolds e E = true := fun holds => by
      obtain ⟨x, mem, protects⟩ := protectedBy_iff.1 holds
      exact unprotected x mem protects
    rw [if_neg released] at passes
    set w := s.setExtents (s.extents.filter fun x => !(decide (x.volume = e.volume) && decide (x.first = p.first))) with removed
    have updated : s.removeExtent e.volume e.first = w := by rw [State.removeExtent, first]; rfl
    obtain ⟨refunded, reads⟩ := refundOwnerGroup_only w (s.chargeOf e.volume e.len) user groups
    refine ⟨removeLive e s, congrArg _ passes, ?_⟩
    rw [removeLive, refundLive, updated, onLiveAccounts_of_primary (s := w) _ primary]
    exact ⟨refunded, reads⟩

end Sys2Proof.Machine
end

section
/-! Volumes loaded, opened and sealed, records loaded, and the terms of accounts (O29, O30, O32). -/

namespace Sys2Proof.Machine

/-! ### Writes of one register file, one after the other -/

@[simp] theorem State.setVol_setVol (s : State) (v : Vol) (x y : Volume) : (s.setVol v x).setVol v y = s.setVol v y := by
  simp only [State.setVol, State.setEtu, Vector.set_set]

@[simp] theorem State.setSnapVol_setSnapVol (s : State) (v : Vol) (x y : SnapVol) : (s.setSnapVol v x).setSnapVol v y = s.setSnapVol v y := by
  simp only [State.setSnapVol, State.setSu, Vector.set_set]

theorem State.setVol_setSnapVol (s : State) (v w : Vol) (x : Volume) (y : SnapVol) :
    (s.setVol v x).setSnapVol w y = (s.setSnapVol w y).setVol v x := rfl

/-- Auto-trim changes what the Snapshot Unit keeps for the volume alone. -/
theorem autoTrimStep_frame (v : Vol) (s : State) : ∃ x, autoTrimStep v s = s.setSnapVol v x := by
  unfold autoTrimStep
  split
  · split
    · simp only [retireSnapshot, State.setAuto, State.updateSnap, State.setSnapVol_setSnapVol]
      exact ⟨_, rfl⟩
    · exact ⟨_, rfl⟩
  · exact ⟨_, rfl⟩

theorem State.setSnapVol_snapVol (s : State) (v : Vol) : s.setSnapVol v (s.snapVol v) = s := by
  simp only [State.setSnapVol, State.setSu, State.snapVol, Fin.getElem_fin, Vector.set_getElem_self]

theorem autoTrimAgain_frame (v : Vol) (s : State) : ∃ x, autoTrimAgain v s = s.setSnapVol v x := by
  unfold autoTrimAgain
  split
  · exact autoTrimStep_frame v s
  · exact ⟨_, (s.setSnapVol_snapVol v).symm⟩

theorem autoTrimStart_frame (v : Vol) (s : State) : ∃ x, autoTrimStart v s = s.setSnapVol v x := by
  unfold autoTrimStart
  split
  · exact ⟨_, (s.setSnapVol_snapVol v).symm⟩
  · exact autoTrimStep_frame v s

theorem reserveTrim_frame (v : Vol) (old new : AccountState) (s : State) : ∃ x, reserveTrim v old new s = s.setSnapVol v x := by
  unfold reserveTrim
  split
  · split
    · exact autoTrimStart_frame v s
    · exact ⟨_, (s.setSnapVol_snapVol v).symm⟩
  · split
    · exact autoTrimAgain_frame v s
    · exact ⟨_, (s.setSnapVol_snapVol v).symm⟩

@[simp] theorem account_reserveTrim (v : Vol) (old new : AccountState) (s : State) (i : Nat) :
    (reserveTrim v old new s).account i = s.account i := by
  obtain ⟨x, changed⟩ := reserveTrim_frame v old new s
  rw [changed]
  rfl

/-! ### Snapshots loaded, volumes opened and sealed (O29) -/

theorem mem_insertSnapshot {x y : Snapshot} {l : List Snapshot} : y ∈ insertSnapshot x l ↔ y = x ∨ y ∈ l := by
  induction l with
  | nil => simp [insertSnapshot]
  | cons z l ih =>
    rw [insertSnapshot]
    split
    · rw [List.mem_cons]
    · rw [List.mem_cons, ih, List.mem_cons]
      tauto

/-- A search that passes over the snapshot put in finds what it found before. -/
theorem find_insertSnapshot_of_not {P : Snapshot → Bool} {x : Snapshot} (no : P x = false) (l : List Snapshot) :
    (insertSnapshot x l).find? P = l.find? P := by
  induction l with
  | nil => simp [insertSnapshot, no]
  | cons z l ih =>
    rw [insertSnapshot]
    split
    · rw [List.find?_cons, no]
    · rw [List.find?_cons, List.find?_cons, ih]

/-- A search for the snapshot put in finds it when no other snapshot meets it. -/
theorem find_insertSnapshot_of_only {P : Snapshot → Bool} {x : Snapshot} {l : List Snapshot} (yes : P x = true) (others : ∀ y ∈ l, P y = false) :
    (insertSnapshot x l).find? P = some x := by
  induction l with
  | nil => simp [insertSnapshot, yes]
  | cons z l ih =>
    have head := others z List.mem_cons_self
    rw [insertSnapshot]
    split
    · rw [List.find?_cons, yes]
    · rw [List.find?_cons, head]
      exact ih fun y mem => others y (List.mem_cons_of_mem _ mem)

theorem seenMax_eq (o : Option Nat) (n : Nat) : seenMax o n = some (max (o.getD 0) n) := by
  cases o with
  | none => rw [seenMax, Option.getD_none, Nat.zero_max]
  | some m => rfl

theorem noteEpoch_eq (v : Vol) (n : Nat) (s : State) : noteEpoch v n s = s.setVol v { s.vol v with seen := some (max ((s.vol v).seen.getD 0) n) } := by
  rw [noteEpoch, seenMax_eq]

/-- Settles O29: no check of the requests fails. -/
theorem volumesAreLoadedOpenedAndSealed : Obligations.VolumesAreLoadedOpenedAndSealed := by
  unfold Obligations.VolumesAreLoadedOpenedAndSealed
  intro s r tag v up
  refine ⟨fun p vol defined epoch last fresh room => ?_, fun p vol defined epoch above => ?_, fun opened => ?_⟩
  · have form : formOk (.loadSnapshot p) = true := by simp [formOk, vol, epoch]
    have labels : ((s.snapVol v).snaps.any fun x => decide (x.label = p.label)) = false :=
      List.any_eq_false.2 fun x mem => by simpa using (fresh x mem).1
    have epochs : ((s.snapVol v).snaps.any fun x => decide (x.epoch = p.epoch)) = false :=
      List.any_eq_false.2 fun x mem => by simpa using (fresh x mem).2
    have passes := passed_of_not_failing _ (reqLoadSnapshot_checked up r tag form vol)
      (by simp only [defined, last, labels, epochs, room.not_ge, List.map_cons, List.map_nil, reduceCtorEq, decide_false, decide_true, Bool.not_true,
            firstFailing_cons_false, firstFailing_nil])
    set x : Snapshot := ⟨p.epoch, p.label, p.createdAt, true, false, false, 0⟩ with loaded
    set t := (s.setSnapVol v { s.snapVol v with snaps := insertSnapshot x (s.snapVol v).snaps }).setVol v
      { s.vol v with seen := some (max ((s.vol v).seen.getD 0) p.epoch) } with loadedState
    have noted : noteEpoch v p.epoch (s.setSnapVol v { s.snapVol v with snaps := insertSnapshot x (s.snapVol v).snaps }) = t := noteEpoch_eq ..
    have list : (t.snapVol v).snaps = insertSnapshot x (s.snapVol v).snaps := by
      rw [loadedState, State.setVol_snapVol, State.snapVol_setSnapVol, if_pos rfl]
    refine ⟨fun plain => ?_, fun based => ?_⟩
    · have accepted : loadSnapshotAccept p v s = t := by
        simp only [loadSnapshotAccept, plain, ← loaded, noted, Bool.false_eq_true, if_false]
      rw [accepted] at passes
      exact congrArg _ passes
    · have accepted : loadSnapshotAccept p v s = moveBase v p.epoch t := by simp only [loadSnapshotAccept, based, ← loaded, noted, if_true]
      have found : t.snapAt v p.epoch = some x := by
        rw [State.snapAt, list]
        exact find_insertSnapshot_of_only (decide_eq_true rfl) fun y mem => decide_eq_false (fresh y mem).2
      have oldBase : t.baseSnap v = (s.snapVol v).snaps.find? (·.replBase) := by
        rw [State.baseSnap, list]
        exact find_insertSnapshot_of_not rfl _
      refine ⟨_, moveBase v p.epoch t, ?_, rfl, ?_⟩
      · rw [accepted] at passes
        exact congrArg _ passes
      · unfold moveBase
        simp only [found, oldBase]
        have moved : ((t.setSnapVol v { t.snapVol v with snaps := (t.snapVol v).snaps.map fun z => { z with replBase := decide (z.epoch = p.epoch) } }).setVol v
            { (t.setSnapVol v { t.snapVol v with snaps := (t.snapVol v).snaps.map fun z => { z with replBase := decide (z.epoch = p.epoch) } }).vol v with
              baseLabel := some x.label }) =
            ((s.setSnapVol v { s.snapVol v with
              snaps := (insertSnapshot x (s.snapVol v).snaps).map fun z => { z with replBase := decide (z.epoch = p.epoch) } }).setVol v
              { s.vol v with seen := some (max ((s.vol v).seen.getD 0) p.epoch), baseLabel := some p.label }) := by
          rw [list, loadedState]
          simp only [State.setVol_setSnapVol, State.setSnapVol_setSnapVol, State.setVol_setVol, State.vol_setVol, State.setSnapVol_vol,
            State.setVol_snapVol, State.snapVol_setSnapVol, if_true, loaded]
        rw [moved]
        rfl
  · have form : formOk (.openVolume p) = true := by simp [formOk, vol, epoch]
    have order : ((s.vol v).seen.any fun m => decide (p.epoch ≤ m)) = false := by
      cases seen : (s.vol v).seen with
      | none => rfl
      | some m => exact decide_eq_false (above m seen).not_ge
    have passes := passed_of_not_failing _ (reqOpenVolume_checked up r tag form vol)
      (by simp only [defined, order, List.map_cons, List.map_nil, reduceCtorEq, decide_false, decide_true, Bool.not_true, firstFailing_cons_false, firstFailing_nil])
    exact congrArg _ passes
  · have notFailing : firstFailing ([(decide ((s.vol v).state = .undefined), .noVolume), (decide ((s.vol v).state = .defined), .volumeState)].map
        fun x : Bool × Status => (x.1, x.2.code)) = none := by
      obtain state | state := opened <;> simp [state]
    exact ⟨congrArg _ (passed_of_not_failing _ (reqSealVolume_checked up r tag) notFailing),
      congrArg _ (passed_of_not_failing _ (reqUnsealVolume_checked up r tag) notFailing)⟩

end Sys2Proof.Machine
end

section
/-! Records loaded (O30) and the terms of accounts (O32). -/

namespace Sys2Proof.Machine

/-! ### LOAD_EXTENT -/

/-- The record that a LOAD_EXTENT gives. -/
def loadedRecord (p : LoadExtentParams) (v : Vol) (s : State) : Extent :=
  ⟨v, p.charge.first, p.charge.len, p.charge.object, p.charge.offset, p.charge.owner, p.charge.group, p.birth, p.death, false, none,
    if (s.vol v).defn.role = .replica then p.source else none⟩

/-- The table with the record, and the volume's greatest epoch seen with its epochs. -/
def withLoaded (p : LoadExtentParams) (v : Vol) (s : State) : State :=
  (s.setExtents (insertExtent (loadedRecord p v s) s.extents)).setVol v
    { s.vol v with seen := some (max ((s.vol v).seen.getD 0) (max p.birth (p.death.getD 0))) }

/-- The state with the record, which its charge then joins. -/
theorem loadExtentAccept_eq (p : LoadExtentParams) (v : Vol) (s : State) : loadExtentAccept p v s =
    match p.death with
    | none => onLiveAccounts (fun i => chargeAccount i (s.chargeOf v p.charge.len) 1) (loadedRecord p v s) (withLoaded p v s)
    | some _ => chargeAccount v.val (s.chargeOf v p.charge.len) 1 (withLoaded p v s) := by
  have noted : noteEpoch v (max p.birth (p.death.getD 0)) (s.addExtent (loadedRecord p v s)) = withLoaded p v s := noteEpoch_eq ..
  rw [← noted]
  rfl

theorem withLoaded_role (p : LoadExtentParams) (v : Vol) (s : State) : ((withLoaded p v s).vol v).defn = (s.vol v).defn := by
  rw [withLoaded, State.vol_setVol, if_pos rfl]

/-- A LOAD_EXTENT whose checks pass stores the record and charges its account. -/
theorem reqLoadExtent_accepted {s : State} (up : s.up) (r : RingNo) (tag : Nat) {v : Vol} {p : LoadExtentParams} (form : formOk (.loadExtent p) = true)
    (vol : p.charge.volume = v.val) (defined : (s.vol v).state = .defined) (inside : p.charge.first + p.charge.len ≤ (s.vol v).defn.blockCount)
    (free : s.taken v ⟨p.charge.first, p.charge.len⟩ = false) (room : s.extents.length < 16777216)
    (source : ((s.vol v).defn.role = .replica && p.source.isNone) = false)
    (kinds : ((s.vol v).defn.role = .primary && p.death.isNone && badKind s p.charge.owner p.charge.group) = false)
    (needed : ∀ d, p.death = some d → ∃ x ∈ (s.snapVol v).snaps, p.birth ≤ x.epoch ∧ x.epoch < d) :
    reqLoadExtent r tag p s = answer r ⟨tag, 0x07, 0x00, 0, 0, 0⟩ (loadExtentAccept p v s) := by
  have protect : (p.death.any fun d => (s.snapVol v).snaps.all fun x => !(decide (p.birth ≤ x.epoch) && decide (x.epoch < d))) = false := by
    cases death : p.death with
    | none => rfl
    | some d =>
      obtain ⟨x, mem, from_birth, to_death⟩ := needed d death
      exact List.all_eq_false.2 ⟨x, mem, by simp [from_birth, to_death]⟩
  have passes := passed_of_not_failing _ (reqLoadExtent_checked up r tag form vol)
    (by simp only [defined, source, kinds, free, protect, inside.not_gt, room.not_ge, List.map_cons, List.map_nil, reduceCtorEq, decide_false, decide_true,
          Bool.not_true, firstFailing_cons_false, firstFailing_nil])
  exact passes

theorem isNone_eq_false {α : Type} {o : Option α} (some : o ≠ none) : o.isNone = false :=
  Bool.eq_false_iff.2 fun none => some (Option.isNone_iff_eq_none.1 none)

/-- Settles O30: the checks pass, and the account that the record charges is of the kind that R17 gives it. -/
theorem loadExtentAddsTheRecordGiven : Obligations.LoadExtentAddsTheRecordGiven := by
  unfold Obligations.LoadExtentAddsTheRecordGiven
  rintro s r tag p v c w up form vol defined inside free room rfl state
  have state : w = withLoaded p v s := state
  subst state
  have accepted := reqLoadExtent_accepted up r tag form vol defined inside free room
  rw [loadExtentAccept_eq] at accepted
  refine ⟨fun primary live user groups => ?_, fun replica source live landing => ?_, fun role reserve d death needed z rated => ?_⟩
  · obtain ⟨only, reads⟩ := chargeOwnerGroup_only (withLoaded p v s) (s.chargeOf v p.charge.len) user groups
    have charged := accepted (by simp [primary]) (by simp [badKind_of_kinds user groups]) (by simp [live])
    simp only [live, onLiveAccounts_of_primary (s := withLoaded p v s) (e := loadedRecord p v s) _
      ((congrArg VolumeDef.role (withLoaded_role p v s)).trans primary)] at charged
    exact ⟨_, congrArg _ charged, only, reads⟩
  · obtain ⟨only, reads⟩ := chargeAccount_landing_only (i := v.val + 16) (c := s.chargeOf v p.charge.len) (n := 1) (s := withLoaded p v s) landing
    have charged := accepted (by rw [isNone_eq_false source, Bool.and_false]) (by simp [replica]) (by simp [live])
    simp only [live, onLiveAccounts_of_replica (s := withLoaded p v s) (e := loadedRecord p v s) _
      ((congrArg VolumeDef.role (withLoaded_role p v s)).trans replica)] at charged
    exact ⟨_, congrArg _ charged, only, fun i => (reads i).trans (ite_congr rfl (fun at_i => at_i ▸ rfl) fun _ => rfl)⟩
  · obtain ⟨m, charges, only, reads⟩ := chargeAccount_reserve_only (i := v.val) (c := s.chargeOf v p.charge.len) (n := 1) (s := withLoaded p v s) reserve
    have given : ((s.vol v).defn.role = .replica && p.source.isNone) = false := by
      obtain primary | ⟨-, source⟩ := role
      · rw [primary]
        rfl
      · rw [isNone_eq_false source, Bool.and_false]
    have charged := accepted given (by simp [death]) fun d' death' => (Option.some.inj (death.symm.trans death')) ▸ needed
    simp only [death, charges, toVol_val] at charged
    rw [toVol_val] at only
    subst rated
    exact ⟨m, congrArg _ charged, only, fun i => (reads i).trans (ite_congr rfl (fun at_i => at_i ▸ rfl) fun _ => rfl)⟩

/-! ### The terms of accounts -/

theorem Qu.ok.none_of_kind {s : State} (ok : s.qu.ok) {i : Nat} (kind : (s.account i).kind = .none) : s.account i = .none := by
  by_contra listed
  have laws : (s.account i).ok i := ok.2.1 _ (mem_of_sparseGet Account.none _ i listed)
  unfold Account.ok at laws
  rw [kind] at laws
  exact laws.2

/-- A host account is unlisted or of a host kind. -/
theorem Qu.ok.host {s : State} (ok : s.qu.ok) {i : Nat} (host : 32 ≤ i) :
    s.account i = .none ∨ (s.account i).kind = .user ∨ (s.account i).kind = .group := by
  by_cases kind : (s.account i).kind = .none
  · exact .inl (ok.none_of_kind kind)
  · have index := (ok.account kind).1
    rw [kindAt, if_neg (by omega), if_neg (by omega)] at index
    exact .inr index

/-- What a host account's state and deadline are before a re-rating. -/
theorem Qu.ok.host_deadline {s : State} (ok : s.qu.ok) {i : Nat} (host : 32 ≤ i) :
    (s.account i).state ≠ .over ∧ ((s.account i).state = .grace ∨ (s.account i).state = .expired → (s.account i).deadline.isSome = true) := by
  obtain none | kind := ok.host host
  · rw [none]
    exact ⟨by decide, by decide⟩
  · exact (ok.user kind).2

theorem applyDeadline_kind (clock d : Nat) (a : Account) : (applyDeadline clock d a).kind = a.kind := by
  unfold applyDeadline
  split
  · split <;> rfl
  · split <;> rfl
  · rfl
  · rfl

/-- A deadline given keeps the laws of an account that keeps them. -/
theorem applyDeadline_ok {clock d i : Nat} {a : Account} (kind : a.kind = .user ∨ a.kind = .group) (ok : a.ok i) : (applyDeadline clock d a).ok i := by
  have kind' := (applyDeadline_kind clock d a).symm ▸ kind
  obtain ⟨index, notOver, above, under, deadline⟩ := (Account.ok_user_iff kind).1 ok
  refine (Account.ok_user_iff kind').2 ⟨by rwa [applyDeadline_kind], ?_⟩
  unfold Account.above at above
  unfold applyDeadline
  split
  next grace =>
    have below : ¬(a.hard ≠ 0 ∧ a.hard < a.usage) := fun h => by simp [grace] at above; exact absurd (above h.1) (by omega)
    split <;> simp [Account.above, grace, below]
  next expired =>
    have below : ¬(a.hard ≠ 0 ∧ a.hard < a.usage) := fun h => by simp [expired] at above; exact absurd (above h.1) (by omega)
    split <;> simp [Account.above, expired, below]
  next overHard => simp [Account.above, overHard, above.1 overHard]
  next => exact ⟨notOver, above, under, deadline⟩

theorem applyDeadline_eq (clock d : Nat) (a : Account) : applyDeadline clock d a =
    match a.state with
    | .grace | .expired => { a with deadline := some d, state := if clock < d then .grace else .expired }
    | .overHard => { a with deadline := some d }
    | _ => a := by
  unfold applyDeadline
  cases state : a.state <;> simp only
  all_goals split
  all_goals first | rfl | (obtain ⟨⟩ := a; simp only at state; rw [state])

end Sys2Proof.Machine
end

section
/-! SET_LIMIT, LOAD_ACCOUNT and DROP_ACCOUNT (O32). -/

namespace Sys2Proof.Machine

/-- SET_LIMIT's re-rating of an account of each kind (R37). -/
theorem setLimitAccept_user {s : State} {p : SetLimitParams} (kind : (s.account p.account).kind = .user ∨ (s.account p.account).kind = .group) :
    setLimitAccept p s = rerate p.account (s.account p.account).usage (s.setAccount p.account
      { s.account p.account with hard := p.hard, margin := p.margin, grace := p.grace, privileged := p.privileged }) := by
  unfold setLimitAccept limited
  obtain kind | kind := kind <;> simp only [kind]

theorem setLimitAccept_volume {s : State} {p : SetLimitParams} (kind : (s.account p.account).kind = .reserve ∨ (s.account p.account).kind = .landing) :
    setLimitAccept p s = rerate p.account (s.account p.account).usage (s.setAccount p.account
      { s.account p.account with hard := p.hard, margin := p.margin }) := by
  unfold setLimitAccept limited
  obtain kind | kind := kind <;> simp only [kind]

theorem reqSetLimit_accepted {s : State} (up : s.up) (r : RingNo) (tag : Nat) {p : SetLimitParams} (form : formOk (.setLimit p) = true)
    (listed : (s.account p.account).kind ≠ .none) {m : State} {x : Account} (reads : (setLimitAccept p s).account p.account = x)
    (accepted : setLimitAccept p s = m) :
    exec (.setLimit r tag p) s = .next (answer r ⟨tag, 0x10, 0x00, x.state.code, x.soft, x.leave⟩ m) := by
  have passes := passed_of_not_failing _ (reqSetLimit_checked up r tag form) (by simp [listed])
  rw [reads, accepted] at passes
  exact congrArg _ passes

/-- A charge that stays as it is crosses no soft limit. -/
theorem landingNotices_same (i : Nat) (a : Account) : landingNotices i a.usage a =
    if a.hard ≠ 0 ∧ a.hard < a.usage ∧ a.state ≠ .overHard then [(.hardExceeded, i)] else [] := by
  rw [landingNotices, if_neg (c := a.hard ≠ 0 ∧ a.usage ≤ a.soft ∧ a.soft < a.usage) (by omega), List.append_nil]

/-- LOAD_ACCOUNT: the terms are re-rated, and then the deadline is applied (R38). -/
theorem loadAccountAccept_eq {s : State} {p : LoadAccountParams} {k : AccountKind} (host : 32 ≤ p.account) (kind : k = .user ∨ k = .group) :
    let x := rateUser s.qu.clock { s.account p.account with
      kind := k, hard := p.hard, margin := p.margin, grace := p.grace, privileged := p.privileged }
    s.accountsOnly (loadAccountAccept p k s) (x.2.map (·, p.account)) ∧
      ∀ i, (loadAccountAccept p k s).account i =
        if i = p.account then (match p.deadline with | none => x.1 | some d => applyDeadline s.qu.clock d x.1) else s.account i := by
  intro x
  have index : kindAt p.account k := by rwa [kindAt, if_neg (by omega), if_neg (by omega)]
  obtain ⟨only, reads⟩ := rerate_setAccount_user (s := s) (i := p.account) (old := (s.account p.account).usage)
    (a := { s.account p.account with kind := k, hard := p.hard, margin := p.margin, grace := p.grace, privileged := p.privileged }) kind
    fun ok => ⟨index, (ok.host_deadline host).1, (ok.host_deadline host).2⟩
  have rated : x.1.kind = k := rateUser_kind ..
  unfold loadAccountAccept
  cases deadline : p.deadline with
  | none => exact ⟨only, reads⟩
  | some d =>
    set t := rerate p.account (s.account p.account).usage (s.setAccount p.account
      { s.account p.account with kind := k, hard := p.hard, margin := p.margin, grace := p.grace, privileged := p.privileged }) with rerated
    have clock : t.qu.clock = s.qu.clock := only.2.1
    have read : t.account p.account = x.1 := (reads _).trans (if_pos rfl)
    have kind' : (applyDeadline s.qu.clock d x.1).kind ≠ .none := by
      rw [applyDeadline_kind, rated]
      obtain rfl | rfl := kind <;> decide
    have dated : (t.putUser p.account (applyDeadline t.qu.clock d (t.account p.account))) = t.putUser p.account (applyDeadline s.qu.clock d x.1) := by
      rw [clock, read]
    dsimp only
    rw [dated]
    refine ⟨?_, fun i => ?_⟩
    · have both := only.frame.trans (accountsFrame_putUser t p.account (applyDeadline s.qu.clock d x.1))
      rw [List.append_nil] at both
      refine both.only fun ok => ?_
      have okT := only.2.2.2 ok
      have listed : x.1.kind ≠ .none := by
        rw [rated]
        obtain rfl | rfl := kind <;> decide
      have good : x.1.ok p.account := read ▸ okT.account (read.symm ▸ listed)
      exact quOk_putUser okT okT.1 (fun _ _ => rfl) rfl rfl (.inr (applyDeadline_ok (rated.symm ▸ kind) good))
    · rw [account_putUser _ _ _ _ kind', reads]
      by_cases at_i : i = p.account
      · rw [if_pos at_i, if_pos at_i]
      · rw [if_neg at_i, if_neg at_i, if_neg at_i]

/-- Settles O32. -/
theorem accountTermsAreSetAndReRated : Obligations.AccountTermsAreSetAndReRated := by
  unfold Obligations.AccountTermsAreSetAndReRated
  intro s r tag up
  refine ⟨fun p form listed => ?_, fun p k x y ns form kind free rated deadline => ?_, fun i host bound records wf => ?_⟩
  case refine_1 =>
    have answers := fun {m x} => reqSetLimit_accepted up r tag form listed (m := m) (x := x)
    by_cases kind : (s.account p.account).kind = .user ∨ (s.account p.account).kind = .group
    · have accepted := setLimitAccept_user kind
      obtain ⟨only, reads⟩ := rerate_setAccount_user (s := s) (i := p.account) (old := (s.account p.account).usage)
        (a := { s.account p.account with hard := p.hard, margin := p.margin, grace := p.grace, privileged := p.privileged }) kind
        fun ok => ok.user kind
      rw [← accepted] at only reads
      refine ⟨_, _, _, only, reads, fun _ => ⟨?_, ?_, answers ((reads _).trans (if_pos rfl)) rfl⟩, fun other => ?_, fun other => ?_⟩
      · simp [List.map_map, Function.comp_def]
      · simp
      · simp [other] at kind
      · simp [other] at kind
    rename' kind => notHost
    cases kind : (s.account p.account).kind with
    | none => exact absurd kind listed
    | user => exact absurd (.inl kind) notHost
    | group => exact absurd (.inr kind) notHost
    | reserve =>
      obtain ⟨m, rerated, only, reads⟩ := rerate_setAccount_reserve (s := s) (i := p.account) (old := (s.account p.account).usage)
        (a := { s.account p.account with hard := p.hard, margin := p.margin }) kind fun ok => ok.reserve kind
      rw [← setLimitAccept_volume (.inl kind)] at rerated
      refine ⟨_, _, m, only, reads, nofun, fun _ => ⟨rfl, rfl, answers ?_ rerated⟩, nofun⟩
      rw [rerated, account_reserveTrim]
      exact (reads _).trans (if_pos rfl)
    | landing =>
      obtain ⟨only, reads⟩ := rerate_setAccount_landing (s := s) (i := p.account) (old := (s.account p.account).usage)
        (a := { s.account p.account with hard := p.hard, margin := p.margin }) kind fun ok => ok.landing kind
      rw [← setLimitAccept_volume (.inr kind)] at only reads
      refine ⟨_, _, _, only, reads, nofun, nofun, fun _ => ⟨rfl, ?_, answers ((reads _).trans (if_pos rfl)) rfl⟩⟩
      refine (landingNotices_same p.account { s.account p.account with hard := p.hard, margin := p.margin }).trans (if_congr ?_ rfl rfl)
      rw [← and_assoc]
      refine and_congr_left' ?_
      by_cases above : p.hard ≠ 0 ∧ p.hard < (s.account p.account).usage
      · exact ⟨fun _ => if_pos above, fun _ => above⟩
      · exact ⟨fun h => absurd h above, fun h => absurd ((if_neg above).symm.trans h) (by decide)⟩
  case refine_2 =>
    have hosts : k = .user ∨ k = .group := by obtain ⟨-, h⟩ | ⟨-, h⟩ := kind; exacts [.inl h, .inr h]
    have code : AccountKind.ofHostCode p.kind = some k := by obtain ⟨h, rfl⟩ | ⟨h, rfl⟩ := kind <;> rw [h] <;> rfl
    have host : 32 ≤ p.account := by
      rw [formOk, hostAccount] at form
      simp only [Bool.and_eq_true, decide_eq_true_eq] at form
      exact form.1.1.1
    obtain ⟨only, reads⟩ := loadAccountAccept_eq (s := s) host hosts
    rw [← rated] at only reads
    have final : (match p.deadline with | none => x | some d => applyDeadline s.qu.clock d x) = y := by
      rw [deadline]
      cases p.deadline with
      | none => rfl
      | some d => exact applyDeadline_eq ..
    have passes := passed_of_not_failing _ (reqLoadAccount_checked up r tag form code) (by
      obtain h | h | h := free <;> simp [h])
    have reads : ∀ i, (loadAccountAccept p k s).account i = if i = p.account then y else s.account i := fun i => by rw [reads, ← final]
    rw [reads, if_pos rfl] at passes
    exact ⟨_, congrArg _ passes, only, reads⟩
  case refine_3 =>
    have form : formOk (.dropAccount i) = true := by simp [formOk, hostAccount, host, accountOk, Config.maxAccount, bound]
    have passes := passed_of_not_failing _ (reqDropAccount_checked up r tag form) (by simp [records])
    exact ⟨_, congrArg _ passes, rfl, fun j => sparseGet_set _ _ _ _ _ wf⟩

end Sys2Proof.Machine
end

section
/-! The queries that write a host buffer (O27), and the estate clock with its expiries (O33). -/

namespace Sys2Proof.Machine

/-! ### Exports -/

theorem nextRecord_eq (s : State) (v : Vol) (key : Nat) : s.nextRecord v key = (s.records v).find? fun e => decide (key ≤ e.first) := by
  simp only [State.nextRecord, State.records, List.find?_filter, Bool.decide_and, Bool.decide_eq_true]

theorem find_isSome {α : Type} (P : α → Bool) (l : List α) : (l.find? P).isSome = l.any P := by
  rw [Bool.eq_iff_iff, List.find?_isSome, List.any_eq_true]

/-- Whether the walk of an export finds a further record (R20). -/
theorem scanNext_isSome (s : State) (v : Vol) (w : ScanWhat) (key : Nat) : (s.scanNext v w key).isSome =
    match w with
    | .extents => (s.records v).any fun e => decide (key ≤ e.first)
    | .accounts => s.qu.accounts.any fun a => decide (key ≤ a.1)
    | .snapshots => (s.snapVol v).snaps.any fun z => decide (key ≤ z.epoch) := by
  cases w <;> simp only [State.scanNext, nextRecord_eq, Option.isSome_map, find_isSome]

theorem exportStep_of_visits {r : RingNo} {x : Scan} {s : State} {bs : List Byte} {key : Nat} (room : x.count < x.max)
    (next : s.scanNext x.volume x.what x.key = some (bs, key)) :
    exportStep r x s = (s.writeBytes (x.buffer + x.what.width * x.count) bs).setScan r (some { x with key := key, count := x.count + 1 }) := by
  simp only [exportStep, Scan.visits, if_pos room, next, Scan.place]

theorem exportStep_of_ends {r : RingNo} {x : Scan} {s : State} {left : Bool} (walk : left = (s.scanNext x.volume x.what x.key).isSome)
    (ends : x.max ≤ x.count ∨ left = false) :
    exportStep r x s = answer r ⟨x.tag, 0x0B, 0x00, x.count, x.key, if left then 0 else 1⟩ (s.setScan r none) := by
  have visits : x.visits s = none := by
    obtain full | finished := ends
    · exact if_neg full.not_gt
    · have none : s.scanNext x.volume x.what x.key = none := Option.not_isSome_iff_eq_none.1 (by rw [← walk, finished]; decide)
      rw [Scan.visits, none]
      exact ite_self _
  have flag : (if (s.scanNext x.volume x.what x.key).isNone then 1 else 0) = if left then 0 else 1 := by
    rw [walk]
    cases s.scanNext x.volume x.what x.key <;> rfl
  simp only [exportStep, visits, flag]
  rfl

/-! ### Store pages read -/

/-- A page that is not under a commit reads as stored. -/
theorem Ps.page_of_quiet {x : Ps} {n p : Nat} (quiet : ∀ c, x.commit = some c → c.page ≠ p) :
    x.page n p = (List.range 256).map fun i => x.byte (256 * p + i) := by
  refine List.map_congr_left fun i mem => ?_
  have small := List.mem_range.1 mem
  unfold Ps.seen
  cases commit : x.commit with
  | none => rfl
  | some c =>
    have other := quiet c commit
    exact if_neg (by omega)

/-- Settles O27. -/
theorem bufferQueriesWriteTheirRecords : Obligations.BufferQueriesWriteTheirRecords := by
  unfold Obligations.BufferQueriesWriteTheirRecords
  refine ⟨fun s a bs ok inside => ⟨readBytes_writeBytes ok inside, fun b small => readByte_writeBytes_other ok inside small⟩, fun s r tag v => ?_⟩
  refine ⟨fun p e vol listed found => ?_, fun p bound => ?_, fun p w what lower upper vol up listed => ?_, fun none => ?_, fun x left under walk => ?_,
    fun p bound quiet => ?_⟩
  · refine congrArg Host.Outcome.next ?_
    simp only [reqQueryExtent, queryExtentFound, vol, toVol_val, volumeOk_val, gated_always _ _ _ (.queryExtent p) _ rfl rfl, if_neg listed, found]
    rfl
  · refine congrArg Host.Outcome.next ?_
    have inRange : accountOk p.account = true := decide_eq_true bound
    simp only [reqQueryAccount, inRange, gated_always _ _ _ (.queryAccount p) _ rfl rfl]
    rfl
  · refine congrArg Host.Outcome.next ?_
    have code : ScanWhat.ofCode p.what = some w := by
      simp only [List.mem_cons, List.not_mem_nil, or_false, Prod.mk.injEq] at what
      obtain ⟨h, rfl⟩ | ⟨h, rfl⟩ | ⟨h, rfl⟩ := what <;> rw [h] <;> rfl
    have form : scanOutOk p = true := by
      cases w with
      | accounts => simp [scanOutOk, lower, upper, code]
      | extents => simp [scanOutOk, lower, upper, code, vol]
      | snapshots => simp [scanOutOk, lower, upper, code, vol]
    have open' : ¬(w ≠ .accounts ∧ (s.vol (toVol p.volume)).state = .undefined) := fun ⟨ofVolume, undefined⟩ =>
      listed ofVolume (by rwa [vol ofVolume, toVol_val] at undefined)
    simp only [reqScanOut, form, gated_up _ _ _ _ _ up, code, if_neg open']
    cases s.scanOf r <;> rfl
  · simp only [exec, execScanOut, none]
  · have walk := walk.trans (scanNext_isSome s x.volume x.what x.key).symm
    have goes : exec (.scanOut r tag .goOn) s = .next (exportStep r x s) := by simp only [exec, execScanOut, under]
    refine ⟨fun room => ⟨fun e what next => ?_, fun a what next => ?_, fun z what next => ?_⟩, fun ends => ?_⟩
    · rw [goes, exportStep_of_visits (bs := extentBytes e) (key := e.first + e.len) room
        (by rw [what, State.scanNext, nextRecord_eq, next]; rfl), what]
      rfl
    · rw [goes, exportStep_of_visits (bs := accountBytes a.1 a.2) (key := a.1 + 1) room (by rw [what, State.scanNext, next]; rfl), what]
      rfl
    · rw [goes, exportStep_of_visits (bs := snapshotBytes x.volume z) (key := z.epoch + 1) room (by rw [what, State.scanNext, next]; rfl), what]
      rfl
    · rw [goes, exportStep_of_ends walk ends]
  · have notBusy : (s.ps.commit.any fun c => decide (c.page = p.page)) = false := by
      cases commit : s.ps.commit with
      | none => rfl
      | some c => exact decide_eq_false (quiet c commit)
    have passes := passed_of_not_failing _ (reqStoreRead_checked s r tag bound) (by rw [notBusy]; rfl)
    have bytes : (if p.page = 64 then (List.range 256).map s.ps.staged else s.ps.page 0 p.page) =
        (List.range 256).map fun i => if p.page = 64 then s.ps.staged i else s.ps.byte (256 * p.page + i) := by
      split
      · rfl
      · rw [Ps.page_of_quiet quiet]
    rw [bytes] at passes
    exact congrArg _ passes

end Sys2Proof.Machine
end

section
/-! The estate clock and the expiries of the grace timer list (O33; R41 to R44, R124). -/

namespace Sys2Proof.Machine

/-! ### One expiry -/

section
variable {s : State} (ok : s.qu.ok) {d i : Nat} {rest : List (Nat × Nat)} (timers : s.qu.timers = (d, i) :: rest)
include ok timers

theorem expireHead_of_head : expireHead s = raise .graceExpired i 0 (s.putUser i { s.account i with state := .expired }) := by
  simp only [expireHead, timers]

theorem head_grace : (s.account i).state = .grace ∧ (s.account i).deadline = some d :=
  (ok.2.2.2.2 d i).1 (timers ▸ List.mem_cons_self)

/-- No other entry of the list is of the head's account. -/
theorem head_only {t : Nat × Nat} (mem : t ∈ rest) : t.2 ≠ i := by
  obtain ⟨e, j⟩ := t
  rintro rfl
  obtain ⟨-, deadline⟩ := head_grace ok timers
  have deadline' := ((ok.2.2.2.2 e j).1 (timers ▸ List.mem_cons_of_mem _ mem)).2
  have same : e = d := Option.some.inj (deadline'.symm.trans deadline)
  have before := (List.pairwise_cons.1 (timers ▸ ok.2.2.2.1)).1 _ mem
  rw [same] at before
  simp only [timerBefore] at before
  omega

/-- The head's account is a USER or GROUP account at or below its limit. -/
theorem head_kind : (s.account i).kind = .user ∨ (s.account i).kind = .group := by
  obtain ⟨grace, -⟩ := head_grace ok timers
  have listed : (s.account i).kind ≠ .none := fun none => by
    rw [ok.none_of_kind none] at grace
    cases grace
  have laws := ok.account listed
  unfold Account.ok at laws
  cases kind : (s.account i).kind with
  | none => exact absurd kind listed
  | user => exact .inl rfl
  | group => exact .inr rfl
  | reserve => rw [kind, grace] at laws; simp at laws
  | landing => rw [kind, grace] at laws; simp at laws

theorem head_expires_ok : ({ s.account i with state := .expired } : Account).ok i := by
  have kind := head_kind ok timers
  obtain ⟨grace, deadline⟩ := head_grace ok timers
  have listed : (s.account i).kind ≠ .none := by rintro none; simp [none] at kind
  obtain ⟨index, -, above, -⟩ := (Account.ok_user_iff kind).1 (ok.account listed)
  rw [grace] at above
  refine (Account.ok_user_iff (a := { s.account i with state := .expired }) kind).2 ⟨index, by simp, ?_, by simp, fun _ => by simp [deadline]⟩
  exact ⟨nofun, fun exceeds => absurd (above.2 exceeds) (by decide)⟩

/-- An expiry makes the head's account EXPIRED and takes it off the list. -/
theorem expireHead_spec :
    (s.putUser i { s.account i with state := .expired }).qu.ok ∧ (s.putUser i { s.account i with state := .expired }).qu.timers = rest ∧
      ∀ j, (s.putUser i { s.account i with state := .expired }).account j = if j = i then { s.account i with state := .expired } else s.account j := by
  have kind := head_kind ok timers
  refine ⟨quOk_putUser ok ok.1 (fun _ _ => rfl) rfl rfl (.inr (head_expires_ok ok timers)), ?_, fun j => account_putUser s i j _ ?_⟩
  · change timerRemove i s.qu.timers = rest
    rw [timers, timerRemove, List.filter_cons, if_neg (by simp)]
    exact List.filter_eq_self.2 fun t mem => decide_eq_true (head_only ok timers mem)
  · intro (none : (s.account i).kind = .none)
    simp [none] at kind
end

/-! ### Every expiry that is due -/

/-- The expiries that a forward move of the clock makes, in list order (R44). -/
theorem expireDue_spec (fuel : Nat) (s : State) (ok : s.qu.ok) (enough : s.qu.timers.length ≤ fuel) :
    (expireDue fuel s).2 = (s.qu.timers.filter fun t => decide (t.1 ≤ s.qu.clock)).length ∧
      (s.setQu (expireDue fuel s).1.qu).noticesOnly (expireDue fuel s).1 ∧ (expireDue fuel s).1.qu.clock = s.qu.clock ∧
      (expireDue fuel s).1.qu.examining = s.qu.examining ∧
      (expireDue fuel s).1.qu.timers = s.qu.timers.filter (fun t => decide (s.qu.clock < t.1)) ∧
      (∀ d i, (d, i) ∈ s.qu.timers → d ≤ s.qu.clock → (expireDue fuel s).1.account i = { s.account i with state := .expired }) ∧
      ∀ i, (∀ d, (d, i) ∈ s.qu.timers → s.qu.clock < d) → (expireDue fuel s).1.account i = s.account i := by
  induction fuel generalizing s with
  | zero =>
    have empty : s.qu.timers = [] := List.length_eq_zero_iff.1 (Nat.le_zero.1 enough)
    rw [expireDue, empty]
    exact ⟨rfl, rfl, rfl, rfl, rfl, nofun, fun _ _ => rfl⟩
  | succ fuel ih =>
    rw [expireDue]
    cases timers : s.qu.timers with
    | nil =>
      have head : s.headDue = false := by simp only [State.headDue, timers]
      rw [if_neg (by rw [head]; decide)]
      exact ⟨rfl, rfl, rfl, rfl, timers, nofun, fun _ _ => rfl⟩
    | cons t rest =>
      obtain ⟨d, i⟩ := t
      by_cases due : d ≤ s.qu.clock
      · have head : s.headDue = true := by simp only [State.headDue, timers, due, decide_true]
        obtain ⟨ok', timers', reads⟩ := expireHead_spec ok timers
        rw [if_pos head, expireHead_of_head ok timers]
        set w := s.putUser i { s.account i with state := .expired } with expired
        have raised := noticesOnly_raise .graceExpired i 0 w
        have quW : (raise .graceExpired i 0 w).qu = w.qu := raised.qu
        obtain ⟨number, frame, clock, examining, left, gone, kept⟩ := ih (raise .graceExpired i 0 w) (quW ▸ ok')
          (by rw [quW, timers']; rw [timers] at enough; exact Nat.le_of_succ_le_succ enough)
        set u := expireDue fuel (raise .graceExpired i 0 w)
        rw [quW] at number clock examining left gone kept
        rw [timers'] at number left gone kept
        have clockW : w.qu.clock = s.qu.clock := rfl
        have absent : ∀ e, (e, i) ∉ rest := fun e mem => head_only ok timers mem rfl
        refine ⟨?_, ?_, clock, examining, ?_, fun e j mem small => ?_, fun j later => ?_⟩
        · simp only [number, clockW, List.filter_cons, due, decide_true, if_true, List.length_cons]
        · have first : (s.setQu u.1.qu).noticesOnly ((raise .graceExpired i 0 w).setQu u.1.qu) := by
            rw [← raise_setQu]
            exact noticesOnly_raise .graceExpired i 0 (s.setQu u.1.qu)
          exact first.trans frame
        · simp only [left, clockW, List.filter_cons, due.not_gt, decide_false, Bool.false_eq_true, if_false]
        · obtain same | mem := List.mem_cons.1 mem
          · obtain ⟨-, rfl⟩ := Prod.mk.inj same
            rw [kept j fun e mem => absurd mem (absent e), raised.account, reads, if_pos rfl]
          · have other : j ≠ i := head_only ok timers mem
            rw [gone e j mem small, raised.account, reads, if_neg other]
        · have other : j ≠ i := fun same => absurd due (later d (same ▸ List.mem_cons_self)).not_ge
          rw [kept j fun e mem => later e (List.mem_cons_of_mem _ mem), raised.account, reads, if_neg other]
      · have head : s.headDue = false := by simp only [State.headDue, timers, due, decide_false]
        rw [if_neg (by rw [head]; decide)]
        have after : ∀ t ∈ (d, i) :: rest, s.qu.clock < t.1 := fun t mem => by
          obtain rfl | mem := List.mem_cons.1 mem
          · exact Nat.lt_of_not_le due
          · have before := (List.pairwise_cons.1 (timers ▸ ok.2.2.2.1)).1 _ mem
            simp only [timerBefore] at before
            omega
        refine ⟨?_, rfl, rfl, rfl, ?_, fun e j mem small => absurd small (after _ mem).not_ge, fun _ _ => rfl⟩
        · rw [List.filter_eq_nil_iff.2 fun t mem => by simpa using after t mem]
          rfl
        · rw [timers, List.filter_eq_self.2 fun t mem => decide_eq_true (after t mem)]

/-- Settles O33. -/
theorem theClockMovesAndAccountsExpire : Obligations.TheClockMovesAndAccountsExpire := by
  unfold Obligations.TheClockMovesAndAccountsExpire
  refine ⟨fun x clock => ?_, fun s => ⟨fun r tag v up back bound => ?_, fun r tag v up ok forward bound => ?_, rfl, fun idle => ?_, fun examining later => ?_,
    fun d i rest ok examining timers due => ?_⟩⟩
  · unfold Settings.pAt
    refine if_congr ?_ rfl rfl
    unfold nightApplies hourOf
    split
    · next day => simp only [Bool.and_eq_true, decide_eq_true_eq]; omega
    · next =>
      split
      · next night => simp only [Bool.or_eq_true, decide_eq_true_eq]; omega
      · next => simp only [Bool.false_eq_true, false_iff]; omega
  · have form : decide (v ≤ Config.max32) = true := decide_eq_true bound
    refine congrArg Host.Outcome.next ?_
    simp only [reqSetClock, form, gated_up _ _ _ _ _ up, setClockAccept, if_neg back.not_gt]
    rfl
  · have form : decide (v ≤ Config.max32) = true := decide_eq_true bound
    set w := reexamine (s.setQu { s.qu with clock := v }) with moved
    have okW : w.qu.ok := ⟨ok.1, ok.2.1, bound, ok.2.2.2.1, ok.2.2.2.2⟩
    obtain ⟨number, frame, clock, examining, timers, gone, kept⟩ := expireDue_spec w.qu.timers.length w okW le_rfl
    refine ⟨(expireDue w.qu.timers.length w).1, congrArg Host.Outcome.next ?_, frame, clock, examining, timers, gone, kept⟩
    simp only [reqSetClock, form, gated_up _ _ _ _ _ up, setClockAccept, if_pos forward, ← moved, number]
    rfl
  · simp only [exec, execGraceExpiry, idle, Bool.false_eq_true, if_false]
  · have head : s.headDue = false := by
      unfold State.headDue
      split
      next => rfl
      next d i rest timers => exact decide_eq_false (later d i rest timers).not_ge
    simp only [exec, execGraceExpiry, examining, head, Bool.false_eq_true, if_true, if_false]
  · have head : s.headDue = true := by simp only [State.headDue, timers, due, decide_true]
    obtain ⟨-, left, reads⟩ := expireHead_spec ok timers
    refine ⟨s.putUser i { s.account i with state := .expired }, ?_, ?_, reads⟩
    · simp only [exec, execGraceExpiry, examining, head, if_true, expireHead_of_head ok timers]
    · rw [← left]
      rfl

end Sys2Proof.Machine
end

section
/-! Snapshots made and retired, auto-trim and the trim scan, and the release list (O34, O35, O36). -/

namespace Sys2Proof.Machine

/-! ### Answers and notices leave the other blocks as they were -/

@[simp] theorem answer_etu (r : RingNo) (x : Answer) (s : State) : (answer r x s).etu = s.etu := answerDue_etu ..
@[simp] theorem answer_qu (r : RingNo) (x : Answer) (s : State) : (answer r x s).qu = s.qu := answerDue_qu ..
@[simp] theorem answer_su (r : RingNo) (x : Answer) (s : State) : (answer r x s).su = s.su := answerDue_su ..
@[simp] theorem answer_ru (r : RingNo) (x : Answer) (s : State) : (answer r x s).ru = s.ru := answerDue_ru ..
@[simp] theorem answer_dm (r : RingNo) (x : Answer) (s : State) : (answer r x s).dm = s.dm := answerDue_dm ..
@[simp] theorem answer_ds (r : RingNo) (x : Answer) (s : State) : (answer r x s).ds = s.ds := answerDue_ds ..
@[simp] theorem answer_dr (r : RingNo) (x : Answer) (s : State) : (answer r x s).dr = s.dr := answerDue_dr ..
@[simp] theorem answer_lc (r : RingNo) (x : Answer) (s : State) : (answer r x s).lc = s.lc := answerDue_lc ..
@[simp] theorem answer_extents (r : RingNo) (x : Answer) (s : State) : (answer r x s).extents = s.extents := by simp only [State.extents, answer_etu]
@[simp] theorem answer_vol (r : RingNo) (x : Answer) (s : State) (v : Vol) : (answer r x s).vol v = s.vol v := by simp only [State.vol, answer_etu]
@[simp] theorem answer_snapVol (r : RingNo) (x : Answer) (s : State) (v : Vol) : (answer r x s).snapVol v = s.snapVol v := by
  simp only [State.snapVol, answer_su]

theorem State.noticesOnly.snapVol {s u : State} (h : s.noticesOnly u) (v : Vol) : u.snapVol v = s.snapVol v := by simp only [State.snapVol, h.su]
theorem State.noticesOnly.vol {s u : State} (h : s.noticesOnly u) (v : Vol) : u.vol v = s.vol v := by simp only [State.vol, h.etu]

/-! ### Snapshots made and retired (O34) -/

theorem anyFilling_iff (s : State) (v : Vol) : s.anyFilling v = true ↔ ∃ e ∈ s.extents, e.volume = v ∧ e.filling = true := by
  simp only [State.anyFilling, State.records, List.any_eq_true, List.mem_filter, decide_eq_true_eq, and_assoc]

theorem anyFilling_eq_false {s : State} {v : Vol} (none : ∀ e ∈ s.extents, e.volume = v → e.filling = false) : s.anyFilling v = false := by
  rw [← Bool.not_eq_true, anyFilling_iff]
  rintro ⟨e, mem, vol, filling⟩
  exact absurd filling (by rw [none e mem vol]; decide)

theorem gateLook_of_none {s : State} {v : Vol} (none : s.anyFilling v = false) :
    gateLook v s = (s.snapVol v).gate.foldl (fun t g => completeCreate v g t) (s.setSnapVol v { s.snapVol v with gate := [] }) := by
  rw [gateLook, if_neg (by rw [none]; decide)]

/-- The snapshot that a create makes at the volume's current epoch, and the epoch after it (R49). -/
theorem makeSnapshot_eq {s : State} {v : Vol} {E : Nat} (epoch : (s.vol v).epoch = some E) (label : Nat) (target : Bool) :
    makeSnapshot v label target s = autoTrimAgain v ((s.setSnapVol v { s.snapVol v with
      snaps := (s.snapVol v).snaps ++ [⟨E, label, s.qu.clock, true, false, target, 0⟩] }).setVol v { s.vol v with epoch := some (E + 1) }) := by
  simp only [makeSnapshot, epoch, Option.getD_some, State.setSnapVol_vol]

theorem ds_autoTrimAgain (v : Vol) (s : State) : (autoTrimAgain v s).ds = s.ds := by
  obtain ⟨x, changed⟩ := autoTrimAgain_frame v s
  rw [changed]
  rfl

theorem activeLabelled_of_find {s : State} {v : Vol} {label : Nat} {x : Snapshot}
    (found : (s.snapVol v).snaps.find? (fun y => decide (y.label = label)) = some x) (active : x.active = true) : s.activeLabelled v label = some x := by
  have labelled : s.snapLabelled v label = some x := found
  simp only [State.activeLabelled, labelled, active, if_true]

theorem unheld_iff (x : Snapshot) : x.unheld = true ↔ x.replBase = false ∧ x.replTarget = false ∧ x.holds = 0 := by
  simp [Snapshot.unheld, and_assoc]

theorem if_isEmpty {α β : Type} (l : List α) [Decidable (l = [])] (a b : β) : (if l.isEmpty then a else b) = if l = [] then a else b := by cases l <;> simp

/-- The snapshot becomes RETIRING and joins the retire queue, in one update (R55, R56). -/
theorem retireSnapshot_eq (v : Vol) (n : Nat) (o : RetireOrigin) (s : State) : retireSnapshot v n o s = s.setSnapVol v { s.snapVol v with
    snaps := (s.snapVol v).snaps.map fun y => if y.epoch = n then { y with active := false } else y
    retire := (s.snapVol v).retire ++ [⟨n, o, 0, 0⟩]
    trim := if (s.snapVol v).retire = [] then .scanning 0 else (s.snapVol v).trim } := by
  simp only [retireSnapshot, State.updateSnap, State.setSnapVol_setSnapVol, State.snapVol_setSnapVol, if_true, if_isEmpty]

/-- Settles O34. -/
theorem snapshotsAreMadeAndRetired : Obligations.SnapshotsAreMadeAndRetired := by
  unfold Obligations.SnapshotsAreMadeAndRetired
  intro s r tag p v E up vol opened
  have defined : decide ((s.vol v).state = .undefined) = false ∧ decide ((s.vol v).state = .defined) = false := by
    obtain state | state := opened <;> rw [state] <;> decide
  refine ⟨fun none => ⟨fun g gate => ?_, fun g h gate => ?_⟩, fun idle => ?_, fun target t epoch made => ⟨fun host => ?_, fun sender x active => ?_⟩,
    fun primary epoch fresh free room last noHost => ?_, fun x found active base target holds => ?_⟩
  · rw [gateLook_of_none (anyFilling_eq_false none), gate]
    rfl
  · rw [gateLook_of_none (anyFilling_eq_false none), gate]
    rfl
  · by_cases filling : s.anyFilling v = true
    · exact if_pos filling
    · have gate := idle.resolve_left fun some => filling ((anyFilling_iff s v).2 some)
      rw [gateLook_of_none (Bool.not_eq_true _ ▸ filling), gate]
      have same : ({ s.snapVol v with gate := [] } : SnapVol) = s.snapVol v := by
        rw [← gate]
      rw [List.foldl_nil, same, s.setSnapVol_snapVol]
  · rw [made, host, ← makeSnapshot_eq epoch]
    simp only [completeCreate, epoch, Option.getD_some]
    rfl
  · rw [made, sender, ← makeSnapshot_eq epoch]
    have ds : (makeSnapshot v p.label true s).ds = s.ds := by
      rw [makeSnapshot_eq epoch]
      exact ds_autoTrimAgain ..
    simp only [completeCreate, epoch, Option.getD_some, runTarget, ds, active, State.setActive]
  · have labels : s.labelTaken v p.label = false := by
      rw [State.labelTaken, snapLabelled_isSome, Bool.or_eq_false_iff]
      exact ⟨List.any_eq_false.2 fun x mem => by simpa using fresh x mem, by simpa using free⟩
    have hosts : (s.snapVol v).hostWaits = false := by
      refine List.any_eq_false.2 fun g mem => ?_
      cases g with
      | host ring t l => exact absurd mem (noHost ring t l)
      | sender l => exact Bool.false_ne_true
    have final : ¬4294967294 < (s.vol v).epoch.getD 0 + (s.snapVol v).gate.length := by
      rw [epoch, Option.getD_some]
      exact last.not_gt
    have passes := passed_of_not_failing _ (reqSnapshotCreate_checked up r tag vol)
      (by simp only [defined, primary, labels, hosts, room.not_ge, final, List.map_cons, List.map_nil, reduceCtorEq, decide_false, firstFailing_cons_false,
            firstFailing_nil])
    refine ⟨fun none => ?_, fun filling => ?_⟩
    · simp only [anyFilling_eq_false none, Bool.false_eq_true, if_false, epoch, Option.getD_some, makeSnapshot_eq epoch] at passes
      exact congrArg _ passes
    · rw [if_pos ((anyFilling_iff s v).2 filling)] at passes
      exact congrArg _ passes
  · have labelled := activeLabelled_of_find found active
    have passes := passed_of_not_failing _ (reqSnapshotRetire_checked up r tag vol)
      (by simp [defined, labelled, base, target, holds])
    simp only [labelled, retireSnapshot_eq] at passes
    exact congrArg _ passes

end Sys2Proof.Machine
end

section
/-! Auto-trim and the trim scan (O35; R57 to R64). -/

namespace Sys2Proof.Machine

/-! ### The step of auto-trim -/

theorem autoTrimWanted_iff (s : State) (v : Vol) : s.autoTrimWanted v = true ↔
    (s.vol v).defn.autoTrim = true ∧ (s.account v.val).hard ≠ 0 ∧ (s.account v.val).soft < (s.account v.val).usage := by
  rw [State.autoTrimWanted, Bool.and_eq_true, Bool.and_eq_true, decide_eq_true_iff, decide_eq_true_iff, and_assoc]
  rfl

theorem retirable_iff (x : Snapshot) : x.retirable = true ↔ x.active = true ∧ x.unheld = true := Bool.and_eq_true_iff

section
variable {s : State} {v : Vol}

theorem autoTrimStep_of_unwanted (unwanted : s.autoTrimWanted v = false) : autoTrimStep v s = s.setSnapVol v { s.snapVol v with auto := .off } := by
  simp only [autoTrimStep, unwanted, Bool.false_eq_true, if_false, State.setAuto]

theorem autoTrimStep_of_stalls (wanted : s.autoTrimWanted v = true) (none : (s.snapVol v).snaps.find? Snapshot.retirable = none) :
    autoTrimStep v s = s.setSnapVol v { s.snapVol v with auto := .stalled } := by
  simp only [autoTrimStep, wanted, if_true, none, State.setAuto]

theorem autoTrimStep_of_retires {x : Snapshot} (wanted : s.autoTrimWanted v = true) (found : (s.snapVol v).snaps.find? Snapshot.retirable = some x) :
    autoTrimStep v s = s.setSnapVol v { s.snapVol v with
      snaps := (s.snapVol v).snaps.map fun y => if y.epoch = x.epoch then { y with active := false } else y
      retire := (s.snapVol v).retire ++ [⟨x.epoch, .auto, 0, 0⟩]
      trim := if (s.snapVol v).retire = [] then .scanning 0 else (s.snapVol v).trim
      auto := .working } := by
  simp only [autoTrimStep, wanted, if_true, found, State.setAuto, retireSnapshot_eq, State.setSnapVol_setSnapVol, State.snapVol_setSnapVol]
end

/-- What every auto-trim operation leaves of the volume's snapshot state. -/
structure SnapVol.trimmed (x y : SnapVol) : Prop where
  queue : ∃ more, y.retire = x.retire ++ more
  producers : y.producers = x.producers
  release : y.release = x.release
  gate : y.gate = x.gate
  taking : y.taking = x.taking
  commitPlace : y.commitPlace = x.commitPlace

theorem SnapVol.trimmed.refl (x : SnapVol) : x.trimmed x := ⟨⟨[], (List.append_nil _).symm⟩, rfl, rfl, rfl, rfl, rfl⟩

theorem autoTrimStep_trimmed (v : Vol) (s : State) : (s.snapVol v).trimmed ((autoTrimStep v s).snapVol v) := by
  cases wanted : s.autoTrimWanted v
  · rw [autoTrimStep_of_unwanted wanted, State.snapVol_setSnapVol, if_pos rfl]
    exact ⟨⟨[], (List.append_nil _).symm⟩, rfl, rfl, rfl, rfl, rfl⟩
  · cases found : (s.snapVol v).snaps.find? Snapshot.retirable with
    | none =>
      rw [autoTrimStep_of_stalls wanted found, State.snapVol_setSnapVol, if_pos rfl]
      exact ⟨⟨[], (List.append_nil _).symm⟩, rfl, rfl, rfl, rfl, rfl⟩
    | some x =>
      rw [autoTrimStep_of_retires wanted found, State.snapVol_setSnapVol, if_pos rfl]
      exact ⟨⟨_, rfl⟩, rfl, rfl, rfl, rfl, rfl⟩

theorem autoTrimStart_trimmed (v : Vol) (s : State) : (s.snapVol v).trimmed ((autoTrimStart v s).snapVol v) := by
  unfold autoTrimStart
  split
  · exact .refl _
  · exact autoTrimStep_trimmed v s

theorem autoTrimAgain_trimmed (v : Vol) (s : State) : (s.snapVol v).trimmed ((autoTrimAgain v s).snapVol v) := by
  unfold autoTrimAgain
  split
  · exact autoTrimStep_trimmed v s
  · exact .refl _

theorem reserveTrim_trimmed (v : Vol) (old new : AccountState) (s : State) : (s.snapVol v).trimmed ((reserveTrim v old new s).snapVol v) := by
  unfold reserveTrim
  split
  · split
    · exact autoTrimStart_trimmed v s
    · exact .refl _
  · split
    · exact autoTrimAgain_trimmed v s
    · exact .refl _

/-! ### The release list -/

/-- An append changes the release list alone, and may raise a notice. -/
theorem releaseAppend_frame {v : Vol} {g : Run} {s w : State} (appended : releaseAppend v g s = some w) :
    ∃ l, (s.setSnapVol v { s.snapVol v with release := l }).noticesOnly w := by
  unfold releaseAppend at appended
  dsimp only at appended
  split at appended
  · exact ⟨_, by rw [← Option.some.inj appended]; exact .refl _⟩
  · split at appended
    · rw [← Option.some.inj appended]
      refine ⟨(s.snapVol v).release ++ [g], ?_⟩
      split
      · exact noticesOnly_raise ..
      · exact .refl _
    · cases appended

/-! ### The trim scan -/

section
variable {s : State} {v : Vol} {cursor : Nat} {x : RetireEntry} {rest : List RetireEntry} (trim : (s.snapVol v).trim = .scanning cursor)
  (retire : (s.snapVol v).retire = x :: rest)
include trim retire

theorem exec_trimScanStep_of_record {e : Extent} (next : s.nextRecord v cursor = some e) :
    exec (.trimScanStep v) s = .next (trimVisit v x.epoch e s) := by
  simp only [exec, execTrimScanStep, trim, retire, next]

theorem exec_trimScanStep_of_walked (next : s.nextRecord v cursor = none) :
    exec (.trimScanStep v) s = .next (if s.stranded v x.epoch then s.setTrim v (.scanning 0) else trimEnd v s) := by
  simp only [exec, execTrimScanStep, trim, retire, next]
end

theorem nextRecord_volume {s : State} {v : Vol} {cursor : Nat} {e : Extent} (next : s.nextRecord v cursor = some e) :
    e ∈ s.extents ∧ e.volume = v ∧ cursor ≤ e.first := by
  have holds := List.find?_some next
  simp only [Bool.and_eq_true, decide_eq_true_eq] at holds
  exact ⟨List.mem_of_find?_eq_some next, holds⟩

theorem candidate_iff (e : Extent) (t : Nat) : e.candidate t = true ↔ ∃ d, e.death = some d ∧ e.birth ≤ t ∧ t < d := by
  unfold Extent.candidate
  cases e.death with
  | none => simp
  | some d => simp

theorem stillProtected_of_death {s : State} {e : Extent} {d : Nat} (death : e.death = some d) : s.stillProtected e = true ↔
    ∃ y ∈ (s.snapVol e.volume).snaps, y.active = true ∧ e.birth ≤ y.epoch ∧ y.epoch < d := by
  simp only [State.stillProtected, death, protectedBy_iff]

/-- The trim scan removes this record: it is a candidate that no ACTIVE snapshot protects. -/
theorem trimVisit_of_candidate {s : State} {v : Vol} {e : Extent} {t d : Nat} (vol : e.volume = v) (death : e.death = some d) (birth : e.birth ≤ t) (dies : t < d)
    (unprotected : ∀ y ∈ (s.snapVol v).snaps, ¬(y.active = true ∧ e.birth ≤ y.epoch ∧ y.epoch < d)) : trimVisit v t e s =
    match trimRemove e s with
    | some s1 => s1.setTrim v (.scanning e.stop)
    | none => producerWait v .trim (s.setTrim v (.waiting e.first)) := by
  have candidate : e.candidate t = true := (candidate_iff e t).2 ⟨d, death, birth, dies⟩
  have released : s.stillProtected e = false := by
    rw [← Bool.not_eq_true, stillProtected_of_death death, vol]
    rintro ⟨y, mem, protects⟩
    exact unprotected y mem protects
  simp only [trimVisit, candidate, released, Bool.not_false, Bool.and_self, if_true] <;> rfl

/-- The removal of a HELD record whose run the release list takes (R57). -/
theorem trimRemove_of_appended {s w : State} {e : Extent} {v : Vol} {x : RetireEntry} {rest : List RetireEntry} (vol : e.volume = v)
    (retire : (s.snapVol v).retire = x :: rest) (appended : releaseAppend v e.run s = some w) (reserve : (s.account v.val).kind = .reserve) {c : Nat}
    (charge : c = e.len * (s.vol v).defn.blockKiB) {z : AccountState} (rated : z = reserveState (s.account v.val).hard ((s.account v.val).usage - c)) :
    ∃ m, (w.setExtents (s.extents.filter fun y => !(decide (y.volume = v) && decide (y.first = e.first)))).accountsOnly m
        (reserveNotice v (s.account v.val).state z) ∧
      (∀ i, m.account i = if i = v.val then
        { s.account i with usage := (s.account i).usage - c, records := (s.account i).records - 1, state := z } else s.account i) ∧
      trimRemove e s = some ((reserveTrim v (s.account v.val).state z m).setSnapVol v
        { (reserveTrim v (s.account v.val).state z m).snapVol v with
          retire := { x with records := x.records + 1, kib := x.kib + c } :: ((reserveTrim v (s.account v.val).state z m).snapVol v).retire.drop 1 }) := by
  subst vol
  obtain ⟨l, frame⟩ := releaseAppend_frame appended
  have qu : w.qu = s.qu := frame.qu
  have account : ∀ i, w.account i = s.account i := fun i => frame.account i
  have extents : w.extents = s.extents := frame.extents
  have defn : (w.vol e.volume).defn = (s.vol e.volume).defn := congrArg Volume.defn (frame.vol e.volume)
  obtain ⟨m, refunded, only, reads⟩ := refundAccount_reserve_only (i := e.volume.val) (c := c) (n := 1) (s := w.removeExtent e.volume e.first)
    ((account e.volume.val).symm ▸ reserve)
  have kept : ∀ i, (w.removeExtent e.volume e.first).account i = s.account i := account
  rw [toVol_val, kept, ← rated] at refunded
  rw [toVol_val, kept, ← rated] at only
  have removed : w.removeExtent e.volume e.first =
      w.setExtents (s.extents.filter fun y => !(decide (y.volume = e.volume) && decide (y.first = e.first))) := by
    rw [State.removeExtent, extents]
    rfl
  refine ⟨m, removed ▸ only, fun i => ?_, ?_⟩
  · rw [reads, kept, kept]
    exact ite_congr rfl (fun same => by rw [same, rated]) fun _ => rfl
  · have front : ∃ more, ((reserveTrim e.volume (s.account e.volume.val).state z m).snapVol e.volume).retire = x :: more := by
      obtain ⟨more, queue⟩ := (reserveTrim_trimmed e.volume (s.account e.volume.val).state z m).queue
      have su : m.snapVol e.volume = w.snapVol e.volume := by
        have raised := congrArg State.su only.1
        rw [State.setQu_su, (noticesOnly_raising _ _).su] at raised
        simp only [State.snapVol, raised]
        rfl
      have list : (m.snapVol e.volume).retire = x :: rest := by
        rw [su, frame.snapVol, State.snapVol_setSnapVol, if_pos rfl]
        exact retire
      exact ⟨rest ++ more, by rw [queue, list]; rfl⟩
    obtain ⟨more, queue⟩ := front
    have charged : w.chargeOf e.volume e.len = c := by rw [State.chargeOf, defn, charge]
    simp only [trimRemove, appended, charged, reserveIndex, refunded, queue, creditEntry, List.drop_one, List.tail_cons]

/-- Settles O35. -/
theorem autoTrimAndTrimScans : Obligations.AutoTrimAndTrimScans := by
  unfold Obligations.AutoTrimAndTrimScans
  refine ⟨fun s v a wanted account iff => ?_, fun s v cursor x rest trim retire => ⟨fun e next => ⟨fun guarded => ?_, fun d death birth dies unprotected => ?_⟩,
    fun next stranded => ?_, fun next spanned => ?_⟩⟩
  · subst iff account
    have wanted := autoTrimWanted_iff s v
    refine ⟨fun unwanted => autoTrimStep_of_unwanted (by rwa [← Bool.not_eq_true, wanted]), fun wants none => ?_, fun wants l x t list before active unheld => ?_,
      fun working => if_pos working, fun idle => if_neg idle, fun other => if_neg other, fun stalled => if_pos stalled, fun epoch => ?_⟩
    · exact autoTrimStep_of_stalls (wanted.2 wants) (List.find?_eq_none.2 fun y mem retirable => none y mem ((retirable_iff y).1 retirable))
    · refine autoTrimStep_of_retires (wanted.2 wants) ?_
      rw [list]
      exact List.find?_eq_some_iff_append.2 ⟨(retirable_iff x).2 ⟨active, unheld⟩, l, t, rfl, fun y mem => by
        rw [Bool.not_eq_true', ← Bool.not_eq_true, retirable_iff]
        exact before y mem⟩
    · unfold leftUnheld State.snapAt
      cases (s.snapVol v).snaps.find? (fun y => decide (y.epoch = epoch)) with
      | none => rfl
      | some x => exact if_congr (unheld_iff x) rfl rfl
  · obtain ⟨-, vol, -⟩ := nextRecord_volume next
    have passes : (e.candidate x.epoch && !s.stillProtected e) = false := by
      rw [Bool.and_eq_false_iff, Bool.not_eq_false']
      by_cases candidate : e.candidate x.epoch = true
      · obtain ⟨d, death, birth, dies⟩ := (candidate_iff e x.epoch).1 candidate
        exact .inr ((stillProtected_of_death death).2 (vol.symm ▸ guarded d death birth dies))
      · exact .inl (Bool.not_eq_true _ ▸ candidate)
    rw [exec_trimScanStep_of_record trim retire next, trimVisit, if_neg (by rw [passes]; decide)]
    rfl
  · obtain ⟨-, vol, -⟩ := nextRecord_volume next
    rw [exec_trimScanStep_of_record trim retire next, trimVisit_of_candidate vol death birth dies unprotected]
    refine ⟨fun w appended reserve c z charge rated => ?_, fun full fresh => ?_⟩
    · obtain ⟨m, only, reads, removed⟩ := trimRemove_of_appended vol retire appended reserve charge rated
      refine ⟨m, _, only, reads, rfl, ?_⟩
      simp only [removed, State.setTrim, State.setSnapVol_setSnapVol, State.snapVol_setSnapVol, if_true, Extent.stop]
    · refine ⟨_, rfl, ?_⟩
      have refused : trimRemove e s = none := by
        have full : releaseAppend e.volume e.run s = none := vol.symm ▸ full
        simp only [trimRemove, full]
      have waiting : (s.snapVol v).producers.contains .trim = false := by
        rw [← Bool.not_eq_true, List.contains_iff_mem]
        exact fresh
      simp only [refused, producerWait, State.setTrim, State.snapVol_setSnapVol, if_true, waiting, Bool.false_eq_true, if_false,
        State.setSnapVol_setSnapVol, if_isEmpty]
  · have left : s.stranded v x.epoch = true := by
      obtain ⟨e, mem, d, death, birth, dies, alone⟩ := stranded
      refine List.any_eq_true.2 ⟨e, mem, ?_⟩
      rw [Bool.and_eq_true, Bool.not_eq_true', candidate_iff, ← Bool.not_eq_true, List.any_eq_true]
      refine ⟨⟨d, death, birth, dies⟩, ?_⟩
      rintro ⟨z, memZ, spans⟩
      rw [Bool.and_eq_true, decide_eq_true_iff, candidate_iff] at spans
      obtain ⟨other, d', death', spans⟩ := spans
      rw [Option.some.inj (death'.symm.trans death)] at spans
      exact alone z memZ other spans
    rw [exec_trimScanStep_of_walked trim retire next, if_pos left]
    rfl
  · have none : s.stranded v x.epoch = false := by
      refine List.any_eq_false.2 fun e mem => ?_
      rw [Bool.and_eq_true, Bool.not_eq_true', candidate_iff]
      rintro ⟨⟨d, death, birth, dies⟩, alone⟩
      obtain ⟨z, memZ, other, spans⟩ := spanned e mem d death birth dies
      refine List.any_eq_false.1 alone z memZ ?_
      rw [Bool.and_eq_true, decide_eq_true_iff, candidate_iff]
      exact ⟨other, d, death, spans⟩
    have ended : exec (.trimScanStep v) s = .next (trimEnd v s) := by
      rw [exec_trimScanStep_of_walked trim retire next, none]
      rfl
    rw [ended]
    refine ⟨_, rfl, fun r tag origin small => ?_, fun origin => ?_, fun origin => ?_⟩
    · have fits : saturate 32 x.records = x.records := Nat.min_eq_left (Nat.le_sub_one_of_lt small)
      simp only [trimEnd, retire, origin, reportTrim, reduceCtorEq, if_false, fits, if_isEmpty]
      rfl
    · simp only [trimEnd, retire, origin, reportTrim, reduceCtorEq, if_false, if_isEmpty]
    · simp only [trimEnd, retire, origin, reportTrim, if_true, if_isEmpty]

end Sys2Proof.Machine
end

section
/-! The release list and TAKE_RELEASED (O36; R65 to R68). -/

namespace Sys2Proof.Machine

/-! ### Appends -/

section
variable {s : State} {v : Vol} {g : Run}

theorem releaseAppend_of_merges {l : List Run} {n : Run} (list : (s.snapVol v).release = l ++ [n]) (merges : (s.snapVol v).merges g = true) :
    releaseAppend v g s = some (s.setSnapVol v { s.snapVol v with release := l ++ [⟨n.first, n.len + g.len⟩] }) := by
  simp only [releaseAppend, merges, if_true, list, List.dropLast_concat, List.getLast?_concat]

theorem releaseAppend_of_new (apart : (s.snapVol v).merges g = false) (room : (s.snapVol v).release.length < 4096) :
    releaseAppend v g s = some (if (s.snapVol v).release = [] then
        raise .releaseReady v.val 0 (s.setSnapVol v { s.snapVol v with release := (s.snapVol v).release ++ [g] })
      else s.setSnapVol v { s.snapVol v with release := (s.snapVol v).release ++ [g] }) := by
  have room : (s.snapVol v).release.length < Config.maxRelease := room
  simp only [releaseAppend, apart, Bool.false_eq_true, if_false, room, if_true, if_isEmpty]

theorem releaseAppend_of_full (apart : (s.snapVol v).merges g = false) (full : 4096 ≤ (s.snapVol v).release.length) : releaseAppend v g s = none := by
  have full : ¬(s.snapVol v).release.length < Config.maxRelease := full.not_gt
  simp only [releaseAppend, apart, Bool.false_eq_true, if_false, full]

theorem merges_iff {l : List Run} {n : Run} (list : (s.snapVol v).release = l ++ [n]) : (s.snapVol v).merges g = true ↔
    n.first + n.len = g.first ∧ n.len + g.len ≤ 65535 ∧ ∀ t, (s.snapVol v).taking = some t → t.count ≤ l.length := by
  simp only [SnapVol.merges, list, List.getLast?_concat, Bool.and_eq_true, Run.stop, List.length_append, List.length_singleton, and_assoc,
    Config.maxRun]
  refine and_congr decide_eq_true_iff (and_congr decide_eq_true_iff ?_)
  cases (s.snapVol v).taking with
  | none => simp
  | some t => simp [Nat.lt_succ_iff]

/-- A list with a free place takes every run. -/
theorem releaseAppend_of_room (room : (s.snapVol v).release.length < 4096) : ∃ w, releaseAppend v g s = some w := by
  cases merges : (s.snapVol v).merges g
  · exact ⟨_, releaseAppend_of_new merges room⟩
  · simp only [releaseAppend, merges, if_true]
    exact ⟨_, rfl⟩
end

/-! ### Re-ratings keep what they do not touch -/

/-- A property of states that a re-rating keeps: it holds after a change of accounts and timers, of notices, and of an auto-trim step. -/
theorem rerate_keeps {P : State → Prop} (accounts : ∀ s q, P s → P (s.setQu q)) (notices : ∀ s u, s.noticesOnly u → P s → P u)
    (trims : ∀ v s, P s → P (autoTrimStep v s)) {i old : Nat} {s : State} (holds : P s) : P (rerate i old s) := by
  have raised : ∀ {k ks j} {t : State}, P t → P (raise k ks j t) := fun p => notices _ _ (noticesOnly_raise ..) p
  have starts : ∀ v t, P t → P (autoTrimStart v t) := fun v t p => by
    unfold autoTrimStart
    split
    · exact p
    · exact trims v t p
  have looks : ∀ v t, P t → P (autoTrimAgain v t) := fun v t p => by
    unfold autoTrimAgain
    split
    · exact trims v t p
    · exact p
  unfold rerate
  dsimp only
  split
  · exact holds
  · exact notices _ _ (noticesOnly_raiseAll ..) (accounts _ _ (accounts _ _ holds))
  · exact notices _ _ (noticesOnly_raiseAll ..) (accounts _ _ (accounts _ _ holds))
  · exact notices _ _ (noticesOnly_raiseAll ..) (accounts _ _ holds)
  · split
    · exact looks _ _ (accounts _ _ holds)
    · split
      · exact starts _ _ (raised (accounts _ _ holds))
      · exact raised (accounts _ _ holds)
    · exact accounts _ _ holds

theorem refundAccount_keeps {P : State → Prop} (accounts : ∀ s q, P s → P (s.setQu q)) (notices : ∀ s u, s.noticesOnly u → P s → P u)
    (trims : ∀ v s, P s → P (autoTrimStep v s)) {i c n : Nat} {s : State} (holds : P s) : P (refundAccount i c n s) := by
  unfold refundAccount
  dsimp only
  split
  · exact holds
  · exact rerate_keeps accounts notices trims (accounts _ _ holds)

theorem producers_refundAccount (i c n : Nat) (v : Vol) (s : State) : ((refundAccount i c n s).snapVol v).producers = (s.snapVol v).producers := by
  refine refundAccount_keeps (P := fun t => (t.snapVol v).producers = (s.snapVol v).producers) (fun t q same => same) (fun t u only same => ?_)
    (fun w t same => ?_) rfl
  · rw [only.snapVol]
    exact same
  · by_cases at_w : w = v
    · rw [at_w, (autoTrimStep_trimmed v t).producers]
      exact same
    · obtain ⟨x, changed⟩ := autoTrimStep_frame w t
      rw [changed, State.snapVol_setSnapVol, if_neg at_w]
      exact same

theorem extents_refundAccount (i c n : Nat) (s : State) : (refundAccount i c n s).extents = s.extents := by
  unfold refundAccount
  dsimp only
  split
  · rfl
  · exact extents_rerate ..

/-! ### TAKE_RELEASED -/

/-- A waiting trim scan whose list has room again removes its record and goes on (R59, R66). -/
theorem retryProducers_of_trim {s : State} {v : Vol} {first : Nat} {e : Extent} (producers : (s.snapVol v).producers = [.trim])
    (trim : (s.snapVol v).trim = .waiting first) (found : s.recordAt v first = some e) (room : (s.snapVol v).release.length < 4096) :
    ((retryProducers v s).snapVol v).producers = [] ∧ ((retryProducers v s).snapVol v).trim = .scanning (e.first + e.len) ∧
      (retryProducers v s).extents = s.extents.filter (fun y => !(decide (y.volume = v) && decide (y.first = first))) := by
  obtain ⟨-, rfl, rfl⟩ := State.recordAt_eq_some found
  obtain ⟨w, appended⟩ := releaseAppend_of_room (g := e.run) room
  obtain ⟨l, frame⟩ := releaseAppend_frame appended
  have waits : (w.snapVol e.volume).producers = [.trim] := by
    rw [frame.snapVol, State.snapVol_setSnapVol, if_pos rfl]
    exact producers
  have extents : w.extents = s.extents := frame.extents
  set t := refundAccount (reserveIndex e.volume) (w.chargeOf e.volume e.len) 1 (w.removeExtent e.volume e.first) with refunded
  have waitsT : (t.snapVol e.volume).producers = [.trim] := (producers_refundAccount ..).trans waits
  have retried : trimRetry e.volume s = some (t.setSnapVol e.volume { t.snapVol e.volume with
      retire := creditEntry (w.chargeOf e.volume e.len) (t.snapVol e.volume).retire, trim := .scanning (e.first + e.len) }) := by
    simp only [trimRetry, trim, found, trimRemove, appended, State.setTrim, ← refunded, State.setSnapVol_setSnapVol, State.snapVol_setSnapVol, if_true,
      Extent.stop]
  simp only [retryProducers, producers, List.foldl_cons, List.foldl_nil, retryOne, retryProducer, retried, producerLeave, State.setSnapVol_setSnapVol,
    State.snapVol_setSnapVol, if_true, waitsT, State.setSnapVol_extents]
  refine ⟨rfl, trivial, ?_⟩
  rw [refunded, extents_refundAccount, State.removeExtent, extents_setExtents, extents]
  rfl

/-- Settles O36. -/
theorem releaseListsGrowAndAreTaken : Obligations.ReleaseListsGrowAndAreTaken := by
  unfold Obligations.ReleaseListsGrowAndAreTaken
  refine ⟨fun s v g => ⟨fun l n list follows fits untaken => releaseAppend_of_merges list ((merges_iff list).2 ⟨follows, fits, untaken⟩), fun separate => ?_⟩,
    fun s v => ⟨fun r tag p up vol lower upper defined idle => ?_, fun t rs left w taking taken rest written => ?_⟩⟩
  · have apart : (s.snapVol v).merges g = false := by
      obtain empty | ⟨l, n, list, cases⟩ := separate
      · simp only [SnapVol.merges, empty, List.getLast?_nil]
      · rw [← Bool.not_eq_true, merges_iff list]
        rintro ⟨follows, fits, untaken⟩
        obtain other | long | ⟨t, taking, held⟩ := cases
        · exact other follows
        · exact fits.not_gt long
        · exact (untaken t taking).not_gt held
    exact ⟨fun room => ⟨_, rfl, releaseAppend_of_new apart room⟩, releaseAppend_of_full apart⟩
  · have form : formOk (.takeReleased p) = true := by simp [formOk, takeReleasedOk, vol, lower, upper]
    have passes := passed_of_not_failing _ (reqTakeReleased_checked up r tag form vol) (by simp [defined, idle])
    refine ⟨fun empty => ?_, fun some => ?_⟩
    · rw [empty] at passes
      exact congrArg _ passes
    · rw [if_isEmpty, if_neg some] at passes
      exact congrArg _ passes
  · have completes : exec (.takeReleased (.writesComplete v)) s = .next (retryProducers v w) := by
      subst written taken rest
      simp only [exec, execTakeReleased, taking, takeComplete]
      rfl
    have list : w.snapVol v = { s.snapVol v with release := left, taking := none } := by
      rw [written, answer_snapVol, State.snapVol_setSnapVol, if_pos rfl]
    have table : w.extents = s.extents := by
      rw [written, answer_extents]
      rfl
    rw [completes]
    refine ⟨fun none => ?_, fun first e producers trim found room => ?_⟩
    · rw [retryProducers, list]
      simp only [none, List.foldl_nil]
    · have found : w.recordAt v first = some e := by rwa [State.recordAt, table]
      obtain ⟨gone, scans, removed⟩ := retryProducers_of_trim (s := w) (by rw [list]; exact producers) (by rw [list]; exact trim) found (by rw [list]; exact room)
      exact ⟨_, rfl, gone, scans, by rw [removed, table]⟩

end Sys2Proof.Machine
end

section
/-! Restores and probes: taking a context, going on, ending and cancelling (O37, O39, O40). -/

namespace Sys2Proof.Machine

@[simp] theorem answer_restoreCtx (r : RingNo) (x : Answer) (s : State) (c : Ctx) : (answer r x s).restoreCtx c = s.restoreCtx c := by
  simp only [State.restoreCtx, answer_ru]

@[simp] theorem answerDue_restoreCtx (r : RingNo) (x : Answer) (o : AnswerOwner) (s : State) (c : Ctx) :
    (answerDue r x o s).1.restoreCtx c = s.restoreCtx c := by
  simp only [State.restoreCtx, answerDue_ru]

@[simp] theorem State.setRestoreCtx_setRestoreCtx (s : State) (c : Ctx) (x y : RestoreCtx) : (s.setRestoreCtx c x).setRestoreCtx c y = s.setRestoreCtx c y := by
  simp only [State.setRestoreCtx, State.setRu, Vector.set_set]

/-! ### Taking a context (O37) -/

theorem mem_ctxList (c : Ctx) : c ∈ ctxList := by revert c; decide

theorem freeCtx_of_lowest {s : State} {c : Ctx} (free : (s.restoreCtx c).phase = .free) (below : ∀ d : Ctx, d < c → (s.restoreCtx d).phase ≠ .free) :
    s.freeCtx = some c := find_ctx _ c (decide_eq_true free) fun d lower => decide_eq_false (below d lower)

theorem noContext_of_free {s : State} {c : Ctx} (free : (s.restoreCtx c).phase = .free) :
    (ctxList.all fun c => decide ((s.restoreCtx c).phase ≠ .free)) = false :=
  List.all_eq_false.2 ⟨c, mem_ctxList c, by simp [free]⟩

theorem takeContext_eq (c : Ctx) (y : RestoreCtx) (s : State) : takeContext c y s =
    let w := (s.updateSnap y.volume y.epoch fun z => { z with holds := z.holds + 1 }).setRestoreCtx c y
    let d := answerDue y.ring ⟨y.tag, if y.probe then 0x31 else 0x30, 0x01, c.val, y.epoch, 0⟩ (.accepted c) w
    if d.2 then d.1 else d.1.setRestoreCtx c { y with acceptedDue := true } := by
  have read : ((placeRestoreHold y.volume y.epoch s).setRestoreCtx c y).restoreCtx c = y := by rw [State.restoreCtx_setRestoreCtx, if_pos rfl]
  simp only [takeContext, acceptedAnswer, State.updateCtx, answerDue_restoreCtx, read]
  rfl

/-- Settles O37: the checks pass, and the lowest-numbered FREE context is the one taken. -/
theorem restoreAndProbeTakeAContext : Obligations.RestoreAndProbeTakeAContext := by
  unfold Obligations.RestoreAndProbeTakeAContext
  intro s r tag v x c t up primary active healthy free below taken
  have context := freeCtx_of_lowest free below
  have hasFree := noContext_of_free free
  have healthy : (s.faultRec .restore).fault = false := healthy
  refine ⟨fun p targets form vol online runs apart enough found user groups => ?_, fun p form vol opened found => ?_⟩
  · have labelled := activeLabelled_of_find found active
    have longs : (targets.any fun g : Run => decide (g.len = 0)) = false := List.any_eq_false.2 fun g mem => by simpa using (runs g mem).1
    have insides : (targets.any fun g : Run => decide ((s.vol v).defn.blockCount < g.first + g.len)) = false :=
      List.any_eq_false.2 fun g mem => by simpa using (runs g mem).2.1
    have frees : targets.any (s.taken v) = false := List.any_eq_false.2 fun g mem => by simp [(runs g mem).2.2]
    have selected := passed_of_not_failing _ (reqRestore_checked up r tag targets form vol) (by simp [longs, primary, online, labelled])
    simp only [accountKindFault_of_not_badKind (badKind_of_kinds user groups)] at selected
    have passes := passed_of_not_failing _ selected (by
      simp only [enough.not_gt, insides, apart, frees, healthy, hasFree, List.map_cons, List.map_nil, decide_false, Bool.or_self, firstFailing_cons_false,
        firstFailing_nil])
    simp only [context, labelled] at passes
    have volume : (restoreContext r tag p targets x.epoch).volume = v := (congrArg toVol vol).trans (toVol_val v)
    refine ⟨_, rfl, rfl, rfl, rfl, rfl, rfl, rfl, rfl, rfl, rfl, rfl, rfl, rfl, volume, rfl, rfl, congrArg Host.Outcome.next (passes.trans ?_)⟩
    rw [takeContext_eq, taken, volume]
    rfl
  · have labelled := activeLabelled_of_find found active
    have states : decide ((s.vol v).state = .undefined) = false ∧ decide ((s.vol v).state = .defined) = false := by
      obtain state | state := opened <;> rw [state] <;> decide
    have passes := passed_of_not_failing _ (reqProbe_checked up r tag form vol) (by
      simp only [states, primary, labelled, healthy, hasFree, List.map_cons, List.map_nil, ne_eq, not_true_eq_false, decide_false, Option.isNone_some,
        firstFailing_cons_false, firstFailing_nil])
    simp only [context, labelled] at passes
    have volume : (probeContext r tag p x.epoch).volume = v := (congrArg toVol vol).trans (toVol_val v)
    refine ⟨_, rfl, rfl, rfl, rfl, rfl, rfl, rfl, rfl, rfl, rfl, rfl, volume, rfl, rfl, congrArg Host.Outcome.next (passes.trans ?_)⟩
    rw [takeContext_eq, taken, volume]
    rfl

/-! ### Going on and ending (O39) -/

theorem running_iff (x : RestoreCtx) : x.running = true ↔ x.phase ≠ .free ∧ x.phase ≠ .ending := by
  simp only [RestoreCtx.running, Bool.and_eq_true, decide_eq_true_eq]

theorem searched_iff (x : RestoreCtx) : x.searched = true ↔ x.srcOffset + x.count ≤ x.searchPos := decide_eq_true_iff

section
variable {s : State} {c : Ctx} (running : (s.restoreCtx c).running = true)
include running

theorem continueRestore_of_running : continueRestore c s =
    if (s.restoreCtx c).cancel then endRestore c .cancelled 0 s
    else if (s.restoreCtx c).plan = [] then
      if (s.restoreCtx c).searched then endRestore c .done 0 s else s.setRestoreCtx c { s.restoreCtx c with phase := .searching }
    else s := by
  simp only [continueRestore, running, Bool.true_eq_false, if_false, if_isEmpty]

theorem continueProbe_of_running : continueProbe c s =
    if (s.restoreCtx c).cancel then endProbe c .cancelled s
    else if ((s.restoreCtx c).plan = [] ∧ (s.restoreCtx c).searched = true) ∨ (s.restoreCtx c).max ≤ (s.restoreCtx c).written then endProbe c .done s
    else s := by
  simp only [continueProbe, running, Bool.true_eq_false, if_false, List.isEmpty_iff]
end

/-- Settles O39. -/
theorem restoresGoOnOrEnd : Obligations.RestoresGoOnOrEnd := by
  unfold Obligations.RestoresGoOnOrEnd
  rintro s c x rfl
  refine ⟨fun a => ⟨_, _, rfl, rfl, rfl⟩, fun busy notEnding => ?_, fun a d due => ?_⟩
  · have running := (running_iff _).2 ⟨busy, notEnding⟩
    rw [continueRestore_of_running running]
    refine ⟨fun cancel => ?_, fun cancel plan searched => ?_, fun cancel plan left => ?_, fun cancel plan => ?_⟩
    · rw [cancel]
      rfl
    · rw [if_neg (by rw [cancel]; decide), if_pos plan, if_pos ((searched_iff _).2 searched)]
      rfl
    · rw [if_neg (by rw [cancel]; decide), if_pos plan, if_neg fun finished => left.not_ge ((searched_iff _).1 finished)]
    · rw [if_neg (by rw [cancel]; decide), if_neg plan]
  · subst due
    have kept := answerDue_restoreCtx (s.restoreCtx c).ring a (.step c) s c
    have read : ((answerDue (s.restoreCtx c).ring a (.step c) s).1.setRestoreCtx c { s.restoreCtx c with stepDue := false }).restoreCtx c =
        { s.restoreCtx c with stepDue := false } := by rw [State.restoreCtx_setRestoreCtx, if_pos rfl]
    refine ⟨fun waits => ?_, fun handed restores => ?_, fun handed probes => ?_⟩
    · simp only [stepAnswer, waits, Bool.false_eq_true, if_false, State.updateCtx, kept]
    · simp only [stepAnswer, handed, if_true, ctxReleased, State.updateCtx, kept, read]
      exact if_neg (by rw [restores]; decide)
    · simp only [stepAnswer, handed, if_true, ctxReleased, State.updateCtx, kept, read]
      exact if_pos probes

/-! ### Cancels and the writes of probes (O40) -/

theorem matchesTag_iff (x : RestoreCtx) (target : Nat) : x.matchesTag target = true ↔ x.phase ≠ .free ∧ x.phase ≠ .ending ∧ x.tag = target := by
  rw [RestoreCtx.matchesTag, Bool.and_eq_true, running_iff, decide_eq_true_iff, and_assoc]

theorem filter_ctxList_of_none {P : Ctx → Bool} (none : ∀ c, P c = false) : ctxList.filter P = [] := List.filter_eq_nil_iff.2 fun c _ => by simp [none c]

theorem filter_ctxList_of_only {P : Ctx → Bool} {c : Ctx} (yes : P c = true) (others : ∀ d, d ≠ c → P d = false) : ctxList.filter P = [c] := by
  have same : P = fun d => decide (d = c) := funext fun d => by
    by_cases at_c : d = c
    · simp [at_c, yes]
    · simp [at_c, others d at_c]
  rw [same]
  clear same yes others
  revert c
  decide

theorem reqCancelRestore_of_matches {s : State} (up : s.up) (r : RingNo) (tag target : Nat) : reqCancelRestore r tag target s =
    let cs := ctxList.filter fun c => (s.restoreCtx c).matchesTag target
    if cs = [] then answer r ⟨tag, 0x32, 0x39, 0, 0, 0⟩ s
    else cs.foldl (fun t c => cancelContext c t) (answer r ⟨tag, 0x32, 0x00, cs.length, 0, 0⟩ s) := by
  simp only [reqCancelRestore, gated_up _ _ _ _ _ up, if_isEmpty]
  rfl

theorem cancelContext_of_ends {c : Ctx} {s : State} {x : RestoreCtx} (context : s.restoreCtx c = x) (ends : x.endsAtOnce = true) :
    cancelContext c s = if x.probe then endProbe c .cancelled s else endRestore c .cancelled 0 s := by
  simp only [cancelContext, context, ends, if_true]

theorem cancelContext_of_runs {c : Ctx} {s : State} {x : RestoreCtx} (context : s.restoreCtx c = x) (runs : x.endsAtOnce = false) :
    cancelContext c s = s.setRestoreCtx c { x with cancel := true } := by
  simp only [cancelContext, context, runs, Bool.false_eq_true, if_false]

/-- A cancel that finds no record in the making, no write under way and no step answer waiting ends the context (R90). -/
theorem endsAtOnce_iff (x : RestoreCtx) : x.endsAtOnce = true ↔
    x.stepDue = false ∧ (x.probe = true → x.plan = []) ∧ (x.probe = false → ∀ f, x.flight = some f → f.created = false) := by
  unfold RestoreCtx.endsAtOnce
  cases x.probe with
  | false => cases x.flight <;> simp
  | true => simp [and_comm]

/-- Settles O40. -/
theorem cancelsAndProbeWrites : Obligations.CancelsAndProbeWrites := by
  unfold Obligations.CancelsAndProbeWrites
  refine ⟨fun s r tag target up => ⟨fun none => ?_, fun c x t context busy notEnding tagged others answered => ?_⟩,
    fun s c x p rest w context plan busy notEnding probe handed accepted written => ?_⟩
  · have empty : (ctxList.filter fun c => (s.restoreCtx c).matchesTag target) = [] := filter_ctxList_of_none fun c => by
      rw [← Bool.not_eq_true, matchesTag_iff]
      have := none c
      tauto
    refine congrArg Host.Outcome.next ?_
    rw [reqCancelRestore_of_matches up]
    simp only [empty, if_true]
  · have only : (ctxList.filter fun c => (s.restoreCtx c).matchesTag target) = [c] := by
      refine filter_ctxList_of_only ((matchesTag_iff ..).2 ⟨context ▸ busy, context ▸ notEnding, context ▸ tagged⟩) fun d other => ?_
      rw [← Bool.not_eq_true, matchesTag_iff]
      have := others d other
      tauto
    have cancels : exec (.cancelRestore r tag target) s = .next (cancelContext c t) := by
      refine congrArg Host.Outcome.next ?_
      rw [reqCancelRestore_of_matches up, answered]
      simp only [only, List.cons_ne_nil, if_false, List.length_singleton, List.foldl_cons, List.foldl_nil]
    have read : t.restoreCtx c = x := by rw [answered, answer_restoreCtx, context]
    rw [cancels]
    refine ⟨fun restores idle quiet => ?_, fun probes idle empty => ?_, fun runs => ?_⟩
    · rw [cancelContext_of_ends read ((endsAtOnce_iff x).2 ⟨idle, fun probes => absurd (restores.symm.trans probes) (by decide), fun _ => quiet⟩), restores,
        if_neg Bool.false_ne_true, endRestore, read, restoreAnswer, RestoreCtx.kind, restores]
      rfl
    · rw [cancelContext_of_ends read ((endsAtOnce_iff x).2 ⟨idle, fun _ => empty, fun restores => absurd (restores.symm.trans probes) (by decide)⟩), probes,
        if_pos rfl, endProbe, read, probeAnswer, RestoreCtx.kind, probes, if_congr (searched_iff x) rfl rfl]
      rfl
    · refine congrArg Host.Outcome.next (cancelContext_of_runs read ?_)
      rw [← Bool.not_eq_true, endsAtOnce_iff]
      rintro ⟨idle, empty, quiet⟩
      obtain waits | ⟨restores, f, flight, created⟩ | ⟨probes, some⟩ := runs
      · exact absurd (idle.symm.trans waits) (by decide)
      · exact absurd ((quiet restores f flight).symm.trans created) (by decide)
      · exact some (empty probes)
  · have running := (running_iff x).2 ⟨busy, notEnding⟩
    have writes : exec (.probePieceWrite c) s = .next (probeWritten c p rest s) := by
      simp only [exec, execProbePieceWrite, ← context, plan, running, probe, handed, accepted, Bool.not_false, Bool.and_self, if_true]
    have read : w.restoreCtx c = { x with plan := rest, written := x.written + 1 } := by rw [written, State.restoreCtx_setRestoreCtx, if_pos rfl]
    have goes : probeWritten c p rest s = if x.stepwise && decide ((x.written + 1) % 256 = 0) then
        stepAnswer c ⟨x.tag, 0x31, 0x08, x.written + 1, x.searchPos, 0⟩ w else continueProbe c w := by
      have kind : x.kind = 0x31 := if_pos probe
      simp only [probeWritten, ← context, ← written, kind]
      rfl
    rw [writes, goes]
    refine ⟨fun stepwise full => ?_, fun plain => ?_⟩
    · rw [stepwise, full]
      rfl
    · have plain : (x.stepwise && decide ((x.written + 1) % 256 = 0)) = false := by
        rw [Bool.and_eq_false_iff, decide_eq_false_iff_not]
        exact plain
      have ends : ∀ st, endProbe c st w = endWith c ⟨x.tag, 0x31, st.code, x.written + 1, x.searchPos, if x.srcOffset + x.count ≤ x.searchPos then 1 else 0⟩ w :=
        fun st => by
          have kind : ({ x with plan := rest, written := x.written + 1 } : RestoreCtx).kind = 0x31 := if_pos probe
          rw [endProbe, read, probeAnswer, kind, if_congr (searched_iff _) rfl rfl]
      have running' : (w.restoreCtx c).running = true := by
        rw [read]
        exact running
      rw [plain, if_neg Bool.false_ne_true, continueProbe_of_running running', read]
      refine ⟨fun cancel => ?_, fun cancel finished => ?_, fun cancel goesOn => ?_⟩
      · rw [if_pos cancel, ends]
        rfl
      · rw [if_neg (by rw [cancel]; decide), if_pos (finished.imp_left fun ⟨empty, searched⟩ => ⟨empty, (searched_iff _).2 searched⟩), ends]
        rfl
      · rw [if_neg (by rw [cancel]; decide), if_neg]
        exact fun finished => goesOn (finished.imp_left fun ⟨empty, searched⟩ => ⟨empty, (searched_iff _).1 searched⟩)

end Sys2Proof.Machine
end

section
/-! Pieces mapped onto their targets (O41; R82, R83, R88). -/

namespace Sys2Proof.Machine

theorem runsLen_cons (g : Run) (gs : List Run) : runsLen (g :: gs) = g.len + runsLen gs := rfl

/-- The walk passes over the target runs before the position. -/
theorem segmentsAt_append {l : List Run} {ts : List Run} {pos n : Nat} (some : n ≠ 0) (before : runsLen l ≤ pos) :
    segmentsAt (l ++ ts) pos n = segmentsAt ts (pos - runsLen l) n := by
  induction l generalizing pos with
  | nil => rfl
  | cons g l ih =>
    rw [runsLen_cons] at before
    rw [List.cons_append, segmentsAt, if_neg some, if_pos (by omega), ih (by omega), runsLen_cons]
    congr 1
    omega

/-- The segment within the run that the position lies in, and what follows it. -/
theorem segmentsAt_cons {t : Run} {ts : List Run} {pos n : Nat} (some : n ≠ 0) (inside : pos < t.len) :
    segmentsAt (t :: ts) pos n = ⟨t.first + pos, min n (t.len - pos)⟩ :: segmentsAt ts 0 (n - min n (t.len - pos)) := by
  rw [segmentsAt, if_neg some, if_neg (by omega)]

theorem segmentsAt_zero (ts : List Run) (pos : Nat) : segmentsAt ts pos 0 = [] := by
  cases ts with
  | nil => rfl
  | cons t ts => rw [segmentsAt, if_pos rfl]

section
variable {x : RestoreCtx} {p : Piece} {l ts : List Run} {t : Run} (some : 0 < p.len) (targets : x.targets = l ++ t :: ts) (lower : runsLen l ≤ x.pos)
  (upper : x.pos < runsLen l + t.len)
include some targets lower upper

/-- A piece that ends within the run it starts in, or in the last run, has one segment. -/
theorem segments_of_one (within : x.pos + min p.len 4096 ≤ runsLen l + t.len ∨ ts = []) :
    x.segments p = [⟨t.first + (x.pos - runsLen l), min (min p.len 4096) (runsLen l + t.len - x.pos)⟩] := by
  have n : min p.len 4096 ≠ 0 := by omega
  have left : t.len - (x.pos - runsLen l) = runsLen l + t.len - x.pos := by omega
  have rest : segmentsAt ts 0 (min p.len 4096 - min (min p.len 4096) (runsLen l + t.len - x.pos)) = [] := by
    obtain fits | rfl := within
    · rw [Nat.min_eq_left (a := min p.len 4096) (by omega), Nat.sub_self, segmentsAt_zero]
    · rfl
  rw [RestoreCtx.segments, targets, Config.maxExtentLen, segmentsAt_append n lower, segmentsAt_cons n (by omega), left, rest]
  rfl

/-- A piece that passes the end of the run it starts in has its second segment in the run after. -/
theorem segments_of_two {t2 : Run} {ts2 : List Run} (next : ts = t2 :: ts2) (pos : 0 < t2.len) (passes : runsLen l + t.len < x.pos + min p.len 4096) :
    x.segments p = [⟨t.first + (x.pos - runsLen l), runsLen l + t.len - x.pos⟩,
      ⟨t2.first, min (min p.len 4096) (runsLen l + t.len + t2.len - x.pos) - (runsLen l + t.len - x.pos)⟩] := by
  have n : min p.len 4096 ≠ 0 := by omega
  have first : min (min p.len 4096) (t.len - (x.pos - runsLen l)) = runsLen l + t.len - x.pos := by omega
  have second : min (min p.len 4096 - (runsLen l + t.len - x.pos)) (t2.len - 0) =
      min (min p.len 4096) (runsLen l + t.len + t2.len - x.pos) - (runsLen l + t.len - x.pos) := by omega
  rw [RestoreCtx.segments, targets, Config.maxExtentLen, segmentsAt_append n lower, segmentsAt_cons n (by omega), next, first,
    segmentsAt_cons (by omega) pos, second]
  rfl
end

/-- Settles O41. -/
theorem piecesAreMappedOntoTargets : Obligations.PiecesAreMappedOntoTargets := by
  unfold Obligations.PiecesAreMappedOntoTargets
  rintro s c x p rest rfl plan busy notEnding restores idle handed accepted uncancelled
  have running := (running_iff _).2 ⟨busy, notEnding⟩
  have may : (s.restoreCtx c).mayMap = true := by
    simp only [RestoreCtx.mayMap, running, restores, idle, handed, accepted, uncancelled, Option.isNone_none, Bool.not_false, Bool.and_self]
  have maps : exec (.pieceMap c) s = .next (if p.source.isNone && !(s.restoreCtx c).zeroHoles then skipHole c p rest s else mapPiece c p rest s) := by
    simp only [exec, execPieceMap, plan, may, if_true]
    split <;> rfl
  rw [maps]
  refine ⟨fun hole passed w skipped => ?_, fun copied some l ts t next targets lower upper mapped => ?_⟩
  · have skips : (p.source.isNone && !(s.restoreCtx c).zeroHoles) = true := by rw [hole, passed]; rfl
    have after : skipHole c p rest s = afterPiece c 2 p w := by rw [skipped]; rfl
    have read : w.restoreCtx c = { s.restoreCtx c with phase := .copying, plan := rest, pos := (s.restoreCtx c).pos + p.len } := by
      rw [skipped, State.restoreCtx_setRestoreCtx, if_pos rfl]
    rw [if_pos skips, after, afterPiece, read]
    refine ⟨fun plain => ?_, fun stepwise => ?_⟩
    · rw [if_neg (by rw [plain]; decide)]
    · have kind : ({ s.restoreCtx c with phase := .copying, plan := rest, pos := (s.restoreCtx c).pos + p.len } : RestoreCtx).kind = 0x30 :=
        if_neg (by rw [restores]; decide)
      rw [if_pos stepwise, pieceAnswer, kind]
      rfl
  · have moves : ¬(p.source.isNone && !(s.restoreCtx c).zeroHoles) = true := by
      rw [Bool.and_eq_true, Option.isNone_iff_eq_none, Bool.not_eq_true']
      rintro ⟨hole, passed⟩
      obtain data | holes := copied
      · exact data hole
      · exact absurd (passed.symm.trans holes) (by decide)
    rw [if_neg moves]
    have maps : ∀ k segs, (s.restoreCtx c).segments p = segs → runsLen segs = k → mapPiece c p rest s = next k segs := by
      rintro k segs rfl rfl
      exact (mapped ..).symm
    refine ⟨fun within k cut => ?_, fun t2 ts2 follows pos passes k cut => ?_⟩
    · rw [maps k _ (cut ▸ segments_of_one some targets lower upper within) rfl]
    · rw [maps k _ (cut ▸ segments_of_two some targets lower upper follows pos passes) ?_]
      change _ + (_ + 0) = k
      dsimp only
      omega

end Sys2Proof.Machine
end

section
/-! Pieces that make their records (O42; R50, R84, R85). -/

namespace Sys2Proof.Machine

/-! ### The claim -/

/-- A block lies in a run. -/
def Run.holds (g : Run) (b : Nat) : Prop := g.first ≤ b ∧ b < g.first + g.len

theorem exists_minus_holds (r g : Run) (b : Nat) : (∃ y ∈ r.minus g, Run.holds y b) ↔ Run.holds r b ∧ ¬Run.holds g b := by
  unfold Run.minus Run.overlaps Run.holds Run.stop
  split
  next shared =>
    simp only [Bool.and_eq_true, decide_eq_true_eq] at shared
    by_cases low : r.first < g.first <;> by_cases high : g.first + g.len < r.first + r.len <;> simp [low, high] <;> omega
  next apart =>
    simp only [Bool.and_eq_true, decide_eq_true_eq] at apart
    simp only [List.mem_singleton, exists_eq_left]
    omega

/-- The blocks that a piece's segments take leave the claim (R84). -/
theorem exists_claimMinus_holds (segs claim : List Run) (b : Nat) :
    (∃ y ∈ claimMinus claim segs, Run.holds y b) ↔ (∃ y ∈ claim, Run.holds y b) ∧ ∀ g ∈ segs, ¬Run.holds g b := by
  induction segs generalizing claim with
  | nil => simp [claimMinus]
  | cons g segs ih =>
    have first : (∃ y ∈ claim.flatMap fun r => r.minus g, Run.holds y b) ↔ (∃ y ∈ claim, Run.holds y b) ∧ ¬Run.holds g b := by
      constructor
      · rintro ⟨y, mem, holds⟩
        obtain ⟨r, memR, memY⟩ := List.mem_flatMap.1 mem
        obtain ⟨within, outside⟩ := (exists_minus_holds r g b).1 ⟨y, memY, holds⟩
        exact ⟨⟨r, memR, within⟩, outside⟩
      · rintro ⟨⟨r, memR, within⟩, outside⟩
        obtain ⟨y, memY, holds⟩ := (exists_minus_holds r g b).2 ⟨within, outside⟩
        exact ⟨y, List.mem_flatMap.2 ⟨r, memR, memY⟩, holds⟩
    refine (ih (claim.flatMap fun r => r.minus g)).trans ?_
    rw [first, List.forall_mem_cons, and_assoc]

/-! ### The records and their charge -/

theorem addExtents_eq (es : List Extent) : ∀ s : State, es.foldl (fun t e => t.addExtent e) s = s.setExtents (es.foldl (fun l e => insertExtent e l) s.extents) := by
  induction es with
  | nil => exact fun _ => rfl
  | cons e es ih => exact fun s => ih (s.addExtent e)

/-- A charge of the owner and of the group that counts several records (R84). -/
theorem chargeOwnerGroup_records (s : State) {owner : Nat} {group : Option Nat} (c n : Nat) (user : (s.account owner).kind = .user)
    (groups : ∀ i, group = some i → (s.account i).kind = .group) :
    s.accountsOnly (onOwnerGroup (fun i => chargeAccount i c n) owner group s) (ownerThenGroup owner group fun i =>
        rateUser s.qu.clock { s.account i with usage := (s.account i).usage + c, records := (s.account i).records + n }) ∧
      ∀ i, (onOwnerGroup (fun i => chargeAccount i c n) owner group s).account i = if i = owner ∨ group = some i then
        (rateUser s.qu.clock { s.account i with usage := (s.account i).usage + c, records := (s.account i).records + n }).1 else s.account i := by
  obtain ⟨frame, reads⟩ := onOwnerGroup_accounts (fun i => chargeAccount i c n)
    (fun clock a => rateUser clock { a with usage := a.usage + c, records := a.records + n }) s owner group
    (fun t i h => chargeAccount_user i c n t h) user groups
  refine ⟨frame.only fun ok => quOk_onOwnerGroup (fun t i => quOk_chargeAccount) (fun i _ other => ?_) user groups ok, reads⟩
  rw [(chargeAccount_user owner c n s (.inl user)).2, if_neg other]

theorem refundOwnerGroup_records (s : State) {owner : Nat} {group : Option Nat} (c n : Nat) (user : (s.account owner).kind = .user)
    (groups : ∀ i, group = some i → (s.account i).kind = .group) :
    s.accountsOnly (onOwnerGroup (fun i => refundAccount i c n) owner group s) (ownerThenGroup owner group fun i =>
        rateUser s.qu.clock { s.account i with usage := (s.account i).usage - c, records := (s.account i).records - n }) ∧
      ∀ i, (onOwnerGroup (fun i => refundAccount i c n) owner group s).account i = if i = owner ∨ group = some i then
        (rateUser s.qu.clock { s.account i with usage := (s.account i).usage - c, records := (s.account i).records - n }).1 else s.account i := by
  obtain ⟨frame, reads⟩ := onOwnerGroup_accounts (fun i => refundAccount i c n)
    (fun clock a => rateUser clock { a with usage := a.usage - c, records := a.records - n }) s owner group
    (fun t i h => refundAccount_user i c n t h) user groups
  refine ⟨frame.only fun ok => quOk_onOwnerGroup (fun t i => quOk_refundAccount) (fun i _ other => ?_) user groups ok, reads⟩
  rw [(refundAccount_user owner c n s (.inl user)).2, if_neg other]

/-- Raising notices looks at the notice set alone. -/
theorem raise_riu_congr {s t : State} (same : s.riu = t.riu) (k : NoticeKind) (b c : Nat) : (raise k b c s).riu = (raise k b c t).riu := by
  unfold raise
  rw [same]
  split
  · rfl
  · split <;> rfl

theorem raising_riu_congr (ns : List (NoticeKind × Nat)) {s t : State} (same : s.riu = t.riu) : (s.raising ns).riu = (t.raising ns).riu := by
  induction ns generalizing s t with
  | nil => exact same
  | cons n ns ih => exact ih (raise_riu_congr same n.1 n.2 0)

/-- The update that makes a piece's records, before its charge (R84). -/
def withPiece (c : Ctx) (f : Flight) (s : State) : State :=
  (leaveGate c (s.setExtents (((s.restoreCtx c).pieceRecords ((s.vol (s.restoreCtx c).volume).epoch.getD 0) ((s.restoreCtx c).targetOffset f.piece)
    f.segs).foldl (fun l e => insertExtent e l) s.extents))).setRestoreCtx c { s.restoreCtx c with
      claim := claimMinus (s.restoreCtx c).claim f.segs
      pos := (s.restoreCtx c).pos + f.piece.len
      flight := some { f with created := true } }

theorem makePiece_eq (c : Ctx) (f : Flight) (s : State) : makePiece c f s =
    onOwnerGroup (fun i => chargeAccount i (s.chargeOf (s.restoreCtx c).volume f.piece.len) f.segs.length) (s.restoreCtx c).owner (s.restoreCtx c).group
      (withPiece c f s) := by
  simp only [makePiece, addExtents_eq]
  rfl

theorem askUnit_of_granted {u : MoverUnit} {s : State} (healthy : s.faulted u.cls = false) (other : u.cls ≠ .ship) (idle : s.dm.engine = none)
    (none : s.dm.waiting = []) : askUnit u s = some (s.setDm { s.dm with engine := some u, pointer := u.cls }) := by
  simp only [askUnit, healthy, idle, none, Option.isNone_none, List.isEmpty_nil, Bool.and_self, Bool.false_eq_true, if_false, if_true, startUnit, grantEffect, other]

theorem askUnit_of_busy {u : MoverUnit} {s : State} (healthy : s.faulted u.cls = false) (busy : s.dm.engine ≠ none ∨ s.dm.waiting ≠ []) :
    askUnit u s = some (s.setDm { s.dm with waiting := s.dm.waiting ++ [u] }) := by
  have busy : ¬(s.dm.engine.isNone && s.dm.waiting.isEmpty) = true := by
    rw [Bool.and_eq_true, Option.isNone_iff_eq_none, List.isEmpty_iff]
    tauto
  rw [askUnit, if_neg (by rw [healthy]; decide), if_neg busy]

theorem exec_pieceCreate_of_first {s : State} {c : Ctx} {f : Flight} (flight : (s.restoreCtx c).flight = some f) (fresh : f.created = false)
    (gate : (s.snapVol (s.restoreCtx c).volume).gate = [])
    (first : s.ru.gateOrder.find? (fun d => decide ((s.restoreCtx d).volume = (s.restoreCtx c).volume)) = some c) :
    exec (.pieceCreate c) s = .next (createPiece c f s) := by
  have closed : (s.snapVol (s.restoreCtx c).volume).closing = false := by rw [SnapVol.closing, gate]; rfl
  have waited : s.firstAtGate c = true := decide_eq_true first
  simp only [exec, execPieceCreate, flight, fresh, closed, waited, true_and, and_self, if_true]

theorem pieceUnit_cls (c : Ctx) (v : Vol) (f : Flight) : (pieceUnit c v f).cls = .restore ∧ (pieceUnit c v f).num = c := by
  unfold pieceUnit
  split <;> exact ⟨rfl, rfl⟩

/-- Settles O42. -/
theorem piecesMakeTheirRecords : Obligations.PiecesMakeTheirRecords := by
  unfold Obligations.PiecesMakeTheirRecords
  rintro s c x f q context restores flight fresh gate first rfl
  have creates : exec (.pieceCreate c) s = .next (createPiece c f s) := by
    subst context
    exact exec_pieceCreate_of_first flight fresh gate first
  rw [creates]
  refine ⟨fun user groups room accept healthy => ?_, fun st refused => ?_⟩
  · have accepted : pieceRefusal x f s = none := by
      have kinds : (accountKindFault s x.owner x.group).isSome = false := (badKind_eq ..).trans (badKind_of_kinds user groups)
      have table : ¬s.tableRoom f.segs.length = false := by
        rw [State.tableRoom, decide_eq_false_iff_not, not_not]
        exact room
      have decision : twoAccountDecision s x.owner x.group (s.chargeOf x.volume f.piece.len) = none := twoAccountDecision_none accept
      rw [pieceRefusal, if_neg (by rw [kinds]; decide), if_neg table, decision]
      rfl
    set m := makePiece c f s with made
    obtain ⟨only, reads⟩ := chargeOwnerGroup_records (withPiece c f s) (s.chargeOf x.volume f.piece.len) f.segs.length (owner := x.owner) (group := x.group)
      user groups
    have charged := makePiece_eq c f s
    rw [← made, ← context] at charged
    rw [← charged] at only reads
    obtain ⟨frame, clock, examining, -⟩ := only
    set ns := ownerThenGroup x.owner x.group fun i => rateUser s.qu.clock { s.account i with
      usage := (s.account i).usage + s.chargeOf x.volume f.piece.len, records := (s.account i).records + f.segs.length } with notices
    have raised : (withPiece c f s).raising ns = _ := noticesOnly_raising ns (withPiece c f s)
    have frame : m = ((withPiece c f s).raising ns).setQu m.qu := frame
    have dm : m.dm = s.dm := by rw [frame, raised]; rfl
    have faulted : m.faulted .restore = false := by rw [State.faulted, State.faultRec, dm]; exact healthy
    obtain ⟨cls, num⟩ := pieceUnit_cls c x.volume f
    have extents : m.extents = ((x.pieceRecords ((s.vol x.volume).epoch.getD 0) (x.targetOffset f.piece) f.segs).foldl (fun l e => insertExtent e l) s.extents) := by
      rw [frame, raised, context]
      rfl
    have asks : ∃ d, askUnit (pieceUnit c x.volume f) m = some (m.setDm d) ∧
        (s.dm.engine = none → s.dm.waiting = [] → d = { s.dm with engine := some (pieceUnit c x.volume f), pointer := .restore }) ∧
        (s.dm.engine ≠ none ∨ s.dm.waiting ≠ [] → d = { s.dm with waiting := s.dm.waiting ++ [pieceUnit c x.volume f] }) := by
      by_cases idle : s.dm.engine = none ∧ s.dm.waiting = []
      · obtain ⟨engine, waiting⟩ := idle
        exact ⟨_, askUnit_of_granted (cls ▸ faulted) (by rw [cls]; decide) (dm ▸ engine) (dm ▸ waiting), fun _ _ => by rw [dm, cls],
          fun busy => by tauto⟩
      · have busy : s.dm.engine ≠ none ∨ s.dm.waiting ≠ [] := by tauto
        exact ⟨_, askUnit_of_busy (cls ▸ faulted) (dm ▸ busy), fun engine waiting => by tauto, fun _ => by rw [dm]⟩
    obtain ⟨d, asked, granted, queued⟩ := asks
    have goes : createPiece c f s = m.setDm d := by
      simp only [createPiece, ← context, accepted, ← made, asked]
    have read : m.restoreCtx c = { x with
        claim := claimMinus x.claim f.segs, pos := x.pos + f.piece.len, flight := some { f with created := true } } := by
      rw [frame, raised]
      change (withPiece c f s).restoreCtx c = _
      rw [withPiece, State.restoreCtx_setRestoreCtx, if_pos rfl, context]
    refine ⟨m.setDm d, pieceUnit c x.volume f, congrArg _ goes, cls, num, fun g segs => ⟨?_, ?_, ?_⟩, fun g h segs => ⟨?_, ?_, ?_⟩, reads, ?_, fun b => ?_, ?_,
      fun e other => ?_, granted, queued, ?_, ?_⟩
    · exact extents.trans (by rw [segs]; rfl)
    · rw [pieceUnit, segs]
      unfold pieceSegment
      cases f.piece.source <;> rfl
    · rw [pieceUnit, segs]
      rfl
    · exact extents.trans (by rw [segs]; rfl)
    · rw [pieceUnit, segs]
      unfold pieceSegment
      cases f.piece.source <;> rfl
    · rw [pieceUnit, segs]
      unfold pieceSegment
      cases f.piece.source <;> rfl
    · rw [State.setDm_restoreCtx, read]
    · rw [State.setDm_restoreCtx, read]
      exact exists_claimMinus_holds f.segs x.claim b
    · rw [State.setDm_ru, frame, raised]
      rfl
    · rw [State.setDm_restoreCtx, frame, raised]
      change (withPiece c f s).restoreCtx e = _
      rw [withPiece, State.restoreCtx_setRestoreCtx, if_neg (Ne.symm other)]
      rfl
    · have whole : m = ((withPiece c f s).setRiu m.riu).setQu m.qu := by
        conv_lhs => rw [frame, raised]
        conv_rhs => rw [frame, raised]
        rfl
      have riu : m.riu = { s.riu with notices := m.riu.notices, overflow := m.riu.overflow, lost := m.riu.lost } := by
        rw [frame, raised]
        rfl
      have table : m.extents = (withPiece c f s).extents := by rw [frame, raised]; rfl
      have contexts : m.ru = (withPiece c f s).ru := by rw [frame, raised]; rfl
      change m.setDm d = _
      conv_lhs => rw [whole, riu]
      simp only [State.setDm_extents, State.setDm_qu, State.setDm_ru, table, contexts]
      rfl
    · rw [State.setDm_riu, frame]
      exact raising_riu_congr ns rfl
  · have fails : pieceRefusal x f s = some st := by
      rw [pieceRefusal, badKind_eq]
      obtain ⟨bad, rfl⟩ | ⟨user, groups, rest⟩ := refused
      · refine if_pos ?_
        rw [badKind, Bool.or_eq_true, decide_eq_true_iff]
        refine bad.imp_right fun ⟨g, group, other⟩ => ?_
        rw [group]
        exact decide_eq_true other
      · rw [badKind_of_kinds user groups, if_neg Bool.false_ne_true]
        obtain ⟨full, rfl⟩ | ⟨room, y, decision, rfl⟩ := rest
        · exact if_pos (decide_eq_false full.not_ge)
        · rw [if_neg (by rw [State.tableRoom, decide_eq_false_iff_not, not_not]; exact room)]
          exact congrArg (Option.map _) decision
    refine congrArg Host.Outcome.next ?_
    simp only [createPiece, ← context, fails, endRestore, restoreAnswer, RestoreCtx.kind, restores, Bool.false_eq_true, if_false]
    rfl

end Sys2Proof.Machine
end

section
/-! The arbiter, and the moving of blocks (O43; R50, R86, R96 to R99). -/

namespace Sys2Proof.Machine

/-! ### Writes to disjoint places of memory -/

/-- The first `n` of a sequence of writes, the `k`-th of `B k` from `D k` on. -/
def writesFrom (D : Nat → Nat) (B : Nat → List Byte) (n : Nat) (s : State) : State := (List.range n).foldl (fun t k => t.writeBytes (D k) (B k)) s

theorem writesFrom_succ (D : Nat → Nat) (B : Nat → List Byte) (n : Nat) (s : State) :
    writesFrom D B (n + 1) s = (writesFrom D B n s).writeBytes (D n) (B n) := by
  rw [writesFrom, List.range_succ, List.foldl_append]
  rfl

theorem readByte_writeBytes_same {s : State} {a : Nat} {bs : List Byte} (ok : memOk s.mem) (inside : a + bs.length ≤ 2 ^ 64) {i : Nat} (small : i < bs.length) :
    (s.writeBytes a bs).readByte (a + i) = bs[i] := by
  have address : addr64 (a + i) = a + i := Nat.mod_eq_of_lt (by omega)
  rw [State.readByte, address]
  exact readByte_write_same s.mem a bs ok i small inside

/-- Writes to disjoint places change those places alone, each to what was written there. -/
theorem writesFrom_spec {D : Nat → Nat} {B : Nat → List Byte} {size n : Nat} {s : State} (ok : memOk s.mem) (length : ∀ k < n, (B k).length = size)
    (inside : ∀ k < n, D k + size ≤ 2 ^ 64) (apart : ∀ j < n, ∀ k < n, j ≠ k → D j + size ≤ D k ∨ D k + size ≤ D j) :
    memOk (writesFrom D B n s).mem ∧ writesFrom D B n s = s.setMem (writesFrom D B n s).mem ∧
      (∀ k < n, ∀ i < size, (writesFrom D B n s).readByte (D k + i) = (B k).getD i 0) ∧
      ∀ a < 2 ^ 64, (∀ k < n, ∀ i < size, a ≠ D k + i) → (writesFrom D B n s).readByte a = s.readByte a := by
  induction n with
  | zero => exact ⟨ok, rfl, fun k none => absurd none (Nat.not_lt_zero k), fun a _ _ => rfl⟩
  | succ n ih =>
    obtain ⟨okN, frame, written, others⟩ := ih (fun k lt => length k (by omega)) (fun k lt => inside k (by omega))
      fun j ltJ k ltK => apart j (by omega) k (by omega)
    have last := length n (by omega)
    have room := inside n (by omega)
    rw [writesFrom_succ]
    refine ⟨memOk_write _ _ _ okN, ?_, fun k lt i small => ?_, fun a bound outside => ?_⟩
    · conv_lhs => rw [frame]
      rfl
    · by_cases newest : k = n
      · subst newest
        rw [readByte_writeBytes_same okN (by omega) (by omega), List.getD_eq_getElem _ _ (by omega)]
      · have before := inside k lt
        have separate := apart k lt n (by omega) newest
        rw [readByte_writeBytes_other okN (by omega) (by omega) (by omega)]
        exact written k (by omega) i small
    · have outsideN : a < D n ∨ D n + size ≤ a := by
        by_contra within
        exact outside n (by omega) (a - D n) (by omega) (by omega)
      rw [readByte_writeBytes_other okN (by omega) bound (by omega)]
      exact others a bound fun k lt => outside k (by omega)

/-! ### The accesses of a run list -/

/-- The blocks of a run list, in its order. -/
def runBlocks (rs : List Run) : List Nat := rs.flatMap fun r => (List.range r.len).map (r.first + ·)

theorem getElem_flatMap_uniform {β : Type} (g : Nat → Nat → β) {m : Nat} (l : List Nat) (k : Nat) (small : k < l.length * m) :
    (l.flatMap fun b => (List.range m).map (g b))[k]? = some (g (l.getD (k / m) 0) (k % m)) := by
  have pos : 0 < m := Nat.pos_of_ne_zero fun zero => by simp [zero] at small
  induction l generalizing k with
  | nil => simp at small
  | cons b l ih =>
    rw [List.flatMap_cons]
    by_cases first : k < m
    · rw [List.getElem?_append_left (by simpa using first), List.getElem?_map, List.getElem?_range first, Nat.div_eq_of_lt first, Nat.mod_eq_of_lt first]
      rfl
    · have left : k - m < l.length * m := by
        rw [List.length_cons, Nat.add_mul, Nat.one_mul] at small
        omega
      have le : m ≤ k := Nat.le_of_not_lt first
      have quotient : k / m = (k - m) / m + 1 := by
        conv_lhs => rw [← Nat.sub_add_cancel le]
        exact Nat.add_div_right _ pos
      rw [List.getElem?_append_right (by simpa using le), List.length_map, List.length_range, ih _ left, quotient, Nat.mod_eq_sub_mod le]
      rfl

theorem length_flatMap_uniform {β : Type} (g : Nat → Nat → β) (m : Nat) (l : List Nat) :
    (l.flatMap fun b => (List.range m).map (g b)).length = l.length * m := by
  induction l with
  | nil => simp
  | cons b l ih => rw [List.flatMap_cons, List.length_append, ih, List.length_map, List.length_range, List.length_cons, Nat.add_mul, Nat.one_mul, Nat.add_comm]

section
variable (s : State) (v : Vol)

theorem accesses_eq (rs : List Run) : s.accesses v rs =
    (runBlocks rs).flatMap fun b => (List.range (s.blockBytes v / 4096)).map fun j => addr64 (s.blockAddr v b + 4096 * j) := by
  rw [State.accesses, runBlocks, List.flatMap_assoc]
  simp only [List.flatMap_map]

/-- The address of a byte of a run list (R97). -/
def State.placeOf (rs : List Run) (q : Nat) : Nat :=
  (s.vol v).defn.aperture + (runBlocks rs).getD (q / s.blockBytes v) 0 * s.blockBytes v + q % s.blockBytes v
end

section
variable {s : State} {v : Vol} {rs : List Run} {m : Nat} (size : s.blockBytes v = 4096 * m)
  (inside : ∀ b ∈ runBlocks rs, (s.vol v).defn.aperture + (b + 1) * s.blockBytes v ≤ 2 ^ 64)
include size

theorem length_accesses : (s.accesses v rs).length = (runBlocks rs).length * m := by
  rw [accesses_eq, length_flatMap_uniform, size, Nat.mul_div_cancel_left _ (by decide)]

theorem placeOf_split (k : Nat) {i : Nat} (small : i < 4096) : s.placeOf v rs (4096 * k + i) = s.placeOf v rs (4096 * k) + i := by
  have quotient : (4096 * k + i) / (4096 * m) = k / m := by
    rw [← Nat.div_div_eq_div_mul, Nat.mul_add_div (by decide), Nat.div_eq_of_lt small, Nat.add_zero]
  have quotient' : 4096 * k / (4096 * m) = k / m := Nat.mul_div_mul_left k m (by decide)
  have remainder : (4096 * k + i) % (4096 * m) = 4096 * (k % m) + i := by
    rw [Nat.mod_mul, Nat.mul_add_mod, Nat.mod_eq_of_lt small, Nat.mul_add_div (by decide), Nat.div_eq_of_lt small, Nat.add_zero, Nat.add_comm]
  have remainder' : 4096 * k % (4096 * m) = 4096 * (k % m) := Nat.mul_mod_mul_left 4096 k m
  rw [State.placeOf, State.placeOf, size, quotient, quotient', remainder, remainder']
  omega

include inside

/-- A byte of the run list lies in the address space, and so do the access it is part of. -/
theorem placeOf_inside {k : Nat} (small : k < (runBlocks rs).length * m) : s.placeOf v rs (4096 * k) + 4096 ≤ 2 ^ 64 := by
  have pos : 0 < m := Nat.pos_of_ne_zero fun zero => by simp [zero] at small
  have index : k / m < (runBlocks rs).length := Nat.div_lt_of_lt_mul (by rwa [Nat.mul_comm])
  have block := inside _ (List.getD_eq_getElem (runBlocks rs) 0 index ▸ List.getElem_mem index)
  rw [State.placeOf, size, Nat.mul_div_mul_left k m (by decide), Nat.mul_mod_mul_left]
  rw [size, Nat.add_mul, Nat.one_mul] at block
  have offset := Nat.mod_lt k pos
  omega

theorem getElem_accesses {k : Nat} (small : k < (runBlocks rs).length * m) : (s.accesses v rs)[k]? = some (s.placeOf v rs (4096 * k)) := by
  have pos : 0 < m := Nat.pos_of_ne_zero fun zero => by simp [zero] at small
  have index : k / m < (runBlocks rs).length := Nat.div_lt_of_lt_mul (by rwa [Nat.mul_comm])
  have room := placeOf_inside size inside small
  have count : s.blockBytes v / 4096 = m := by rw [size, Nat.mul_div_cancel_left _ (by decide)]
  rw [accesses_eq, count, getElem_flatMap_uniform (fun b j => addr64 (s.blockAddr v b + 4096 * j)) _ _ small]
  rw [State.placeOf, size, Nat.mul_div_mul_left k m (by decide), Nat.mul_mod_mul_left] at room ⊢
  refine congrArg some ?_
  rw [State.blockAddr, size]
  unfold addr64
  rw [Nat.mod_add_mod]
  exact Nat.mod_eq_of_lt (by omega)

/-- The accesses of a run list that names no block twice do not share a byte. -/
theorem placeOf_apart (nodup : (runBlocks rs).Nodup) {j k : Nat} (smallJ : j < (runBlocks rs).length * m) (smallK : k < (runBlocks rs).length * m) (other : j ≠ k) :
    s.placeOf v rs (4096 * j) + 4096 ≤ s.placeOf v rs (4096 * k) ∨ s.placeOf v rs (4096 * k) + 4096 ≤ s.placeOf v rs (4096 * j) := by
  have pos : 0 < m := Nat.pos_of_ne_zero fun zero => by simp [zero] at smallJ
  have indexJ : j / m < (runBlocks rs).length := Nat.div_lt_of_lt_mul (by rwa [Nat.mul_comm])
  have indexK : k / m < (runBlocks rs).length := Nat.div_lt_of_lt_mul (by rwa [Nat.mul_comm])
  simp only [State.placeOf, size, Nat.mul_div_mul_left _ m (show 0 < 4096 by decide), Nat.mul_mod_mul_left]
  have offsetJ := Nat.mod_lt j pos
  have offsetK := Nat.mod_lt k pos
  by_cases same : j / m = k / m
  · have apart : j % m ≠ k % m := fun equal => other (by rw [← Nat.div_add_mod j m, ← Nat.div_add_mod k m, same, equal])
    rw [same]
    omega
  · rw [List.getD_eq_getElem _ _ indexJ, List.getD_eq_getElem _ _ indexK]
    have blocks : (runBlocks rs)[j / m] ≠ (runBlocks rs)[k / m] := fun equal => same ((List.Nodup.getElem_inj_iff nodup).1 equal)
    obtain below | above := Nat.lt_or_gt_of_ne blocks
    · have next := Nat.mul_le_mul_right (4096 * m) (Nat.succ_le_of_lt below)
      rw [Nat.succ_mul] at next
      omega
    · have next := Nat.mul_le_mul_right (4096 * m) (Nat.succ_le_of_lt above)
      rw [Nat.succ_mul] at next
      omega
end

end Sys2Proof.Machine
end

section
/-! Segments moved and units completed (O43; R50, R86, R96 to R99). -/

namespace Sys2Proof.Machine

/-! ### Segments -/

theorem moveAccesses_frame (g : Segment) (n : Nat) (s : State) : ∃ m, moveAccesses g n s = s.setMem m := by
  unfold moveAccesses
  generalize ((g.writes s).take n).zipIdx = l
  have general : ∀ t : State, (∃ m, t = s.setMem m) → ∃ m, l.foldl (fun t ai => t.writeBytes ai.1 (g.source.access s ai.2)) t = s.setMem m := by
    induction l with
    | nil => exact fun t h => h
    | cons x l ih =>
      rintro t ⟨m, rfl⟩
      exact ih _ ⟨_, rfl⟩
  exact general s ⟨s.mem, rfl⟩

theorem moveSegment_frame (g : Segment) (s : State) : ∃ m, moveSegment g s = s.setMem m := moveAccesses_frame ..

theorem zipIdx_take_eq {l : List Nat} {D : Nat → Nat} {n : Nat} (reads : ∀ k < n, l[k]? = some (D k)) :
    (l.take n).zipIdx = (List.range n).map fun k => (D k, k) := by
  have long : n ≤ l.length := by
    by_contra short
    have last := reads l.length (by omega)
    simp at last
  refine List.ext_getElem (by simp [long]) fun k small _ => ?_
  have lt : k < n := by
    rw [List.length_zipIdx, List.length_take] at small
    omega
  have at_k := reads k lt
  rw [List.getElem?_eq_getElem (by omega)] at at_k
  rw [List.getElem_zipIdx, List.getElem_take, List.getElem_map, List.getElem_range, Option.some.inj at_k, Nat.zero_add]

theorem getD_readBytes (s : State) (a n : Nat) {i : Nat} (small : i < n) : (s.readBytes a n).getD i 0 = s.readByte (a + i) := by
  rw [List.getD_eq_getElem _ _ (by simpa [State.readBytes] using small)]
  simp [State.readBytes]

theorem length_readBytes (s : State) (a n : Nat) : (s.readBytes a n).length = n := by simp [State.readBytes]

/-- The bytes that the `q`-th byte of a segment's destination takes from its source (R96). -/
def MoveEnd.byteAt (s : State) (v : Vol) (q : Nat) : MoveEnd → Byte
  | .staging bs => bs.getD q 0
  | .aperture _ rs => s.readByte (s.placeOf v rs q)
  | _ => 0

section
variable {s : State} {v : Vol} {source : MoveEnd} {ds : List Run} {m : Nat} (size : s.blockBytes v = 4096 * m)
  (given : source = .zero ∨ (∃ bs, source = .staging bs ∧ bs.length = (runBlocks ds).length * s.blockBytes v) ∨
    ∃ rs, source = .aperture v rs ∧ (runBlocks rs).length = (runBlocks ds).length ∧
      ∀ b ∈ runBlocks rs, (s.vol v).defn.aperture + (b + 1) * s.blockBytes v ≤ 2 ^ 64)
include size given

/-- Each access of a source moves 4,096 bytes, those of its place (R96). -/
theorem access_spec {k : Nat} (small : k < (runBlocks ds).length * m) :
    (source.access s k).length = 4096 ∧ ∀ i < 4096, (source.access s k).getD i 0 = source.byteAt s v (4096 * k + i) := by
  obtain rfl | ⟨bs, rfl, length⟩ | ⟨rs, rfl, length, inside⟩ := given
  · exact ⟨List.length_replicate, fun i lt => by
      rw [MoveEnd.access, zeros, List.getD_eq_getElem _ _ (lt.trans_eq List.length_replicate.symm), List.getElem_replicate]
      rfl⟩
  · rw [size] at length
    have room : 4096 * k + 4096 ≤ bs.length := by
      have := Nat.mul_le_mul_left 4096 (Nat.succ_le_of_lt small)
      have total : (runBlocks ds).length * (4096 * m) = 4096 * ((runBlocks ds).length * m) := Nat.mul_left_comm ..
      omega
    refine ⟨by rw [MoveEnd.access, List.length_take, List.length_drop]; omega, fun i lt => ?_⟩
    rw [MoveEnd.access, MoveEnd.byteAt, List.getD_eq_getElem _ _ (by rw [List.length_take, List.length_drop]; omega), List.getElem_take, List.getElem_drop,
      List.getD_eq_getElem _ _ (by omega)]
  · have reads : (s.accesses v rs)[k]? = some (s.placeOf v rs (4096 * k)) := getElem_accesses size inside (by rwa [length])
    simp only [MoveEnd.access, reads]
    refine ⟨length_readBytes .., fun i lt => ?_⟩
    rw [getD_readBytes _ _ _ lt, MoveEnd.byteAt, placeOf_split size k lt]

/-- The first accesses of a segment move their bytes and no others (R96, R97). -/
theorem moveAccesses_spec (ok : memOk s.mem) (nodup : (runBlocks ds).Nodup)
    (inside : ∀ b ∈ runBlocks ds, (s.vol v).defn.aperture + (b + 1) * s.blockBytes v ≤ 2 ^ 64) (blocks : Nat) {n : Nat} (room : n ≤ (runBlocks ds).length * m) :
    let t := moveAccesses ⟨source, .aperture v ds, blocks⟩ n s
    t = s.setMem t.mem ∧ (∀ q < 4096 * n, t.readByte (s.placeOf v ds q) = source.byteAt s v q) ∧
      ∀ a < 2 ^ 64, (∀ q < 4096 * n, a ≠ s.placeOf v ds q) → t.readByte a = s.readByte a := by
  intro t
  have moved : t = writesFrom (fun k => s.placeOf v ds (4096 * k)) (source.access s) n s := by
    have pairs := zipIdx_take_eq (l := s.accesses v ds) (D := fun k => s.placeOf v ds (4096 * k)) (n := n) fun k lt =>
      getElem_accesses size inside (by omega)
    change (((s.accesses v ds).take n).zipIdx).foldl (fun t ai => t.writeBytes ai.1 (source.access s ai.2)) s = _
    rw [pairs, List.foldl_map]
    rfl
  obtain ⟨-, frame, written, others⟩ := writesFrom_spec (D := fun k => s.placeOf v ds (4096 * k)) (B := source.access s) (size := 4096) (n := n) ok
    (fun k lt => (access_spec size given (by omega)).1) (fun k lt => placeOf_inside size inside (by omega))
    fun j ltJ k ltK => placeOf_apart size inside nodup (by omega) (by omega)
  rw [← moved] at frame written others
  refine ⟨frame, fun q lt => ?_, fun a bound outside => others a bound fun k lt i small => ?_⟩
  · have split : q = 4096 * (q / 4096) + q % 4096 := (Nat.div_add_mod q 4096).symm
    have index : q / 4096 < n := Nat.div_lt_of_lt_mul lt
    have offset : q % 4096 < 4096 := Nat.mod_lt _ (by decide)
    have byte := written (q / 4096) index (q % 4096) offset
    rw [(access_spec size given (by omega)).2 _ offset, ← split] at byte
    rw [← byte]
    conv_lhs => rw [split, placeOf_split size _ offset]
  · rw [← placeOf_split size k small]
    exact outside _ (by omega)
end

/-! ### What the gate leaves -/

theorem ru_sendOffer (s : State) : (sendOffer s).ru = s.ru := by
  unfold sendOffer handRunControl handControl
  cases s.ds.active with
  | none => rfl
  | some x =>
    dsimp only
    split
    · split
      · split <;> rfl
      · rfl
    · rfl

theorem ru_makeSnapshot (v : Vol) (l : Nat) (b : Bool) (s : State) : (makeSnapshot v l b s).ru = s.ru := by
  unfold makeSnapshot
  dsimp only
  obtain ⟨x, changed⟩ := autoTrimAgain_frame v ((s.setSnapVol v _).setVol v _)
  rw [changed]
  rfl

theorem ru_completeCreate (v : Vol) (g : GateCreate) (s : State) : (completeCreate v g s).ru = s.ru := by
  cases g with
  | host r tag l =>
    rw [completeCreate, answer_ru]
    exact ru_makeSnapshot ..
  | sender l =>
    rw [completeCreate, runTarget]
    split
    · rw [ru_sendOffer]
      exact ru_makeSnapshot ..
    · exact ru_makeSnapshot ..

theorem ru_gateLook (v : Vol) (s : State) : (gateLook v s).ru = s.ru := by
  unfold gateLook
  split
  · rfl
  · have general : ∀ (l : List GateCreate) (t : State), t.ru = s.ru → (l.foldl (fun t g => completeCreate v g t) t).ru = s.ru := by
      intro l
      induction l with
      | nil => exact fun t h => h
      | cons g l ih => exact fun t h => ih _ ((ru_completeCreate v g t).trans h)
    exact general _ _ rfl

theorem restoreCtx_gateLook (v : Vol) (s : State) (c : Ctx) : (gateLook v s).restoreCtx c = s.restoreCtx c := by
  simp only [State.restoreCtx, ru_gateLook]

/-! ### The arbiter and the ends of units -/

theorem nextEntry_eq (ptr : MoverClass) (w : List MoverUnit) {a b c : MoverClass} (cycle : cycleAfter ptr = [a, b, c]) :
    nextEntry ptr w = ((w.find? fun u => decide (u.cls = a)).or (w.find? fun u => decide (u.cls = b))).or (w.find? fun u => decide (u.cls = c)) := by
  rw [nextEntry, cycle]
  simp only [List.findSome?_cons, List.findSome?_nil]
  cases w.find? fun u => decide (u.cls = a) <;> cases w.find? fun u => decide (u.cls = b) <;> cases w.find? fun u => decide (u.cls = c) <;> rfl

theorem nextEntry_nil (ptr : MoverClass) : nextEntry ptr [] = none := by
  simp [nextEntry]

theorem grantNext_of_busy {s : State} (busy : s.dm.engine ≠ none) : grantNext s = s := by
  unfold grantNext
  split
  next idle _ => exact absurd idle busy
  next => rfl

theorem grantNext_of_empty {s : State} (empty : s.dm.waiting = []) : grantNext s = s := by
  unfold grantNext
  rw [empty, nextEntry_nil]
  cases s.dm.engine <;> rfl

theorem grantNext_of_next {s : State} {u : MoverUnit} (idle : s.dm.engine = none) (next : nextEntry s.dm.pointer s.dm.waiting = some u) :
    grantNext s = startUnit u (withdraw u.cls u.num s) := by
  simp only [grantNext, idle, next]

/-- The end of a piece (R86). -/
theorem pieceEnd_eq {c : Ctx} {s : State} {f : Flight} (flight : (s.restoreCtx c).flight = some f) : pieceEnd c s =
    let x := s.restoreCtx c
    let w := (f.segs.foldl (fun y g => y.setExtents
      (y.extents.map fun e => if e.volume = x.volume ∧ e.first = g.first then { e with filling := false } else e)) s).setRestoreCtx c { x with
        flight := none
        copied := if f.piece.source = none then x.copied else x.copied + f.piece.len
        zeroed := if f.piece.source = none then x.zeroed + f.piece.len else x.zeroed }
    if x.stepwise then
      stepAnswer c ⟨x.tag, if x.probe then 0x31 else 0x30, 0x07, if f.piece.source = none then 1 else 0, f.piece.offset, f.piece.len⟩ (gateLook x.volume w)
    else continueRestore c (gateLook x.volume w) := by
  have sources : ∀ {α : Type} (a b : α), (if f.piece.source.isSome then a else b) = if f.piece.source = none then b else a := fun a b => by
    cases f.piece.source <;> rfl
  simp only [pieceEnd, flight, afterPiece, restoreCtx_gateLook, State.restoreCtx_setRestoreCtx, if_true, updateExtent_extents, sources]
  rfl

/-- Settles O43. -/
theorem unitsMoveTheirBlocks : Obligations.UnitsMoveTheirBlocks := by
  unfold Obligations.UnitsMoveTheirBlocks
  refine ⟨fun ptr a b c w cycle => ?_, fun s u idle next other => ?_, fun s none => ?_,
    fun s v source ds blocksField n bb blocks place ok blocksEq size aligned placeEq nodup inside room given => ?_,
    fun s u engine => ⟨fun first second => ?_, fun c x f t w cls num last context flight moved ended => ?_⟩⟩
  · refine nextEntry_eq ptr w ?_
    simp only [List.mem_cons, List.not_mem_nil, or_false, Prod.mk.injEq] at cycle
    obtain ⟨rfl, rfl, rfl, rfl⟩ | ⟨rfl, rfl, rfl, rfl⟩ | ⟨rfl, rfl, rfl, rfl⟩ := cycle <;> rfl
  · rw [grantNext_of_next idle next, startUnit, grantEffect, if_neg other]
    rfl
  · obtain busy | empty := none
    · exact grantNext_of_busy busy
    · exact grantNext_of_empty empty
  · have size : s.blockBytes v = bb := size.symm
    have chunk : s.blockBytes v = 4096 * ((s.vol v).defn.blockKiB / 4) := by
      rw [State.blockBytes]
      omega
    obtain rfl : blocks = runBlocks := funext blocksEq
    obtain rfl : place = s.placeOf v := by
      funext rs q
      rw [placeEq, State.placeOf, size]
    rw [← size] at room given inside
    set m := (s.vol v).defn.blockKiB / 4 with chunks
    have accesses : n ≤ (runBlocks ds).length * m := by
      have total : (runBlocks ds).length * (4096 * m) = 4096 * ((runBlocks ds).length * m) := Nat.mul_left_comm ..
      rw [chunk, total] at room
      omega
    obtain ⟨frame, moves, others⟩ := moveAccesses_spec chunk given ok nodup inside blocksField accesses
    refine ⟨?_, _, rfl, frame, fun q lt => (moves q lt).trans ?_, others⟩
    · have length : (Segment.writes s ⟨source, .aperture v ds, blocksField⟩).length = (runBlocks ds).length * bb / 4096 := by
        change (s.accesses v ds).length = _
        rw [length_accesses chunk, ← size, chunk, Nat.mul_left_comm, Nat.mul_div_cancel_left _ (by decide)]
      rw [moveSegment, length]
    · cases source <;> rfl
  · have notLast : ¬u.onLast = true := by simp [MoverUnit.onLast, first, second]
    obtain ⟨mem, frame⟩ := moveSegment_frame u.seg1 s
    simp only [exec, execSegmentComplete, engine, if_neg notLast, frame]
    rfl
  · have onLast : u.onLast = true := by
      rw [MoverUnit.onLast, Bool.or_eq_true, decide_eq_true_iff]
      exact last
    have shipDone : u.shipDone s = true := by simp [MoverUnit.shipDone, cls]
    obtain ⟨mem, frame⟩ := moveSegment_frame u.current s
    have released : releaseEngine (moveSegment u.current s) = t := by
      have current : u.current = if u.second then u.seg2 else u.seg1 := rfl
      rw [moved, ← current, frame]
      rfl
    have completes : exec .unitComplete s = .next (grantNext (pieceEnd c t)) := by
      simp only [exec, execUnitComplete, engine, onLast, shipDone, and_self, if_true, released, tellComplete, cls, num]
    have context : t.restoreCtx c = x := by
      rw [← released, frame]
      exact context.symm
    rw [completes, pieceEnd_eq (context ▸ flight), context]
    dsimp only
    rw [← ended]

end Sys2Proof.Machine
end

section
/-! The policy store's pages (10.1 to 10.3): staging, commits and verification. -/
namespace Sys2Proof.Machine

/-! ### Bytes put into a page table -/

theorem sparseWf_putBytes {m : List Host.Cell} (bs : List Byte) (a : Nat) (wf : sparseWf 0xFF m = true) : sparseWf 0xFF (putBytes m a bs) = true := by
  induction bs generalizing m a with
  | nil => exact wf
  | cons b bs ih => exact ih _ (sparseWf_set _ _ _ _ wf)

theorem sparseGet_putBytes {m : List Host.Cell} (bs : List Byte) (a i : Nat) (wf : sparseWf 0xFF m = true) :
    sparseGet 0xFF (putBytes m a bs) i = if a ≤ i ∧ i < a + bs.length then bs.getD (i - a) 0 else sparseGet 0xFF m i := by
  induction bs generalizing m a with
  | nil => simp only [putBytes, List.length_nil]; rw [if_neg (by omega)]
  | cons b bs ih =>
    rw [putBytes, ih _ (sparseWf_set _ _ _ _ wf), sparseGet_set _ _ _ _ _ wf]
    by_cases here : i = a
    · subst here; simp
    · by_cases inside : a + 1 ≤ i ∧ i < a + 1 + bs.length
      · obtain ⟨k, rfl⟩ : ∃ k, i = a + (k + 1) := ⟨i - a - 1, by omega⟩
        rw [if_pos inside, if_pos (by simp only [List.length_cons]; omega), show a + (k + 1) - a = k + 1 from by omega,
          show a + (k + 1) - (a + 1) = k from by omega, List.getD_cons_succ]
      · rw [if_neg inside, if_neg here, if_neg (by simp only [List.length_cons]; omega)]

/-! ### The store without a commit under way -/

section
variable {x : Ps} (quiet : x.commit = none)
include quiet

theorem Ps.bytes_of_quiet (n a k : Nat) : x.bytes n a k = (List.range k).map fun i => x.byte (a + i) := by
  simp only [Ps.bytes, Ps.seen, quiet]

theorem Ps.crc_of_quiet (n : Nat) : x.crc n = crc16 ((List.range 5632).map (sparseGet 0xFF x.pages)) := by
  simp only [Ps.crc, Ps.bytes_of_quiet quiet, Nat.zero_add]
  rfl

theorem Ps.storedCrc_of_quiet (n : Nat) : x.storedCrc n = ofLe [sparseGet 0xFF x.pages 5632, sparseGet 0xFF x.pages 5633] := by
  rw [Ps.storedCrc, Ps.bytes_of_quiet quiet]
  rfl

end

/-! ### Reading a page back -/

theorem length_commitBytes (x : Ps) (c : Commit) : (commitBytes x c).length = 256 := by simp [commitBytes]

theorem getD_map_range (f : Nat → Byte) {n i : Nat} (h : i < n) (d : Byte) : ((List.range n).map f).getD i d = f i := by
  simp [List.getD, h]

theorem mismatches_cons (a b : Byte) (l m : List Byte) : mismatches (a :: l) (b :: m) = (if a = b then 0 else 1) + mismatches l m := by
  by_cases same : a = b <;> simp [mismatches, same, Nat.add_comm]

theorem mismatches_self (l : List Byte) : mismatches l l = 0 := by
  induction l with
  | nil => rfl
  | cons a l ih => rw [mismatches_cons, ih, if_pos rfl]

theorem mismatches_set {l : List Byte} {k : Nat} {b : Byte} (here : k < l.length) (differs : b ≠ l[k]) : mismatches l (l.set k b) = 1 := by
  induction l generalizing k with
  | nil => exact absurd here (Nat.not_lt_zero _)
  | cons a l ih =>
    cases k with
    | zero => rw [List.set_cons_zero, mismatches_cons, mismatches_self, if_neg fun e => differs e.symm]
    | succ k => rw [List.set_cons_succ, mismatches_cons, if_pos rfl, ih (Nat.lt_of_succ_lt_succ here) differs]

theorem Ps.committed_frame (x : Ps) (c : Commit) (bs : List Byte) : (x.committed c bs).staging = x.staging ∧ (x.committed c bs).commit = none ∧
    (x.committed c bs).safe = x.safe ∧ (x.committed c bs).format = x.format ∧ (x.committed c bs).pages = putBytes x.pages (256 * c.page) bs ∧
    ((x.committed c bs).locked = true ↔ sparseGet 0xFF (x.committed c bs).pages 38 = 0) :=
  ⟨rfl, rfl, rfl, rfl, rfl, decide_eq_true_iff⟩

/-- What a page reads back as, and how many of its bytes do not read as they should: none, or the one that the operand names. -/
theorem readBack_of_misread {good found : Nat → Byte} {bad : List (Nat × Byte)}
    (misread : bad = [] ∧ found = good ∨ (∃ k b, k < 256 ∧ b ≠ good k ∧ bad = [(k, b)] ∧ found = fun i => if i = k then b else good i)) :
    readBack ((List.range 256).map good) bad = (List.range 256).map found ∧
      mismatches ((List.range 256).map good) ((List.range 256).map found) = bad.length := by
  rcases misread with ⟨rfl, rfl⟩ | ⟨k, b, inside, differs, rfl, rfl⟩
  · exact ⟨rfl, mismatches_self _⟩
  · have setOne : ((List.range 256).map good).set k b = (List.range 256).map fun i => if i = k then b else good i := by
      refine List.ext_getElem (by simp) fun i h1 h2 => ?_
      simp only [List.getElem_set, List.getElem_map, List.getElem_range, eq_comm]
    refine ⟨setOne, ?_⟩
    rw [← setOne]
    exact mismatches_set (by simpa using inside) (by simpa using differs)

/-- Settles O58: what is put into a page table reads back (`sparseGet_putBytes`), and a page under no commit is read as it stands. -/
theorem storePagesAreStagedAndCommitted : Obligations.StorePagesAreStagedAndCommitted := by
  unfold Obligations.StorePagesAreStagedAndCommitted
  refine ⟨by decide +kernel, fun s r tag p ok low high inside full => ?_, fun s r tag p op page code => ?_, fun s c r tag good ok under asked good_eq bad found misread => ?_,
    fun s bad quiet => ?_, fun s r tag computed stored quiet computed_eq stored_eq => ?_⟩
  · have form : storeStageOk p = true := by simp [storeStageOk, low, high, inside]
    have run : exec (.storeStage r tag p) s = .next (if s.ps.commit.isSome then refuse r tag (.storeStage p) .busy s else
        reply r tag (.storeStage p) .ok (p.offset + p.count) 0 0 (s.setPs { s.ps with staging := putBytes s.ps.staging p.offset (p.data.take p.count) })) :=
      congrArg Host.Outcome.next (by rw [reqStoreStage, form]; exact gated_always _ _ _ (.storeStage p) _ rfl rfl)
    refine ⟨fun quiet => ⟨putBytes s.ps.staging p.offset (p.data.take p.count), fun i => ?_, ?_⟩, fun busy => ?_⟩
    · rw [sparseGet_putBytes _ _ _ ok.2.1.1, List.length_take, full, Nat.min_eq_left high]
      split
      · rw [List.getD_eq_getElem?_getD, List.getElem?_take_of_lt (by omega), ← List.getD_eq_getElem?_getD]
      · rfl
    · rw [run, quiet]; rfl
    · rw [run, if_pos (by simpa [Option.isSome_iff_ne_none] using busy)]; rfl
  · have form : (decide (p.page ≤ 63) && (CommitOp.ofCode p.op).isSome) = true ∧ CommitOp.ofCode p.op = some op := by
      simp only [List.mem_cons, Prod.mk.injEq, List.not_mem_nil, or_false] at code
      rcases code with ⟨e, rfl⟩ | ⟨e, rfl⟩ | ⟨e, rfl⟩ <;> simp [e, page, CommitOp.ofCode]
    have run : exec (.storeCommit r tag p) s = .next (checked r tag (.storeCommit p) (storeCommitRefusal p op s)
        (fun s => reply r tag (.storeCommit p) .accepted 0 0 0 (s.setPs { s.ps with commit := some ⟨p.page, op, some (r, tag)⟩ })) s) :=
      congrArg Host.Outcome.next (by
        rw [reqStoreCommit, form.1, gated_always _ _ _ (.storeCommit p) _ rfl rfl]
        simp only [form.2])
    have refused : ∀ st, storeCommitRefusal p op s = some st →
        exec (.storeCommit r tag p) s = .next (answer r ⟨tag, 0x61, st.code, 0, 0, 0⟩ s) := fun st h => by rw [run, h]; rfl
    refine ⟨fun busy => refused .busy ?_, fun quiet first erases clear => refused .serviceRequired ?_,
      fun quiet locked inside other => refused .locked ?_, fun quiet free served => ?_⟩
    · simp [storeCommitRefusal, firstFailure, Option.isSome_iff_ne_none.2 busy]
    · simp [storeCommitRefusal, firstFailure, quiet, first, erases, clear]
    · rcases other with other | other <;> simp [storeCommitRefusal, firstFailure, quiet, locked, inside, other]
    · have none : storeCommitRefusal p op s = none := by
        have free' : (s.ps.locked && decide (p.page ≤ 22) && !(decide (op ≠ .program) && decide (p.page = 0))) = false := by
          rcases free with clear | high | ⟨first, erases⟩
          · simp [clear]
          · simp [show ¬p.page ≤ 22 by omega]
          · simp [first, erases]
        have served' : (decide (op ≠ .program) && decide (p.page = 0) && !s.strap) = false := by
          rcases served with other | programs | strap
          · simp [other]
          · simp [programs]
          · simp [strap]
        simp only [storeCommitRefusal, firstFailure_cons, firstFailure_nil, quiet, Option.isSome_none, free', served', Bool.false_eq_true, if_false]
      rw [run, none]; rfl
  · have pages := sparseGet_putBytes (m := s.ps.pages) ((List.range 256).map found) (256 * c.page)
    have readsBack := readBack_of_misread misread
    have goods : commitBytes s.ps c = (List.range 256).map good := by rw [good_eq]; rfl
    obtain ⟨staging, ended, safe, format, store, locked⟩ := s.ps.committed_frame c ((List.range 256).map found)
    refine ⟨s.ps.committed c ((List.range 256).map found), staging, ended, safe, format, fun a => ?_, locked, ?_⟩
    · rw [store, pages a ok.1.1, List.length_map, List.length_range]
      by_cases inside : a / 256 = c.page
      · rw [if_pos inside, if_pos (by omega), show a - 256 * c.page = a % 256 from by omega, getD_map_range found (Nat.mod_lt _ (by omega))]
      · rw [if_neg inside, if_neg (by omega)]
    · simp only [exec, execStoreCommitEnd, under, commitOver, goods, readsBack.1, readsBack.2, asked, answerIf, Ps.crc_of_quiet ended, Ps.storedCrc_of_quiet ended]
      rfl
  · simp only [exec, execStoreCommitEnd, quiet]
  · have run : exec (.storeVerify r tag) s = .next (reply r tag .storeVerify (if s.ps.verifies 0 then .good else .bad) 0 (s.ps.crc 0) (s.ps.storedCrc 0) s) :=
      congrArg Host.Outcome.next (by rw [reqStoreVerify_checked]; simp [firstFailure, quiet])
    rw [run, Ps.verifies, Ps.crc_of_quiet quiet, Ps.storedCrc_of_quiet quiet, ← computed_eq, ← stored_eq]
    by_cases same : computed = stored <;> simp only [same, decide_true, decide_false, if_true, if_false] <;> rfl
end Sys2Proof.Machine
end

section
/-! What a frame from the sending side does (7.2 to 7.4, 7.7): the checks it passes, the context it is matched to, offers and closes. -/
namespace Sys2Proof.Machine

/-! ### Frames handed over, and frames that are taken -/

theorem handControl_of_room {s : State} (f : OutFrame) (up : s.lc.up = true) (room : s.lc.control.length < 16) :
    handControl f s = s.setLc { s.lc with control := s.lc.control ++ [f] } := by
  simp [handControl, up, Config.maxControl, room]

theorem onForward_of_pass {s : State} {f : EthFrame} {p : InFrame} {k : FrameKind} (act : InFrame → State → State) (passes : s.arrival f = .pass p)
    (kind : p.header.kind = k) (dir : p.header.dir = .forward) : onForward k f act s = act p s := by
  simp only [onForward, passes, kind, dir, and_self, if_true]

@[simp] theorem State.setInCtx_setInCtx (s : State) (c : Ctx) (x y : InCtx) : (s.setInCtx c x).setInCtx c y = s.setInCtx c y := by
  simp only [State.setInCtx, State.setDr, Vector.set_set]

theorem State.setInCtx_setLc (s : State) (c : Ctx) (x : InCtx) (l : Lc) : (s.setInCtx c x).setLc l = (s.setLc l).setInCtx c x := rfl

theorem touch_eq (c : Ctx) (s : State) : touch c s = s.setInCtx c { s.inCtx c with idle := some s.ds.settings.idleTimeout } := rfl

/-! ### The context of a frame (R137) -/

/-- The context of a volume that no other context that is not FREE has. -/
theorem State.ctxOf_of_only {s : State} {v : Vol} {c : Ctx} (taken : (s.inCtx c).state ≠ .free) (vol : (s.inCtx c).volume = v)
    (others : ∀ d, d ≠ c → (s.inCtx d).state = .free ∨ (s.inCtx d).volume ≠ v) : s.ctxOf v.val = some c :=
  State.ctxOf_eq_some taken vol fun d lt => others d (ne_of_lt lt)

theorem State.ctxOf_isSome_iff {s : State} {v : Vol} : (s.ctxOf v.val).isSome = true ↔ ∃ c, (s.inCtx c).state ≠ .free ∧ (s.inCtx c).volume = v := by
  rw [State.ctxOf, List.find?_isSome]
  exact ⟨fun ⟨c, _, h⟩ => ⟨c, by simpa [Fin.val_inj] using h⟩, fun ⟨c, h⟩ => ⟨c, mem_ctxList c, by simpa [Fin.val_inj] using h⟩⟩

theorem State.matched_of_only {s : State} {p : InFrame} {c : Ctx} (taken : (s.inCtx c).state ≠ .free) (vol : p.header.recvVol = (s.inCtx c).volume.val)
    (run : (s.inCtx c).runId = p.header.runId) (peer : (s.inCtx c).peerId = p.header.peerId)
    (others : ∀ d, d ≠ c → (s.inCtx d).state = .free ∨ (s.inCtx d).volume ≠ (s.inCtx c).volume) : s.matched p = some c := by
  simp only [State.matched, vol, State.ctxOf_of_only taken rfl others, run, peer, and_self, if_true]

/-! ### Slots -/

theorem InCtx.slotThat_isSome_iff {x : InCtx} {P : Slot → Bool} : (x.slotThat P).isSome = true ↔ ∃ j : Fin 2, P x.slots[j] = true := by
  rw [InCtx.slotThat, Fin.exists_fin_two]
  by_cases first : P x.slots[(0 : Fin 2)] = true
  · rw [if_pos first]; exact iff_of_true rfl (.inl first)
  · rw [if_neg first]
    by_cases second : P x.slots[(1 : Fin 2)] = true
    · rw [if_pos second]; exact iff_of_true rfl (.inr second)
    · rw [if_neg second]; exact iff_of_false Bool.false_ne_true (not_or.2 ⟨first, second⟩)

theorem InCtx.slotThat_eq_some {x : InCtx} {P : Slot → Bool} {i : Fin 2} (here : P x.slots[i] = true) (before : ∀ j, j < i → P x.slots[j] = false) :
    x.slotThat P = some i := by
  match i with
  | 0 => exact if_pos here
  | 1 => exact (if_neg (by rw [before 0 (by decide)]; decide)).trans (if_pos here)

theorem InCtx.slotThat_eq_none {x : InCtx} {P : Slot → Bool} (no : ∀ j : Fin 2, P x.slots[j] = false) : x.slotThat P = none :=
  Option.not_isSome_iff_eq_none.1 fun some => by
    obtain ⟨j, yes⟩ := InCtx.slotThat_isSome_iff.1 some
    exact Bool.false_ne_true ((no j).symm.trans yes)

/-! ### CLOSE (R150) -/

theorem State.snapLabelled_isSome_iff {s : State} {v : Vol} {label : Nat} :
    (s.snapLabelled v label).isSome = true ↔ ∃ z ∈ (s.snapVol v).snaps, z.label = label := by
  rw [State.snapLabelled, List.find?_isSome]
  simp only [decide_eq_true_eq]

theorem State.placeRefused_iff {s : State} {v : Vol} {target : Nat} : s.placeRefused v target = true ↔
    (∃ z ∈ (s.snapVol v).snaps, z.label = target) ∨ 64 ≤ (s.snapVol v).snaps.length + (s.snapVol v).reserved.length := by
  rw [State.placeRefused, Bool.or_eq_true, State.snapLabelled_isSome_iff, State.snapListFull, decide_eq_true_eq]
  rfl

theorem sendClosed_of_room {s : State} (c : Ctx) (arg : Nat) (up : s.lc.up = true) (room : s.lc.control.length < 16) :
    sendClosed c arg s = s.setLc { s.lc with control := s.lc.control ++
      [⟨(s.inCtx c).peerAddr, .closed, .backward, (s.inCtx c).runId, (s.inCtx c).sendVol, (s.inCtx c).volume.val, 0, arg, []⟩] } :=
  handControl_of_room _ up room

/-- How a CLOSE is judged once the idle timer of its context has started afresh. -/
theorem judgeClose_touch (c : Ctx) (p : InFrame) (s : State) : judgeClose c p (touch c s) =
    if (s.inCtx c).expected - 1 < p.header.seq ∨ ∃ j : Fin 2, (s.inCtx c).slots[j].state ≠ .empty then touch c s
    else if p.header.seq < (s.inCtx c).expected - 1 ∨ BitVec.ofNat 32 p.header.arg ≠ (s.inCtx c).digest then refuseClose c (touch c s)
    else if s.placeRefused (s.inCtx c).volume (s.inCtx c).target then refuseClose c (touch c s)
    else (s.setSnapVol (s.inCtx c).volume { s.snapVol (s.inCtx c).volume with commitPlace := some (s.inCtx c).target }).setInCtx c
      { s.inCtx c with state := .committing, idle := none, cursor := 0, walkDone := false } := by
  have commits : startCommit c (touch c s) =
      ((s.setSnapVol (s.inCtx c).volume { s.snapVol (s.inCtx c).volume with commitPlace := some (s.inCtx c).target }).setInCtx c
        ((touch c s).inCtx c)).setInCtx c { (touch c s).inCtx c with state := .committing, idle := none, cursor := 0, walkDone := false } := by
    rw [startCommit, touch_eq, State.inCtx_setInCtx, if_pos rfl]
    rfl
  have place : ∀ v target, (touch c s).placeRefused v target = s.placeRefused v target := fun _ _ => rfl
  simp only [judgeClose, commits, State.setInCtx_setInCtx, place, InCtx.slotThat_isSome_iff, decide_eq_true_eq]
  simp only [touch_eq, State.inCtx_setInCtx, if_true]

/-- Settles O54: the frame reaches the context that has its volume, and its seq, slots, digest and the snapshot list decide there. -/
theorem closesCommitOrAreRefused : Obligations.ClosesCommitOrAreRefused := by
  unfold Obligations.ClosesCommitOrAreRefused
  intro s f p v passes kind dir up room vol
  have run : exec (.close f) s = .next (takeClose p s) := congrArg Host.Outcome.next (onForward_of_pass takeClose passes kind dir)
  refine ⟨fun c x y hx hv runId peerId others hy => ?_, fun unmatched => ?_⟩
  · subst hx hv
    have matched : ∀ {st}, (s.inCtx c).state = st → st ≠ .free → s.matched p = some c := fun is ne =>
      State.matched_of_only (is ▸ ne) vol runId peerId others
    refine ⟨fun is => ?_, fun is => ?_, fun is => ?_⟩
    · rw [run, takeClose, matched is (by decide)]
      simp only [is]
    · rw [run, takeClose, matched is (by decide)]
      simp only [is, sendClosed_of_room c closedRefused up room]
      rfl
    · have judged : exec (.close f) s = .next (judgeClose c p (touch c s)) := by
        rw [run, takeClose, matched is (by decide)]
        simp only [is]
      have touched : touch c s = s.setInCtx c y := hy ▸ rfl
      have refused : refuseClose c (s.setInCtx c y) = abortCtx 0x15 false c ((s.setInCtx c y).setLc { s.lc with
          control := s.lc.control ++ [⟨(s.inCtx c).peerAddr, .closed, .backward, (s.inCtx c).runId, (s.inCtx c).sendVol, (s.inCtx c).volume.val, 0, 2, []⟩] }) := by
        have same : (s.setInCtx c y).inCtx c = y := by rw [State.inCtx_setInCtx, if_pos rfl]
        rw [refuseClose, sendClosed_of_room (s := s.setInCtx c y) c closedRefused up room, same, hy]
        rfl
      rw [judged, judgeClose_touch]
      refine ⟨fun early => ?_, fun empty last digest absent room => ?_, fun empty reached wrong => ?_⟩
      · rw [if_pos early, touched]
      · rw [if_neg (not_or.2 ⟨by omega, fun ⟨j, ne⟩ => ne (empty j)⟩), if_neg (by simp [last, digest]), if_neg]
        rw [State.placeRefused_iff]
        rintro (⟨z, mem, label⟩ | full)
        · exact absent z mem label
        · omega
      · rw [if_neg (not_or.2 ⟨by omega, fun ⟨j, ne⟩ => ne (empty j)⟩), touched, ← refused]
        split
        · rfl
        · rename_i right
          rw [if_pos]
          rw [State.placeRefused_iff]
          rcases wrong with seq | digest | place | full
          · exact absurd (.inl (by omega)) right
          · exact absurd (.inr (Ne.symm digest)) right
          · exact .inl place
          · exact .inr full
  · have none : s.matched p = none := by
      rw [State.matched, vol, State.ctxOf_eq_none fun c => or_iff_not_imp_left.2 (unmatched c)]
    rw [run, takeClose, none]
    simp only [closeUnmatched, vol, toVol_val]
    rw [handControl_of_room _ up room]
    simp only [InFrame.replyFrame, vol, closedCommitted, closedRefused, decide_eq_true (Nat.le_of_lt_succ v.isLt), Bool.true_and, decide_eq_true_eq]
end Sys2Proof.Machine
end

section
/-! Offers from the link (7.3): the tests of Table 7-3 as a chain, and the context that an accepted offer opens. -/
namespace Sys2Proof.Machine

theorem State.volumeEmpty_iff {s : State} {v : Vol} : s.volumeEmpty v = true ↔ (∀ e ∈ s.extents, e.volume ≠ v) ∧ (s.snapVol v).snaps = [] := by
  simp [State.volumeEmpty, State.records, List.filter_eq_nil_iff]

theorem State.baseSnap_ne_iff {s : State} {v : Vol} {base : Nat} :
    (∀ x, s.baseSnap v = some x → x.epoch ≠ base) ↔ ((s.snapVol v).snaps.find? (·.replBase)).map Snapshot.epoch ≠ some base := by
  rw [State.baseSnap]
  cases (s.snapVol v).snaps.find? (·.replBase) <;> simp

/-- The reason of the first test that a list of tests fails. -/
def firstReason (tests : List (Bool × Nat)) : Option Nat := (tests.find? Prod.fst).map Prod.snd

@[simp] theorem firstReason_nil : firstReason [] = none := rfl
theorem firstReason_cons (b : Bool) (r : Nat) (l : List (Bool × Nat)) : firstReason ((b, r) :: l) = if b then some r else firstReason l := by
  cases b <;> rfl

theorem firstReason_of_found {tests : List (Bool × Nat)} {r : Nat} (found : tests.find? Prod.fst = some (true, r)) : firstReason tests = some r := by
  rw [firstReason, found]; rfl

theorem firstReason_of_none {tests : List (Bool × Nat)} (passed : tests.find? Prod.fst = none) : firstReason tests = none := by
  rw [firstReason, passed]; rfl

/-- The tests of Table 7-3 as `offerFault` makes them. -/
theorem offerFault_eq {s : State} {v : Vol} {k base target : Nat} {empty busy : Bool} (isEmpty : empty = s.volumeEmpty v)
    (isBusy : busy = true ↔ (∃ c, (s.inCtx c).state ≠ .free ∧ (s.inCtx c).volume = v) ∨ (s.replVol v).reset ≠ none ∨ ∀ c, (s.inCtx c).state ≠ .free)
    (fits : target < 2 ^ 32) : offerFault s v k base target = firstReason
      [(decide ((s.vol v).defn.role ≠ .replica ∨ (s.vol v).state ≠ .online), 1), (s.strap, 2), (s.faulted .land, 3), (busy, 4),
        (decide (k ≠ (s.vol v).defn.blockKiB), 5), (decide (base = 0) && !empty, 6),
        (decide (base ≠ 0) && decide (((s.snapVol v).snaps.find? (·.replBase)).map Snapshot.epoch ≠ some base), 7),
        (decide (target ≤ base) || decide (target = 4294967295) || (!empty && decide (target < (s.vol v).epoch.getD 0)), 8)] := by
  have online : (¬((s.vol v).defn.role = .replica ∧ (s.vol v).state = .online)) ↔ ((s.vol v).defn.role ≠ .replica ∨ (s.vol v).state ≠ .online) :=
    not_and_or
  have taken : ((s.ctxOf v.val).isSome = true ∨ (s.replVol v).reset.isSome = true ∨ ctxList.all (fun c => decide ((s.inCtx c).state ≠ .free)) = true) ↔
      busy = true := by
    rw [isBusy, State.ctxOf_isSome_iff, List.all_eq_true, Option.isSome_iff_ne_none]
    simp only [decide_eq_true_eq, mem_ctxList, forall_true_left]
  have based : s.offerBaseFault v base = firstReason [(decide (base = 0) && !empty, 6),
      (decide (base ≠ 0) && decide (((s.snapVol v).snaps.find? (·.replBase)).map Snapshot.epoch ≠ some base), 7)] := by
    by_cases zero : base = 0
    · cases h : s.volumeEmpty v <;> simp [State.offerBaseFault, firstReason_cons, zero, isEmpty, h, declineNotEmpty]
    · simp only [State.offerBaseFault, State.baseSnap, firstReason_cons, zero, decide_false, Bool.false_and]
      cases (s.snapVol v).snaps.find? (·.replBase) with
      | none => simp [zero, declineBaseMismatch]
      | some x => by_cases same : x.epoch = base <;> simp [zero, same, declineBaseMismatch]
  have fresh : (base < target ∧ target < Config.max32 ∧ (s.volumeEmpty v = true ∨ (s.vol v).epoch.getD 0 ≤ target)) ↔
      (decide (target ≤ base) || decide (target = 4294967295) || (!empty && decide (target < (s.vol v).epoch.getD 0))) = false := by
    simp only [isEmpty, Bool.or_eq_false_iff, Bool.and_eq_false_imp, decide_eq_false_iff_not, Config.max32, Bool.not_eq_true']
    cases s.volumeEmpty v <;> simp <;> omega
  simp only [offerFault, online, taken, based, fresh, firstReason_cons, firstReason_nil, decide_eq_true_eq]
  refine if_congr Iff.rfl rfl (if_congr Iff.rfl rfl (if_congr Iff.rfl rfl (if_congr Iff.rfl rfl (if_congr Iff.rfl rfl ?_))))
  by_cases six : (decide (base = 0) && !empty) = true
  · simp only [if_pos six]
  · by_cases seven : (decide (base ≠ 0) && decide (((s.snapVol v).snaps.find? (·.replBase)).map Snapshot.epoch ≠ some base)) = true
    · simp only [if_neg six, if_pos seven]
    · simp only [if_neg six, if_neg seven]
      by_cases eight : (decide (target ≤ base) || decide (target = 4294967295) || (!empty && decide (target < (s.vol v).epoch.getD 0))) = true
      · rw [if_neg (by rw [eight]; decide), if_pos eight]
        rfl
      · rw [if_pos (Bool.not_eq_true _ ▸ eight), if_neg eight]

theorem repeatedOffer_of_only {s : State} {p : InFrame} {c : Ctx} (is : (s.inCtx c).state = .open) (vol : p.header.recvVol = (s.inCtx c).volume.val)
    (run : (s.inCtx c).runId = p.header.runId) (peer : (s.inCtx c).peerId = p.header.peerId) (addr : (s.inCtx c).peerAddr = p.src)
    (others : ∀ d, d ≠ c → (s.inCtx d).state = .free ∨ (s.inCtx d).volume ≠ (s.inCtx c).volume) : s.repeatedOffer p = some c := by
  simp only [State.repeatedOffer, vol, State.ctxOf_of_only (is ▸ by decide) rfl others, is, run, peer, addr, and_self, if_true]

theorem repeatedOffer_eq_none {s : State} {p : InFrame} {v : Vol} (vol : p.header.recvVol = v.val)
    (new : ∀ c, (s.inCtx c).state = .open → (s.inCtx c).volume = v →
      ¬((s.inCtx c).runId = p.header.runId ∧ (s.inCtx c).peerId = p.header.peerId ∧ (s.inCtx c).peerAddr = p.src)) : s.repeatedOffer p = none := by
  rw [State.repeatedOffer, vol]
  cases found : s.ctxOf v.val with
  | none => rfl
  | some c =>
    have here := List.find?_some found
    simp only [Bool.and_eq_true, decide_eq_true_eq, Fin.val_inj] at here
    exact if_neg fun ⟨is, same⟩ => new c is here.2 same

/-- Settles O51: an offer that no OPEN context repeats is judged by Table 7-3 read as a chain (`offerFault_eq`). -/
theorem offersAreJudgedInOrder : Obligations.OffersAreJudgedInOrder := by
  unfold Obligations.OffersAreJudgedInOrder
  intro s f p passes kind dir up room
  have run : exec (.offer f) s = .next (takeOffer p s) := congrArg Host.Outcome.next (onForward_of_pass takeOffer passes kind dir)
  refine ⟨fun high => by rw [run, takeOffer, if_pos high], fun v k base target vol hk hb ht => ?_⟩
  have low : ¬15 < p.header.recvVol := by omega
  refine ⟨fun c x hx is xv runId peer addr others => ?_, fun empty busy tests new isEmpty isBusy isTests fits => ?_⟩
  · subst hx xv
    rw [run, takeOffer, if_neg low, repeatedOffer_of_only is vol runId peer addr others]
    refine congrArg Host.Outcome.next ?_
    dsimp only
    rw [handControl_of_room (s := touch c s) _ up room]
    rfl
  · have judged : exec (.offer f) s = .next (match firstReason tests with
        | some r => handControl (p.replyFrame .decline r (le 4 (if r = declineBaseMismatch then s.baseEpoch v else 0))) s
        | none => openContext p v base target s) := by
      rw [run, takeOffer, if_neg low, repeatedOffer_eq_none vol new]
      simp only [vol, toVol_val, ← hk, ← hb, ← ht]
      rw [offerFault_eq (Bool.eq_iff_iff.2 (isEmpty.trans State.volumeEmpty_iff.symm)) isBusy fits, isTests] <;> rfl
    refine ⟨fun r found => ?_, fun c passed free before => ?_⟩
    · rw [judged, firstReason_of_found found]
      simp only []
      rw [handControl_of_room _ up room]
      simp only [InFrame.replyFrame, vol]
      rfl
    · rw [judged, firstReason_of_none passed]
      simp only [openContext, find_ctx _ c (decide_eq_true free) fun d lt => decide_eq_false (before d lt)]
      rw [handControl_of_room (s := s.setInCtx c _) _ up room]
      rfl
end Sys2Proof.Machine
end

section
/-! Batch frames taken by an OPEN context (7.4): heads, data and ends. -/
namespace Sys2Proof.Machine

theorem updateIn_eq (s : State) (c : Ctx) (f : InCtx → InCtx) : s.updateIn c f = s.setInCtx c (f (s.inCtx c)) := rfl

theorem sendReceipt_of_room {s : State} (c : Ctx) (seq : Nat) (k : ReceiptKind) (up : s.lc.up = true) (room : s.lc.control.length < 16) :
    sendReceipt c seq k s = s.setLc { s.lc with control := s.lc.control ++
      [⟨(s.inCtx c).peerAddr, .receipt, .backward, (s.inCtx c).runId, (s.inCtx c).sendVol, (s.inCtx c).volume.val, seq, k.code, []⟩] } :=
  handControl_of_room _ up room

/-- A receipt of a context, after which the context becomes `y`. -/
theorem sendReceipt_setInCtx {s : State} (c : Ctx) (x y : InCtx) (seq : Nat) (k : ReceiptKind) (up : s.lc.up = true) (room : s.lc.control.length < 16) :
    (sendReceipt c seq k (s.setInCtx c x)).setInCtx c y = (s.setInCtx c y).setLc { s.lc with control := s.lc.control ++
      [⟨x.peerAddr, .receipt, .backward, x.runId, x.sendVol, x.volume.val, seq, k.code, []⟩] } := by
  rw [sendReceipt_of_room (s := s.setInCtx c x) c seq k up room, State.inCtx_setInCtx, if_pos rfl, State.setInCtx_setLc, State.setInCtx_setInCtx]
  rfl

/-- A receipt leaves its context as it is. -/
theorem sendReceipt_updateIn (s : State) (c : Ctx) (x : InCtx) (seq : Nat) (k : ReceiptKind) (f : InCtx → InCtx) :
    (sendReceipt c seq k (s.setInCtx c x)).updateIn c f = (sendReceipt c seq k (s.setInCtx c x)).setInCtx c (f x) := by
  have same : (sendReceipt c seq k (s.setInCtx c x)).inCtx c = x := by
    rw [sendReceipt, handControl]
    split <;> simp
  rw [updateIn_eq, same]

/-! ### The slots of a context -/

theorem InCtx.fillingWith_eq_some {x : InCtx} {n : Nat} {i : Fin 2} (here : x.slots[i].state = .filling ∧ x.slots[i].seq = n)
    (before : ∀ j, j < i → ¬(x.slots[j].state = .filling ∧ x.slots[j].seq = n)) : x.fillingWith n = some i :=
  InCtx.slotThat_eq_some (by simpa using here) fun j lt => by simpa using before j lt

theorem InCtx.fillingWith_eq_none {x : InCtx} {n : Nat} (no : ∀ j : Fin 2, ¬(x.slots[j].state = .filling ∧ x.slots[j].seq = n)) : x.fillingWith n = none :=
  InCtx.slotThat_eq_none fun j => by simpa using no j

theorem InCtx.duplicateKind_code (x : InCtx) (n : Nat) : (x.duplicateKind n).code =
    if ∃ j : Fin 2, x.slots[j].seq = n ∧ (x.slots[j].state = .ready ∨ x.slots[j].state = .landing) then 2 else 1 := by
  simp only [InCtx.duplicateKind, InCtx.slotThat_isSome_iff, Bool.and_eq_true, Bool.or_eq_true, decide_eq_true_eq]
  split <;> rfl

/-- A context whose other slot is LANDING makes no landing decision (R146). -/
theorem landNext_of_landing {s : State} {c : Ctx} {j : Fin 2} (landing : (s.inCtx c).slots[j].state = .landing) : landNext c s = s := by
  have busy : (s.inCtx c).landing.isNone = false := by
    rw [InCtx.landing, ← Option.not_isSome, InCtx.slotThat_isSome_iff.2 ⟨j, decide_eq_true landing⟩]
    rfl
  simp [landNext, landTry, busy]

/-! ### BATCH_HEAD (R140, R141) -/

theorem headOk_iff {s : State} {x : InCtx} {es : List PayloadEntry} {ds : List Run} : headOk s x es ds = true ↔
    es.length ≤ 32 ∧ ds.length ≤ 128 ∧ (es.map PayloadEntry.len).sum * ((s.vol x.volume).defn.blockKiB * 1024) ≤ 8388608 ∧
      (∀ d ∈ ds, 1 ≤ d.len ∧ d.len ≤ 4096) ∧
      ∀ e ∈ es, 1 ≤ e.len ∧ e.len ≤ 4096 ∧ e.object ≠ 0 ∧ e.offset + e.len ≤ 1099511627776 ∧ x.base < e.birth ∧ e.birth ≤ x.target := by
  simp only [headOk, Bool.and_eq_true, decide_eq_true_eq, List.all_eq_true]
  simp only [payloadTotal, State.blockBytes, Config.maxPayloadEntries, Config.maxDeletions, Config.maxExtentLen, Config.maxBatchKiB, Config.maxBlocks]
  constructor
  · rintro ⟨⟨⟨⟨⟨⟨entries, dels⟩, lens⟩, dlens⟩, total⟩, objects⟩, births⟩
    exact ⟨entries, dels, total, dlens, fun e mem => ⟨(lens e mem).1, (lens e mem).2, (objects e mem).1, (objects e mem).2, births e mem⟩⟩
  · rintro ⟨entries, dels, total, dlens, each⟩
    refine ⟨⟨⟨⟨⟨⟨entries, dels⟩, fun e mem => ?_⟩, dlens⟩, total⟩, fun e mem => ?_⟩, fun e mem => ?_⟩
    · obtain ⟨low, high, -⟩ := each e mem
      exact ⟨low, high⟩
    · obtain ⟨-, -, object, last, -⟩ := each e mem
      exact ⟨object, last⟩
    · obtain ⟨-, -, -, -, born⟩ := each e mem
      exact born

theorem storeHead_eq (c : Ctx) (i : Fin 2) (p : InFrame) (y : InCtx) (s : State) : storeHead c i p (s.setInCtx c y) =
    if headOk s y (readHead p.header.arg p.payload).1 (readHead p.header.arg p.payload).2 then
      s.setInCtx c { y with slots := y.slots.set i ⟨.filling, p.header.seq, (readHead p.header.arg p.payload).1, (readHead p.header.arg p.payload).2,
        ((readHead p.header.arg p.payload).1.map PayloadEntry.len).sum * ((s.vol y.volume).defn.blockKiB * 1024), [], false, 0, 0, []⟩ }
    else abortCtx 0x14 true c (s.setInCtx c y) := by
  simp only [storeHead, State.inCtx_setInCtx, if_true, State.setInCtx_setInCtx]
  rfl

/-- A BATCH_HEAD of the expected seq goes to the slot that is FILLING with it, else to the lower-numbered EMPTY one. -/
def InCtx.headSlot (x : InCtx) (n : Nat) : Option (Fin 2) := (x.fillingWith n).or (x.slotThat fun g => decide (g.state = .empty))

theorem InCtx.headSlot_eq_some {x : InCtx} {n : Nat} {i : Fin 2}
    (here : (x.slots[i].state = .filling ∧ x.slots[i].seq = n ∧ ∀ j, j < i → ¬(x.slots[j].state = .filling ∧ x.slots[j].seq = n)) ∨
      ((∀ j : Fin 2, ¬(x.slots[j].state = .filling ∧ x.slots[j].seq = n)) ∧ x.slots[i].state = .empty ∧ ∀ j, j < i → x.slots[j].state ≠ .empty)) :
    x.headSlot n = some i := by
  rcases here with ⟨state, seq, before⟩ | ⟨no, state, before⟩
  · rw [InCtx.headSlot, InCtx.fillingWith_eq_some ⟨state, seq⟩ before]; rfl
  · rw [InCtx.headSlot, InCtx.fillingWith_eq_none no, InCtx.slotThat_eq_some (decide_eq_true state) fun j lt => decide_eq_false (before j lt)]; rfl

theorem InCtx.headSlot_eq_none {x : InCtx} {n : Nat} (neither : ∀ j : Fin 2, x.slots[j].state ≠ .empty ∧ ¬(x.slots[j].state = .filling ∧ x.slots[j].seq = n)) :
    x.headSlot n = none := by
  rw [InCtx.headSlot, InCtx.fillingWith_eq_none fun j => (neither j).2, InCtx.slotThat_eq_none fun j => decide_eq_false (neither j).1]; rfl

section
variable (s : State) (p : InFrame) (c : Ctx) (y : InCtx)

theorem takeHead_of_zero (zero : p.header.seq = 0) : takeHead c p (s.setInCtx c y) = s.setInCtx c y := by
  rw [takeHead, if_pos zero]

theorem takeHead_of_expected (ne : p.header.seq ≠ 0) (expected : p.header.seq = y.expected) : takeHead c p (s.setInCtx c y) =
    (y.headSlot p.header.seq).elim (s.setInCtx c { y with reply := some (p.header.seq, .busy) }) fun i => storeHead c i p (s.setInCtx c y) := by
  simp only [takeHead, State.inCtx_setInCtx, if_true, if_neg ne, if_pos expected, InCtx.headSlot, State.setInCtx_setInCtx]
  cases y.fillingWith p.header.seq with
  | some i => rfl
  | none => cases y.slotThat fun g => decide (g.state = .empty) <;> rfl

theorem takeHead_of_earlier (ne : p.header.seq ≠ 0) (earlier : p.header.seq < y.expected) : takeHead c p (s.setInCtx c y) =
    (sendReceipt c p.header.seq (y.duplicateKind p.header.seq) (s.setInCtx c y)).setInCtx c { y with reply := some (p.header.seq, .duplicate) } := by
  simp only [takeHead, State.inCtx_setInCtx, if_true, if_neg ne, if_neg (ne_of_lt earlier), if_pos earlier, sendReceipt_updateIn]

theorem takeHead_of_later (later : y.expected < p.header.seq) :
    takeHead c p (s.setInCtx c y) = sendReceipt c p.header.seq .skipped (s.setInCtx c y) := by
  simp only [takeHead, State.inCtx_setInCtx, if_true, if_neg (show ¬p.header.seq = 0 by omega), if_neg (ne_of_gt later), if_neg (not_lt_of_gt later)]

end

/-! ### The frames of a batch -/

theorem takenOpen_of_only {s : State} {p : InFrame} {c : Ctx} (act : Ctx → InFrame → State → State) (is : (s.inCtx c).state = .open)
    (vol : p.header.recvVol = (s.inCtx c).volume.val) (run : (s.inCtx c).runId = p.header.runId) (peer : (s.inCtx c).peerId = p.header.peerId)
    (others : ∀ d, d ≠ c → (s.inCtx d).state = .free ∨ (s.inCtx d).volume ≠ (s.inCtx c).volume) : takenOpen act p s = act c p (touch c s) := by
  simp only [takenOpen, State.matched_of_only (is ▸ by decide) vol run peer others, is, if_true]

theorem takeData_of_filling (s : State) (p : InFrame) (c : Ctx) (y : InCtx) {i : Fin 2} (filling : y.fillingWith p.header.seq = some i) :
    takeData c p (s.setInCtx c y) = s.setInCtx c { y with slots := y.slots.set i (y.slots[i].take p.header.arg p.payload) } := by
  simp only [takeData, State.inCtx_setInCtx, if_true, filling, State.setInCtx_setInCtx]
  rfl

theorem takeEnd_of_filling (s : State) (p : InFrame) (c : Ctx) (y : InCtx) {i : Fin 2} (filling : y.fillingWith p.header.seq = some i) :
    takeEnd c p (s.setInCtx c y) = judgeBatch c i (BitVec.ofNat 32 p.header.arg) (s.setInCtx c y) := by
  simp only [takeEnd, State.inCtx_setInCtx, if_true, filling]

theorem judgeBatch_eq (c : Ctx) (i : Fin 2) (d : Digest) (y : InCtx) (s : State) : judgeBatch c i d (s.setInCtx c y) =
    if y.slots[i].gap = false ∧ y.slots[i].payload.length = y.slots[i].total ∧ y.slots[i].arrival = d then
      landNext c (s.setInCtx c { y with slots := y.slots.set i { y.slots[i] with state := .ready, sent := d }, expected := y.expected + 1 })
    else (sendReceipt c y.slots[i].seq .digestBad (s.setInCtx c y)).setInCtx c { y with slots := y.slots.set i .clear } := by
  simp only [judgeBatch, State.inCtx_setInCtx, if_true, sendReceipt_updateIn, State.setInCtx_setInCtx]
  rfl

/-- Settles O52: each batch frame is taken by its context with the idle timer afresh, and the slot with its seq decides. -/
theorem batchesAreStagedAndJudged : Obligations.BatchesAreStagedAndJudged := by
  unfold Obligations.BatchesAreStagedAndJudged
  intro s f p c x y n passes dir up room hx is vol run peer others hy hn
  subst hx hn
  have slots : y.slots = (s.inCtx c).slots := by rw [hy]
  have expected : y.expected = (s.inCtx c).expected := by rw [hy]
  have volume : y.volume = (s.inCtx c).volume := by rw [hy]
  have duplicates : y.duplicateKind = (s.inCtx c).duplicateKind := by rw [hy]; rfl
  have taken : ∀ act : Ctx → InFrame → State → State, takenOpen act p s = act c p (s.setInCtx c y) := fun act => by
    rw [takenOpen_of_only act is vol run peer others, touch_eq, hy]
  have receipt : ∀ (z : InCtx) (k : ReceiptKind), (sendReceipt c p.header.seq k (s.setInCtx c y)).setInCtx c z = (s.setInCtx c z).setLc { s.lc with
      control := s.lc.control ++ [⟨(s.inCtx c).peerAddr, .receipt, .backward, (s.inCtx c).runId, (s.inCtx c).sendVol, (s.inCtx c).volume.val, p.header.seq, k.code, []⟩] } :=
    fun z k => by rw [sendReceipt_setInCtx c y z _ k up room, hy]
  refine ⟨fun kind => ?_, fun kind => ?_, fun kind => ?_⟩
  · have head : exec (.batchHead f) s = .next (takeHead c p (s.setInCtx c y)) :=
      congrArg Host.Outcome.next ((onForward_of_pass _ passes kind dir).trans (taken takeHead))
    refine ⟨fun zero => ?_, fun i es ds total good ne first place hes hds htotal hgood => ?_, fun ne first neither => ?_, fun ne earlier a ha => ?_, fun later => ?_⟩
    · rw [head, takeHead_of_zero s p c y zero]
    · rw [head, takeHead_of_expected s p c y ne (first.trans expected.symm), InCtx.headSlot_eq_some (by rw [slots]; exact place), Option.elim_some, storeHead_eq,
        volume, ← hes, ← hds, ← htotal]
      have judged : headOk s y es ds = true ↔ good := by
        rw [hgood, headOk_iff, volume, ← htotal, hy]
      exact ⟨fun ok => by rw [if_pos (judged.2 ok)], fun bad => by rw [if_neg (mt judged.1 bad)]⟩
    · rw [head, takeHead_of_expected s p c y ne (first.trans expected.symm), InCtx.headSlot_eq_none (by rw [slots]; exact neither)]
      rfl
    · rw [head, takeHead_of_earlier s p c y ne (by rw [expected]; exact earlier), ha, ← InCtx.duplicateKind_code, receipt, duplicates]
    · rw [head, takeHead_of_later s p c y (by rw [expected]; exact later), sendReceipt_of_room (s := s.setInCtx c y) c _ _ up room,
        State.inCtx_setInCtx, if_pos rfl, hy]
      rfl
  · have data : exec (.batchData f) s = .next (takeData c p (s.setInCtx c y)) :=
      congrArg Host.Outcome.next ((onForward_of_pass _ passes kind dir).trans (taken takeData))
    refine ⟨fun no => ?_, fun i g hg state seq before => ?_⟩
    · rw [data, takeData]
      simp only [State.inCtx_setInCtx, if_true, InCtx.fillingWith_eq_none (x := y) (n := p.header.seq) (by rw [slots]; exact no)]
    · subst hg
      have filling : y.fillingWith p.header.seq = some i := InCtx.fillingWith_eq_some (by rw [slots]; exact ⟨state, seq⟩) (by rw [slots]; exact before)
      rw [data, takeData_of_filling s p c y filling, slots]
      exact ⟨fun offset fits => by rw [Slot.take, if_pos ⟨offset, fits⟩], fun wrong => by rw [Slot.take, if_neg (by omega)]⟩
  · have ended : exec (.batchEnd f) s = .next (takeEnd c p (s.setInCtx c y)) :=
      congrArg Host.Outcome.next ((onForward_of_pass _ passes kind dir).trans (taken takeEnd))
    refine ⟨fun i g hg state seq before => ?_, fun no => ?_⟩
    · subst hg
      have filling : y.fillingWith p.header.seq = some i := InCtx.fillingWith_eq_some (by rw [slots]; exact ⟨state, seq⟩) (by rw [slots]; exact before)
      rw [ended, takeEnd_of_filling s p c y filling, judgeBatch_eq, slots]
      refine ⟨fun whole full digest => ⟨_, rfl, ?_⟩, fun bad => ?_⟩
      · have accepted : (s.inCtx c).slots[i].gap = false ∧ (s.inCtx c).slots[i].payload.length = (s.inCtx c).slots[i].total ∧
            (s.inCtx c).slots[i].arrival = BitVec.ofNat 32 p.header.arg := ⟨whole, full, digest⟩
        rw [if_pos accepted, expected]
        refine ⟨rfl, fun ⟨j, other, landing⟩ => congrArg Host.Outcome.next (landNext_of_landing (j := j) ?_)⟩
        simp only [State.inCtx_setInCtx, if_true, Fin.getElem_fin, Vector.getElem_set, Fin.val_inj, if_neg (Ne.symm other)]
        exact landing
      · rw [if_neg (by rintro ⟨whole, full, digest⟩; rcases bad with bad | bad | bad <;> simp_all), seq, receipt]
        rfl
    · have none := InCtx.fillingWith_eq_none (x := y) (n := p.header.seq) (by rw [slots]; exact no)
      have reply : y.reply = (s.inCtx c).reply := by rw [hy]
      have replied : ∀ k, (s.inCtx c).reply = some (p.header.seq, k) → exec (.batchEnd f) s = .next ((sendReceipt c p.header.seq
          (match k with | .busy => .busy | .duplicate => y.duplicateKind p.header.seq) (s.setInCtx c y)).setInCtx c { y with reply := Option.none }) := by
        intro k is
        rw [ended, takeEnd]
        simp only [State.inCtx_setInCtx, if_true, none, reply, is, sendReceipt_updateIn] <;> rfl
      refine ⟨fun busy => ?_, fun duplicate a ha => ?_, fun other => ?_⟩
      · rw [replied _ busy, receipt]
        rfl
      · rw [replied _ duplicate, receipt, ha, ← InCtx.duplicateKind_code, duplicates]
      · rw [ended, takeEnd]
        simp only [State.inCtx_setInCtx, if_true, none, reply]
        cases is : (s.inCtx c).reply with
        | none => rfl
        | some nk =>
          obtain ⟨n, k⟩ := nk
          refine congrArg Host.Outcome.next (if_neg fun same => other k ?_)
          rw [is, same]
end Sys2Proof.Machine
end

section
/-! How an inbound context aborts (7.8), ABORT frames and the carrier (8.2). -/
namespace Sys2Proof.Machine

/-! ### What a notice leaves -/

@[simp] theorem raise_mem (k : NoticeKind) (b c : Nat) (s : State) : (raise k b c s).mem = s.mem := (noticesOnly_raise k b c s).mem
@[simp] theorem raise_etu (k : NoticeKind) (b c : Nat) (s : State) : (raise k b c s).etu = s.etu := (noticesOnly_raise k b c s).etu
@[simp] theorem raise_qu (k : NoticeKind) (b c : Nat) (s : State) : (raise k b c s).qu = s.qu := (noticesOnly_raise k b c s).qu
@[simp] theorem raise_su (k : NoticeKind) (b c : Nat) (s : State) : (raise k b c s).su = s.su := (noticesOnly_raise k b c s).su
@[simp] theorem raise_ru (k : NoticeKind) (b c : Nat) (s : State) : (raise k b c s).ru = s.ru := (noticesOnly_raise k b c s).ru
@[simp] theorem raise_dm (k : NoticeKind) (b c : Nat) (s : State) : (raise k b c s).dm = s.dm := (noticesOnly_raise k b c s).dm
@[simp] theorem raise_ds (k : NoticeKind) (b c : Nat) (s : State) : (raise k b c s).ds = s.ds := (noticesOnly_raise k b c s).ds
@[simp] theorem raise_dr (k : NoticeKind) (b c : Nat) (s : State) : (raise k b c s).dr = s.dr := (noticesOnly_raise k b c s).dr
@[simp] theorem raise_lc (k : NoticeKind) (b c : Nat) (s : State) : (raise k b c s).lc = s.lc := (noticesOnly_raise k b c s).lc
@[simp] theorem raise_ps (k : NoticeKind) (b c : Nat) (s : State) : (raise k b c s).ps = s.ps := (noticesOnly_raise k b c s).ps
@[simp] theorem raise_strap (k : NoticeKind) (b c : Nat) (s : State) : (raise k b c s).strap = s.strap := (noticesOnly_raise k b c s).strap
@[simp] theorem raise_free (k : NoticeKind) (b c : Nat) (s : State) : (raise k b c s).free = s.free := (noticesOnly_raise k b c s).free
@[simp] theorem raise_pending (k : NoticeKind) (b c : Nat) (s : State) : (raise k b c s).pending = s.pending := (noticesOnly_raise k b c s).pending
@[simp] theorem raise_extents (k : NoticeKind) (b c : Nat) (s : State) : (raise k b c s).extents = s.extents := (noticesOnly_raise k b c s).extents

@[simp] theorem State.setReplVol_replVol (s : State) (v : Vol) : s.setReplVol v (s.replVol v) = s := by
  simp only [State.setReplVol, State.replVol, State.setDr, Fin.getElem_fin, Vector.set_getElem_self]

theorem State.holdsEngine_iff {s : State} {k : MoverClass} {n : Ctx} :
    s.holdsEngine k n = true ↔ ∃ u, s.dm.engine = some u ∧ u.cls = k ∧ u.num = n := by
  rw [State.holdsEngine]
  cases s.dm.engine <;> simp [MoverUnit.isOf]

theorem abortCtx_of_not_open {s : State} {c : Ctx} (closed : (s.inCtx c).state ≠ .open) (reason : Nat) (send : Bool) : abortCtx reason send c s = s := by
  rw [abortCtx, if_neg closed]

/-- What the abort of an OPEN context leaves, before its ABORT is sent. -/
def aborted (reason : Nat) (c : Ctx) (s : State) : State :=
  ((s.setDm { s.dm with waiting := s.dm.waiting.filter fun u => !(decide (u.cls = .land) && decide (u.num = c)) }).setReplVol (s.inCtx c).volume
    (if ∃ u, s.dm.engine = some u ∧ u.cls = .land ∧ u.num = c then s.replVol (s.inCtx c).volume
      else { s.replVol (s.inCtx c).volume with takeMark := 0 })).setInCtx c
    { s.inCtx c with
      state := .aborting, reason := some reason, slots := Vector.replicate 2 .clear, reply := none, idle := none, cursor := 0, walkDone := false }

theorem abortCtx_of_open {s : State} {c : Ctx} (is : (s.inCtx c).state = .open) (reason : Nat) (send : Bool) :
    abortCtx reason send c s = if send then handControl ((s.inCtx c).frame .abort 0 reason) (aborted reason c s) else aborted reason c s := by
  have left : (if s.holdsEngine .land c then withdraw .land c s else (withdraw .land c s).setTakeMark (s.inCtx c).volume 0) =
      (withdraw .land c s).setReplVol (s.inCtx c).volume (if ∃ u, s.dm.engine = some u ∧ u.cls = .land ∧ u.num = c then s.replVol (s.inCtx c).volume
        else { s.replVol (s.inCtx c).volume with takeMark := 0 }) := by
    by_cases holds : s.holdsEngine .land c = true
    · rw [if_pos holds, if_pos (State.holdsEngine_iff.1 holds)]
      exact ((withdraw .land c s).setReplVol_replVol _).symm
    · rw [if_neg holds, if_neg fun h => holds (State.holdsEngine_iff.2 h)]
      rfl
  simp only [abortCtx, if_pos is, left]
  rfl

/-- The Link Controller's checks read its own block alone. -/
theorem State.arrival_congr {s t : State} (lc : t.lc = s.lc) (f : EthFrame) : t.arrival f = s.arrival f := by
  cases s
  cases t
  cases lc
  rfl

theorem onRunFrame_of_pass {s t : State} {f : EthFrame} {p : InFrame} {k : FrameKind} (act : OutRun → InFrame → State) (passes : s.arrival f = .pass p)
    (kind : p.header.kind = k) (lc : t.lc = s.lc) : onRunFrame k f act t = (t.runOf p).elim t fun x => act x p := by
  simp only [onRunFrame, State.arrival_congr lc, passes, kind, if_true]
  cases t.runOf p <;> rfl

theorem State.runOf_of_forward {s : State} {p : InFrame} (dir : p.header.dir = .forward) : s.runOf p = none := by
  rw [State.runOf]
  split
  · split
    · exact if_neg fun h => by rw [dir] at h; exact absurd h.1 (by decide)
    · rfl
  · rfl

theorem State.runOf_of_peer {s : State} {p : InFrame} {x : OutRun} {q : PeerCopy} (active : s.ds.active = some x) (peer : x.peer = some q)
    (dir : p.header.dir = .backward) (addr : s.lc.peers[p.entry].address = q.address) (id : s.lc.peers[p.entry].id = q.id)
    (run : p.header.runId = x.runId) : s.runOf p = some x := by
  simp only [State.runOf, active, peer, dir, addr, id, run, and_self, if_true]

/-- Settles O56: an abort is what `aborted` leaves and its ABORT (`abortCtx_of_open`), and the checks of a frame read the link alone. -/
theorem abortsAndCarrierChanges : Obligations.AbortsAndCarrierChanges := by
  unfold Obligations.AbortsAndCarrierChanges
  refine ⟨fun s c x reason hx => ?_, fun s f p passes kind => ?_, fun s => ?_⟩
  · subst hx
    refine ⟨fun closed send => abortCtx_of_not_open closed reason send, fun is up room send => ?_, fun idle => ?_, fun idle => ?_⟩
    · rw [abortCtx_of_open is]
      cases send with
      | false => rfl
      | true =>
        rw [if_pos rfl, handControl_of_room (s := aborted reason c s) _ up room]
        rfl
    · simp [exec, execIdleTimerExpiry, idle]
    · simp [exec, execIdleTimerExpiry, idle]
      rfl
  · refine ⟨fun c x dir hx is vol run peer others => ?_, fun x q dir active peer addr id run => ?_⟩
    · subst hx
      have taken : onForward .abort f (takenOpen fun c _ t => abortCtx inboundPeerAbort false c t) s = abortCtx 0x10 false c (touch c s) :=
        (onForward_of_pass _ passes kind dir).trans (takenOpen_of_only _ is vol run peer others)
      have lc : (abortCtx 0x10 false c (touch c s)).lc = s.lc := by
        rw [abortCtx_of_open (by rw [touch_eq, State.inCtx_setInCtx, if_pos rfl]; exact is)]
        rfl
      simp only [exec, execAbort, taken, onRunFrame_of_pass _ passes kind lc, State.runOf_of_forward dir]
      rfl
    · have passed : onForward .abort f (takenOpen fun c _ t => abortCtx inboundPeerAbort false c t) s = s := by
        simp [onForward, passes, dir]
      simp only [exec, execAbort, passed, onRunFrame_of_pass _ passes kind rfl, State.runOf_of_peer active peer dir addr id run]
      rfl
  · refine ⟨fun up => ?_, fun down => ?_, fun down => ?_, fun up => ⟨_, rfl, ?_⟩⟩
    · simp [exec, execCarrierUp, up]
    · simp only [exec, execCarrierUp, down, Bool.false_eq_true, if_false, raise_ds, State.setLc_ds]
    · simp [exec, execCarrierDown, down]
    · simp only [exec, execCarrierDown, up, if_true, linkDown, abortAll, ctxList, List.foldl, raise_ds, State.setLc_ds]
      rfl
end Sys2Proof.Machine
end

section
/-! The end of an outbound run (6.8): its holds, its ABORT, what is emptied, and its one answer. -/
namespace Sys2Proof.Machine

/-! ### Holds that are released -/

theorem autoTrimAgain_eq (v : Vol) (s : State) : ∃ z, autoTrimAgain v s = s.setSnapVol v z ∧ (s.snapVol v).trimmed z := by
  obtain ⟨z, frame⟩ := autoTrimAgain_frame v s
  have kept := autoTrimAgain_trimmed v s
  rw [frame, State.snapVol_setSnapVol, if_pos rfl] at kept
  exact ⟨z, frame, kept⟩

theorem autoTrimAgain_of_not_stalled {v : Vol} {s : State} (runs : (s.snapVol v).auto ≠ .stalled) : autoTrimAgain v s = s := if_neg runs

theorem leftUnheld_eq (v : Vol) (n : Nat) (s : State) : ∃ z, leftUnheld v n s = s.setSnapVol v z ∧ (s.snapVol v).trimmed z := by
  unfold leftUnheld
  split
  · split
    · exact autoTrimAgain_eq v s
    · exact ⟨_, (s.setSnapVol_snapVol v).symm, .refl _⟩
  · exact ⟨_, (s.setSnapVol_snapVol v).symm, .refl _⟩

theorem leftUnheld_of_not_stalled {v : Vol} {n : Nat} {s : State} (runs : (s.snapVol v).auto ≠ .stalled) : leftUnheld v n s = s := by
  unfold leftUnheld
  split
  · rw [autoTrimAgain_of_not_stalled runs, ite_self]
  · rfl

/-- The release of REPL_TARGET changes the volume's snapshot list, and may have auto-trim retire from it. -/
theorem releaseTarget_eq (v : Vol) (s : State) : ∃ z, releaseTarget v s = s.setSnapVol v z ∧ (s.snapVol v).trimmed z := by
  unfold releaseTarget
  split
  · rename_i x _
    obtain ⟨z, frame, kept⟩ := leftUnheld_eq v x.epoch (s.updateSnap v x.epoch fun y => { y with replTarget := false })
    refine ⟨z, ?_, ?_⟩
    · rw [frame, State.updateSnap, State.setSnapVol_setSnapVol]
    · rw [State.updateSnap, State.snapVol_setSnapVol, if_pos rfl] at kept
      exact ⟨kept.queue, kept.producers, kept.release, kept.gate, kept.taking, kept.commitPlace⟩
  · exact ⟨_, (s.setSnapVol_snapVol v).symm, .refl _⟩

/-! ### What the end empties -/

/-- The mover without the sender's request, the rest of its unit to be discarded (R127, R130). -/
def Dm.withoutShip (d : Dm) : Dm :=
  { d with
    waiting := d.waiting.filter fun u => !(decide (u.cls = .ship) && decide (u.num = 0))
    engine := d.engine.map fun u => if u.cls = .ship then { u with discard := true } else u }

theorem discardShip_eq (s : State) : discardShip s = s.setDm { s.dm with engine := s.dm.engine.map fun u => if u.cls = .ship then { u with discard := true } else u } := by
  have kept : ∀ {e}, s.dm.engine = e → s = s.setDm { s.dm with engine := e } := fun h => by rw [← h]; rfl
  unfold discardShip
  cases engine : s.dm.engine with
  | none => exact kept engine
  | some u =>
    by_cases ship : u.cls = .ship
    · simp [ship]
    · simp only [ship, if_false, Option.map_some]
      exact kept engine

theorem clearSender_eq (s : State) : clearSender s = ((s.setDs { s.ds with
    scanning := none, rest := none, assembly := .empty, closed := none, holding := none, outstanding := [], busyWait := false, handover := [] }).setDm
      s.dm.withoutShip).setLc { s.lc with slot := none } := by
  simp only [clearSender, discardShip_eq]
  rfl

theorem withdrawSender_eq (v : Vol) (s : State) :
    withdrawSender v s = s.setSnapVol v { s.snapVol v with gate := (s.snapVol v).gate.filter fun g => !g.ofSender } :=
  congrArg (fun l => s.setSnapVol v { s.snapVol v with gate := l }) (List.filter_congr fun g _ => by cases g <;> rfl)

theorem withdrawSender_of_no_gate {v : Vol} {s : State} (empty : (s.snapVol v).gate = []) : withdrawSender v s = s := by
  rw [withdrawSender_eq, empty, List.filter_nil, ← empty]
  exact s.setSnapVol_snapVol v

/-! ### The end and its answer -/

theorem State.peerFor_of {s : State} {x : OutRun} {p : PeerCopy} (peer : x.peer = some p ∨ (x.peer = none ∧ ∃ i n, (s.vol x.volume).defn.peer = some i ∧
    (s.vol x.volume).defn.remote = some n ∧ p = ⟨(s.lc.peers[(Fin.ofNat 4 i : Ctx)]).address, (s.lc.peers[(Fin.ofNat 4 i : Ctx)]).id, n⟩)) :
    s.peerFor x = some p := by
  rcases peer with peer | ⟨peer, i, n, entry, remote, rfl⟩
  · simp only [State.peerFor, peer]
  · simp only [State.peerFor, peer, State.peerCopy, entry, remote]

theorem handRunControl_of_room {s : State} {x : OutRun} {p : PeerCopy} (kind : FrameKind) (seq arg : Nat) (payload : List Byte) (active : s.ds.active = some x)
    (peer : s.peerFor x = some p) (up : s.lc.up = true) (room : s.lc.control.length < 16) :
    handRunControl kind seq arg payload s = s.setLc { s.lc with control := s.lc.control ++ [runFrame x p kind seq arg payload] } := by
  simp only [handRunControl, active, peer, handControl_of_room _ up room]

theorem endRun_of_running {s : State} {x : OutRun} (active : s.ds.active = some x) (runs : x.state ≠ .ended) (reason detail : Nat) (abort : Bool) :
    endRun reason detail abort s = finishRun (endRunCore reason detail abort s) := by
  simp only [endRun, active, if_neg runs]

/-- The answer of an ended run, handed on or left waiting. -/
theorem finishRun_eq {s : State} {y : OutRun} {e : RunEnd} (active : s.ds.active = some y) (ending : y.ending = some e) :
    finishRun s = if (answerDue y.ring (runAnswer s.free y e) .runEnd (s.setFree (if e.detail < 256 then s.free else s.free + 1))).2 then
        (answerDue y.ring (runAnswer s.free y e) .runEnd (s.setFree (if e.detail < 256 then s.free else s.free + 1))).1.setDs
          { s.ds with active := none, lookDue := true }
      else (answerDue y.ring (runAnswer s.free y e) .runEnd (s.setFree (if e.detail < 256 then s.free else s.free + 1))).1 := by
  have counted : (if e.detail < 256 then s else s.setFree (s.free + 1)) = s.setFree (if e.detail < 256 then s.free else s.free + 1) := by
    split <;> rfl
  simp only [finishRun, active, ending, counted, runHandedOn, answerDue_ds]
  rfl
theorem runAnswer_eq {x : OutRun} (batches : x.counts.batches < 2 ^ 32) (entries : x.counts.entries < 2 ^ 32) (kib : x.counts.kib < 2 ^ 40)
    (deletions : x.counts.deletions < 2 ^ 24) (resends : x.batchResends < 2 ^ 16) (n reason detail : Nat) :
    runAnswer n x ⟨reason, detail⟩ = ⟨x.tag, 0x40, if reason = 0x20 then 0x02 else 0x0C,
      reason + 256 * (if detail < 256 then detail else (Config.freeByte n 0).toNat) + 65536 * x.batchResends, x.counts.batches + 4294967296 * x.counts.entries,
      x.counts.kib + 1099511627776 * x.counts.deletions⟩ := by
  have fits : ∀ {w m : Nat}, m < 2 ^ w → saturate w m = m := fun h => Nat.min_eq_left (Nat.le_pred_of_lt h)
  have status : (if reason = outboundDone then Status.done.code else Status.failed.code) = if reason = 0x20 then 0x02 else 0x0C := rfl
  simp only [runAnswer, detailByte, fits batches, fits entries, fits kib, fits deletions, fits resends, status]

theorem endRunCore_of_done {s : State} {x : OutRun} (active : s.ds.active = some x) (detail : Nat) (abort : Bool) :
    endRunCore 0x20 detail abort s = (withdrawSender x.volume (clearSender (releaseTarget x.volume
      (match x.target with | some t => moveBase x.volume t s | none => s)))).setActive { x with state := .ended, exchange := none, ending := some ⟨0x20, detail⟩ } := by
  simp only [endRunCore, active, outboundDone, if_true] <;> rfl

theorem endRunCore_of_failed {s : State} {x : OutRun} (active : s.ds.active = some x) {reason : Nat} (fails : reason ≠ 0x20) (detail : Nat) (abort : Bool) :
    endRunCore reason detail abort s = (withdrawSender x.volume (clearSender
      (if abort then handRunControl .abort 0 reason [] (releaseTarget x.volume s) else releaseTarget x.volume s))).setActive
        { x with state := .ended, exchange := none, ending := some ⟨reason, detail⟩ } := by
  have failing : reason ≠ outboundDone := fails
  simp only [endRunCore, active, if_neg failing]

/-- How a run ends, from what its end leaves before the answer. -/
theorem endRun_of_core {s t : State} {x y : OutRun} {e : RunEnd} {d : Ds} {reason detail : Nat} {abort : Bool} (active : s.ds.active = some x)
    (runs : x.state ≠ .ended) (ds : (endRunCore reason detail abort s).ds = d) (place : d.active = some y) (ending : y.ending = some e)
    (free : (endRunCore reason detail abort s).free = s.free)
    (counted : (endRunCore reason detail abort s).setFree (if e.detail < 256 then s.free else s.free + 1) = t) :
    ((answerDue y.ring (runAnswer s.free y e) .runEnd t).2 = false → endRun reason detail abort s = (answerDue y.ring (runAnswer s.free y e) .runEnd t).1) ∧
    ((answerDue y.ring (runAnswer s.free y e) .runEnd t).2 = true →
      endRun reason detail abort s = (answerDue y.ring (runAnswer s.free y e) .runEnd t).1.setDs { d with active := none, lookDue := true }) := by
  rw [endRun_of_running active runs, finishRun_eq (s := endRunCore reason detail abort s) (ds ▸ place) ending, free, counted, ds]
  exact ⟨fun waits => if_neg (by simp [waits]), fun handed => if_pos handed⟩

theorem moveBase_of_unbased {s : State} {v : Vol} {k : Nat} {g : Snapshot} (found : (s.snapVol v).snaps.find? (fun z => decide (z.epoch = k)) = some g)
    (unbased : g.replBase = false) (runs : (s.snapVol v).auto ≠ .stalled) : moveBase v k s =
      (s.setSnapVol v { s.snapVol v with snaps := (s.snapVol v).snaps.map fun z => { z with replBase := decide (z.epoch = k) } }).setVol v
        { s.vol v with baseLabel := some g.label } := by
  have quiet : ∀ n, leftUnheld v n ((s.setSnapVol v { s.snapVol v with
      snaps := (s.snapVol v).snaps.map fun z => { z with replBase := decide (z.epoch = k) } }).setVol v { s.vol v with baseLabel := some g.label }) = _ :=
    fun n => leftUnheld_of_not_stalled (by rw [State.setVol_snapVol, State.snapVol_setSnapVol, if_pos rfl]; exact runs)
  simp only [moveBase, State.snapAt, found, unbased, Bool.false_eq_true, if_false, State.setSnapVol_vol, quiet]
  cases s.baseSnap v <;> rfl

theorem releaseTarget_of_only {s : State} {v : Vol} {k : Nat} (targeted : ∃ z ∈ (s.snapVol v).snaps, z.replTarget = true)
    (only : ∀ z ∈ (s.snapVol v).snaps, z.replTarget = true → z.epoch = k) (runs : (s.snapVol v).auto ≠ .stalled) :
    releaseTarget v s = s.setSnapVol v { s.snapVol v with snaps := (s.snapVol v).snaps.map fun z => { z with replTarget := false } } := by
  have cleared : ((s.snapVol v).snaps.map fun z => if z.epoch = k then { z with replTarget := false } else z) =
      (s.snapVol v).snaps.map fun z => { z with replTarget := false } := by
    refine List.map_congr_left fun z mem => ?_
    split
    · rfl
    · rename_i other
      have free : z.replTarget = false := Bool.eq_false_iff.2 fun h => other (only z mem h)
      rw [← free]
  unfold releaseTarget
  cases found : (s.snapVol v).snaps.find? (·.replTarget) with
  | none =>
    obtain ⟨z, mem, has⟩ := targeted
    exact absurd has (List.find?_eq_none.1 found z mem)
  | some y =>
    have epoch : y.epoch = k := only y (List.mem_of_find?_eq_some found) (List.find?_some found)
    dsimp only
    rw [leftUnheld_of_not_stalled, State.updateSnap, epoch, cleared]
    rw [State.updateSnap, State.snapVol_setSnapVol, if_pos rfl]
    exact runs

/-- Settles O50: what the end leaves before its answer (`endRunCore_of_failed`, `endRunCore_of_done`), and the answer by `finishRun_eq`. -/
theorem runsEndOnceWithTheirCounts : Obligations.RunsEndOnceWithTheirCounts := by
  unfold Obligations.RunsEndOnceWithTheirCounts
  intro s x p reason detail n e y d m a sv active peer batches entries kib deletions resends up room hsv he hn hy hd hm ha
  have answered : ∀ k, runAnswer k y e = ⟨x.tag, 0x40, if reason = 0x20 then 0x02 else 0x0C,
      reason + 256 * (if detail < 256 then detail else (Config.freeByte k 0).toNat) + 65536 * x.batchResends, x.counts.batches + 4294967296 * x.counts.entries,
      x.counts.kib + 1099511627776 * x.counts.deletions⟩ := fun k => by
    rw [he, runAnswer_eq (x := y)] <;> (subst hy; first | rfl | assumption)
  have ring : y.ring = x.ring := by rw [hy]
  refine ⟨fun ended abort => ?_, fun runs fails abort u w t hu hw ht => ?_, fun g k t runs done gate auto target found unbased targeted only ht => ?_⟩
  · simp only [endRun, active, ended, if_true]
  · obtain ⟨z, frame, kept⟩ := releaseTarget_eq x.volume s
    have released : u = s.setSnapVol x.volume z := by rw [← frame, hu, hsv]; rfl
    have core : endRunCore reason detail abort s = w.setSnapVol x.volume { w.snapVol x.volume with gate := sv.gate.filter fun g => !g.ofSender } := by
      have aborts : (if abort then handRunControl .abort 0 reason [] u else u) = u.setLc { s.lc with
          control := if abort then s.lc.control ++ [⟨p.address, .abort, .forward, x.runId, x.volume.val, p.remote, 0, reason, []⟩] else s.lc.control } := by
        cases abort with
        | false => rw [released]; rfl
        | true =>
          rw [if_pos rfl, released, handRunControl_of_room (s := s.setSnapVol x.volume z) _ _ _ _ active (State.peerFor_of (s := s.setSnapVol x.volume z) peer) up room]
          rfl
      have shown : releaseTarget x.volume s = u := frame.trans released.symm
      rw [endRunCore_of_failed active fails, shown, aborts, clearSender_eq, withdrawSender_eq, hw, hm, hd, hy, he, hsv, ← kept.gate]
      simp only [released, State.setLc_snapVol, State.setDm_snapVol, State.setDs_snapVol, State.snapVol_setSnapVol, if_true]
      rfl
    rw [← ring, ha, ← answered]
    exact endRun_of_core active runs (by rw [core, hw]; rfl) (by rw [hd]) (by rw [hy]) (by rw [core, hw, released]; rfl) (by rw [core, ht, hn, he])
  · have moved : moveBase x.volume k s = (s.setSnapVol x.volume { sv with snaps := sv.snaps.map fun z => { z with replBase := decide (z.epoch = k) } }).setVol
        x.volume { s.vol x.volume with baseLabel := some g.label } :=
      hsv ▸ moveBase_of_unbased (hsv ▸ found) unbased (hsv ▸ auto)
    have released : releaseTarget x.volume (moveBase x.volume k s) = (s.setSnapVol x.volume { sv with
        snaps := sv.snaps.map fun z => { z with replBase := decide (z.epoch = k), replTarget := false } }).setVol
          x.volume { s.vol x.volume with baseLabel := some g.label } := by
      have mem := List.mem_of_find?_eq_some found
      rw [moved, releaseTarget_of_only (k := k)]
      · simp only [State.setVol_snapVol, State.snapVol_setSnapVol, if_true, State.setVol_setSnapVol, State.setSnapVol_setSnapVol, List.map_map]
        rfl
      · simp only [State.setVol_snapVol, State.snapVol_setSnapVol, if_true]
        exact ⟨_, List.mem_map_of_mem mem, targeted⟩
      · simp only [State.setVol_snapVol, State.snapVol_setSnapVol, if_true]
        intro z made
        obtain ⟨z, mem, rfl⟩ := List.mem_map.1 made
        exact only z mem
      · simp only [State.setVol_snapVol, State.snapVol_setSnapVol, if_true]
        exact auto
    have core : endRunCore reason detail false s = ((((s.setDs d).setDm m).setLc { s.lc with slot := none }).setSnapVol x.volume { sv with
        snaps := sv.snaps.map fun z => { z with replBase := decide (z.epoch = k), replTarget := false } }).setVol x.volume
          { s.vol x.volume with baseLabel := some g.label } := by
      rw [done, endRunCore_of_done active, target]
      dsimp only
      rw [released, clearSender_eq, withdrawSender_of_no_gate, hm, hd, hy, he, done, target]
      · rfl
      · simp only [State.setLc_snapVol, State.setDm_snapVol, State.setDs_snapVol, State.setVol_snapVol, State.snapVol_setSnapVol, if_true, gate]
    rw [← ring, ha, ← answered]
    exact endRun_of_core active runs (by rw [core]; rfl) (by rw [hd]) (by rw [hy]) (by rw [core]; rfl) (by rw [core, ht, hn, he])
end Sys2Proof.Machine
end

section
/-! Outbound runs are queued, cancelled and started (6.1 to 6.3, 6.9). -/
namespace Sys2Proof.Machine

/-! ### RUN_START (R111, R112) -/

theorem State.noPeer_of_enabled {s : State} {v : Vol} {i m : Nat} (peer : (s.vol v).defn.peer = some i) (remote : (s.vol v).defn.remote = some m)
    (enabled : (s.lc.peers[(Fin.ofNat 4 i : Ctx)]).enabled = true) : s.noPeer v = false := by
  simp only [State.noPeer, peer, remote, enabled, Bool.not_true]

/-- The accepted run joins the queue, its target held when it is named. -/
theorem runStartAccept_eq {s : State} {v : Vol} {p : RunStartParams} (r : RingNo) (tag : Nat) (vol : p.volume = v.val) : runStartAccept r tag p s =
    (if p.newSnapshot then s else placeTarget v (startTarget p s) s).setDs { s.ds with
      queue := s.ds.queue ++ [⟨v, r, tag, p.label, p.newSnapshot, p.full⟩], lookDue := s.ds.lookDue || s.ds.queue.isEmpty } := by
  simp only [runStartAccept, vol, toVol_val]
  cases p.newSnapshot <;> rfl

/-! ### RUN_CANCEL (R132) -/

/-- A request that SAFE state does not hold off, whose kind a FORMAT lets through, passes the gates. -/
theorem gated_of_not_safe {s : State} (r : RingNo) (tag : Nat) (q : Request) (act : State → State) (safe : s.ps.safe = false) (format : formatAdmits q = true) :
    gated r tag q true act s = act s := by
  simp [gated, State.gateRefusal, safe, format]

section
variable {s : State} {v : Vol} (r : RingNo) (tag : Nat) (safe : s.ps.safe = false)
include safe

theorem exec_runCancel : exec (.runCancel r tag v.val) s = .next (match s.ds.queued v with
    | some x => answer x.ring (cancelledAnswer x) (reply r tag (.runCancel v.val) .ok 1 0 0 (releaseQueued x (unqueue v s)))
    | none => if s.runsOn v then reply r tag (.runCancel v.val) .ok 2 0 0 (endRun outboundCancelled 0 true s)
      else refuse r tag (.runCancel v.val) .noOperation s) := by
  refine congrArg Host.Outcome.next ?_
  simp only [reqRunCancel, toVol_val, volumeOk_val, gated_of_not_safe _ _ _ _ safe (show formatAdmits (.runCancel v.val) = true from rfl)] <;> rfl

theorem exec_runCancel_of_queued {x : QueuedRun} {l rest : List QueuedRun} (queue : s.ds.queue = l ++ x :: rest) (vol : x.volume = v)
    (others : ∀ y ∈ l ++ rest, y.volume ≠ v) : exec (.runCancel r tag v.val) s = .next (answer x.ring ⟨x.tag, 0x40, 0x0C, 0x27, 0, 0⟩
      (answer r ⟨tag, 0x41, 0x00, 1, 0, 0⟩ (releaseQueued x (s.setDs { s.ds with queue := l ++ rest })))) := by
  have first : s.ds.queued v = some x := by
    rw [Ds.queued, queue, List.find?_append, List.find?_eq_none.2 fun y mem => by simp [others y (List.mem_append_left _ mem)]]
    simp [vol]
  have left : unqueue v s = s.setDs { s.ds with queue := l ++ rest } := by
    have kept : (s.ds.queue.filter fun y => decide (y.volume ≠ v)) = l ++ rest := by
      rw [queue, List.filter_append, List.filter_cons_of_neg (by simp [vol]), ← List.filter_append]
      exact List.filter_eq_self.2 fun y mem => by simp [others y mem]
    rw [unqueue, kept]
  rw [exec_runCancel r tag safe, first, left]
  rfl

theorem exec_runCancel_of_none (none : ∀ y ∈ s.ds.queue, y.volume ≠ v) : exec (.runCancel r tag v.val) s = .next (if s.runsOn v then
    answer r ⟨tag, 0x41, 0x00, 2, 0, 0⟩ (endRun 0x27 0 true s) else answer r ⟨tag, 0x41, 0x39, 0, 0, 0⟩ s) := by
  have empty : s.ds.queued v = Option.none := List.find?_eq_none.2 fun y mem => by simp [none y mem]
  rw [exec_runCancel r tag safe, empty]
  rfl

end

/-! ### RUN_DEQUEUE (R114) -/

theorem State.runMayStart_iff {s : State} :
    s.runMayStart = true ↔ s.ds.active = none ∧ s.lc.up = true ∧ s.strap = false ∧ s.faulted .ship = false := by
  simp [State.runMayStart, and_assoc]

theorem exec_runDequeue_of_front {s : State} {x : QueuedRun} {rest : List QueuedRun} (look : s.ds.lookDue = true) (queue : s.ds.queue = x :: rest) :
    exec .runDequeue s = .next (if s.runMayStart then startRun x rest (s.setDs { s.ds with lookDue := false }) else s.setDs { s.ds with lookDue := false }) := by
  have front : (s.setDs { s.ds with lookDue := false }).ds.queue = x :: rest := queue
  have starts : (s.setDs { s.ds with lookDue := false }).runMayStart = s.runMayStart := rfl
  simp only [exec, execRunDequeue, look, if_true, front, starts]
  split <;> rfl

theorem exec_runDequeue_of_waits {s : State} (look : s.ds.lookDue = true)
    (waits : s.ds.queue = [] ∨ s.ds.active ≠ none ∨ s.lc.up = false ∨ s.strap = true ∨ s.faulted .ship = true) :
    exec .runDequeue s = .next (s.setDs { s.ds with lookDue := false }) := by
  cases queue : s.ds.queue with
  | nil =>
    have empty : (s.setDs { s.ds with lookDue := false }).ds.queue = [] := queue
    simp only [exec, execRunDequeue, look, if_true, empty]
  | cons x rest =>
    rw [exec_runDequeue_of_front look queue, if_neg]
    rw [State.runMayStart_iff]
    rintro ⟨idle, up, strap, clear⟩
    rcases waits with empty | active | down | set | fault
    · exact List.cons_ne_nil x rest (queue.symm.trans empty)
    · exact active idle
    · exact Bool.false_ne_true (down.symm.trans up)
    · exact Bool.false_ne_true (strap.symm.trans set)
    · exact Bool.false_ne_true (clear.symm.trans fault)

/-- The front run of the queue starts. -/
theorem exec_runDequeue_of_starts {s : State} {x : QueuedRun} {rest : List QueuedRun} (look : s.ds.lookDue = true) (queue : s.ds.queue = x :: rest)
    (idle : s.ds.active = none) (up : s.lc.up = true) (strap : s.strap = false) (clear : s.faulted .ship = false) :
    exec .runDequeue s = .next (startRun x rest (s.setDs { s.ds with lookDue := false })) := by
  rw [exec_runDequeue_of_front look queue, if_pos (State.runMayStart_iff.2 ⟨idle, up, strap, clear⟩)]

/-- The state in which the front run has become the active one. -/
def started (x : QueuedRun) (rest : List QueuedRun) (s : State) : State := s.setDs { s.ds with
  lookDue := false, queue := rest, active := some (x.start s.ds.nextRunId (if x.full then 0 else s.baseEpoch x.volume))
  nextRunId := if s.ds.nextRunId = 4294967295 then 1 else s.ds.nextRunId + 1 }

theorem startRun_of_new {s : State} {x : QueuedRun} {rest : List QueuedRun} (new : x.newSnapshot = true) :
    startRun x rest (s.setDs { s.ds with lookDue := false }) = askSnapshot x.volume x.label (started x rest s) := by
  simp only [startRun, new, if_true]
  rfl

theorem startRun_of_named {s : State} {x : QueuedRun} {rest : List QueuedRun} {y : Snapshot} (named : x.newSnapshot = false)
    (found : (s.snapVol x.volume).snaps.find? (fun y => decide (y.label = x.label)) = some y) :
    startRun x rest (s.setDs { s.ds with lookDue := false }) = runTarget y.epoch (started x rest s) := by
  have labelled : (started x rest s).snapLabelled x.volume x.label = some y := found
  have shown : startRun x rest (s.setDs { s.ds with lookDue := false }) = match (started x rest s).snapLabelled x.volume x.label with
      | some t => runTarget t.epoch (started x rest s)
      | none => started x rest s := by
    simp only [startRun, named, Bool.false_eq_true, if_false] <;> rfl
  rw [shown, labelled]

theorem askSnapshot_started {s : State} {x : QueuedRun} {rest : List QueuedRun} :
    (∀ st, createRefusal s x.volume x.label = some st → askSnapshot x.volume x.label (started x rest s) = endRun outboundNoTarget st.code true (started x rest s)) ∧
    (createRefusal s x.volume x.label = none → askSnapshot x.volume x.label (started x rest s) =
      if s.anyFilling x.volume then (started x rest s).setSnapVol x.volume { s.snapVol x.volume with gate := (s.snapVol x.volume).gate ++ [.sender x.label] }
      else completeCreate x.volume (.sender x.label) (started x rest s)) := by
  have same : createRefusal (started x rest s) x.volume x.label = createRefusal s x.volume x.label := rfl
  refine ⟨fun st refused => ?_, fun passed => ?_⟩
  · simp only [askSnapshot, same, refused]
  · simp only [askSnapshot, same, passed]
    rfl

/-! ### The offer (R115) -/

theorem sendOffer_eq {s : State} {z : OutRun} {p : PeerCopy} (active : s.ds.active = some z) (peer : s.peerFor z = some p) (up : s.lc.up = true)
    (room : s.lc.control.length < 16) : sendOffer s = (s.setDs { s.ds with active := some { z with base := s.runBase z, exchange := none, peer := some p } }).setLc
      { s.lc with control := s.lc.control ++ [⟨p.address, .offer, .forward, z.runId, z.volume.val, p.remote, 0, 0,
        le 4 (s.vol z.volume).defn.blockKiB ++ le 4 (s.runBase z) ++ le 4 (z.target.getD 0)⟩] } := by
  simp only [sendOffer, active, peer]
  rw [handRunControl_of_room (s := s.setActive _) _ _ _ _ rfl rfl up room]
  rfl

theorem State.runBase_of_new {s : State} {z : OutRun} (new : z.adopted = false) : s.runBase z = if z.full then 0 else s.baseEpoch z.volume := by
  simp [State.runBase, new]

/-- Settles O45: the checks passed, the queue taken apart, and the run that starts (`started`) with its snapshot asked for or its OFFER sent. -/
theorem runsAreQueuedCancelledAndStarted : Obligations.RunsAreQueuedCancelledAndStarted := by
  unfold Obligations.RunsAreQueuedCancelledAndStarted
  refine ⟨fun s r tag p v base i m up vol role state peer remote hi enabled strap clear queue active hbase => ?_, fun s r tag v safe => ?_, fun s => ?_⟩
  · have based : startBase p s = base := by
      rw [startBase, vol, toVol_val, hbase]
      rfl
    have state' : (s.vol v).state ≠ .undefined ∧ (s.vol v).state ≠ .defined := by rcases state with h | h <;> simp [h]
    have runs : ((s.ds.queue.any fun x => decide (x.volume = v)) || s.ds.active.any fun x => decide (x.volume = v)) = false := by
      rw [Bool.or_eq_false_iff]
      refine ⟨by simpa using queue, ?_⟩
      cases run : s.ds.active with
      | none => rfl
      | some x => simpa using active x run
    have accepted : (p.newSnapshot = true → s.labelTaken v p.label = false) →
        (p.newSnapshot = false → ∃ x, s.activeLabelled v p.label = some x ∧ base < x.epoch) →
        exec (.runStart r tag p) s = .next (answer r ⟨tag, 0x40, 0x01, s.ds.queue.length + 1, startTarget p s, base⟩ (runStartAccept r tag p s)) := by
      intro new named
      have base_eq : (if p.full then 0 else s.baseEpoch v) = base := by rw [hbase]; rfl
      have clear' : (s.faultRec .ship).fault = false := clear
      have passed := passed_of_not_failing _ (reqRunStart_checked up r tag vol) (by
        cases kind : p.newSnapshot with
        | true => simp [state', role, State.noPeer_of_enabled peer remote enabled, new kind, strap, runs, clear']
        | false =>
          obtain ⟨x, labelled, above⟩ := named kind
          simp [state', role, State.noPeer_of_enabled peer remote enabled, labelled, base_eq, Nat.not_le.2 above, strap, runs, clear'])
      rw [← based]
      exact congrArg Host.Outcome.next passed
    refine ⟨fun new fresh free => ?_, fun x named found active above => ?_⟩
    · have label : s.labelTaken v p.label = false := by
        rw [State.labelTaken, Bool.or_eq_false_iff, ← Bool.not_eq_true, State.snapLabelled_isSome_iff]
        exact ⟨fun ⟨x, mem, same⟩ => fresh x mem same, by simpa using free⟩
      rw [accepted (fun _ => label) fun h => absurd (new.symm.trans h) (by decide), runStartAccept_eq r tag vol, startTarget, if_pos new, if_pos new, new]
    · have labelled := activeLabelled_of_find found active
      have target : startTarget p s = x.epoch := by
        rw [startTarget, if_neg (by simp [named]), vol, toVol_val, labelled]
      rw [accepted (fun h => absurd (named.symm.trans h) (by decide)) fun _ => ⟨x, labelled, above⟩, runStartAccept_eq r tag vol, target, named]
      rfl
  · refine ⟨fun l x rest queue vol others new => ?_, fun l x rest y queue vol others named found => ?_, fun x none active vol runs => ?_, fun none idle => ?_⟩
    · rw [exec_runCancel_of_queued r tag safe queue vol others, releaseQueued, if_pos new]
    · have target : ((s.setDs { s.ds with queue := l ++ rest }).snapVol x.volume).snaps.find? (·.replTarget) = some y := vol ▸ found
      rw [exec_runCancel_of_queued r tag safe queue vol others, releaseQueued, if_neg (by simp [named]), releaseTarget, target, vol]
      rfl
    · rw [exec_runCancel_of_none r tag safe none, if_pos]
      simp [State.runsOn, active, vol, runs]
    · rw [exec_runCancel_of_none r tag safe none, if_neg]
      rw [State.runsOn]
      split
      · rename_i x run
        rcases idle x run with other | ended <;> simp [*]
      · exact Bool.false_ne_true
  · refine ⟨fun look => ?_, exec_runDequeue_of_waits, fun x rest z base w look queue idle up strap clear new hbase hz hw => ?_,
      fun z i m base active unset peer remote up room adopted hbase => ?_, fun x rest y base i m look queue idle up strap clear named found peer remote room hbase => ?_⟩
    · simp [exec, execRunDequeue, look]
    · have now : w = started x rest s := by
        rw [hw, hz, hbase, started, QueuedRun.start, new]
        rfl
      rw [exec_runDequeue_of_starts look queue idle up strap clear, startRun_of_new new, now]
      refine ⟨fun st refused => congrArg Host.Outcome.next (askSnapshot_started.1 st refused), fun passed => ⟨fun filling => ?_, fun none => ?_⟩⟩
      · rw [askSnapshot_started.2 passed, if_pos ((anyFilling_iff s x.volume).2 filling)]
      · rw [askSnapshot_started.2 passed, if_neg (by rw [anyFilling_eq_false none]; decide)]
    · rw [sendOffer_eq active (State.peerFor_of (.inr ⟨unset, i, m, peer, remote, rfl⟩)) up room, State.runBase_of_new adopted, hbase]
      rfl
    · refine ⟨{ x.start s.ds.nextRunId base with
          target := some y.epoch
          peer := some ⟨(s.lc.peers[(Fin.ofNat 4 i : Ctx)]).address, (s.lc.peers[(Fin.ofNat 4 i : Ctx)]).id, m⟩ },
        rfl, rfl, rfl, rfl, rfl, rfl, rfl, rfl, rfl, rfl, rfl, rfl, ?_⟩
      have based : base = if x.full then 0 else s.baseEpoch x.volume := hbase
      rw [exec_runDequeue_of_starts look queue idle up strap clear, startRun_of_named named found]
      refine congrArg Host.Outcome.next ?_
      obtain ⟨z, hz⟩ : ∃ z, z = { x.start s.ds.nextRunId base with target := some y.epoch } := ⟨_, rfl⟩
      have target : runTarget y.epoch (started x rest s) = sendOffer ((started x rest s).setActive z) := by rw [hz, based]; rfl
      have run : ((started x rest s).setActive z).runBase z = base := by
        rw [State.runBase_of_new (by rw [hz]; rfl), based, hz]
        rfl
      have copy : ((started x rest s).setActive z).peerFor z = some ⟨(s.lc.peers[(Fin.ofNat 4 i : Ctx)]).address, (s.lc.peers[(Fin.ofNat 4 i : Ctx)]).id, m⟩ :=
        State.peerFor_of (.inr (by rw [hz]; exact ⟨rfl, i, m, peer, remote, rfl⟩))
      rw [target, sendOffer_eq rfl copy up room, run, hz]
      rfl
end Sys2Proof.Machine
end

section
/-! The delta scan and its batches (6.4, 6.5). -/
namespace Sys2Proof.Machine

/-! ### What a record is to the scan (R118) -/

theorem Extent.isPayload_iff {e : Extent} {b t : Nat} : e.isPayload b t = true ↔ b < e.birth ∧ e.birth ≤ t ∧ ∀ d, e.death = some d → t < d := by
  rw [Extent.isPayload]
  cases e.death <;> simp [and_assoc]

theorem Extent.isDeletion_iff {e : Extent} {b t : Nat} : e.isDeletion b t = true ↔ e.birth ≤ b ∧ ∃ d, e.death = some d ∧ b < d ∧ d ≤ t := by
  rw [Extent.isDeletion]
  cases e.death <;> simp

theorem Batch.isFull_iff {b : Batch} : b.isFull = true ↔ 32 ≤ b.payload.length ∨ 128 ≤ b.deletions.length ∨ 8192 ≤ b.kib := by
  simp only [Batch.isFull, Bool.or_eq_true, decide_eq_true_eq, or_assoc]
  rfl

/-! ### The assembly batch (R120) -/

theorem setAssembly_of_full {b : Batch} {s : State} (full : b.isFull = true) : setAssembly b s = closeAssembly (s.setDs { s.ds with assembly := b }) := by
  simp only [setAssembly, full, if_true]

theorem setAssembly_of_room {b : Batch} {s : State} (room : ¬b.isFull = true) : setAssembly b s = s.setDs { s.ds with assembly := b } := by
  rw [setAssembly]
  exact if_neg room

theorem addPayload_of_fits {v : Vol} {e : PayloadEntry} {s : State} (fits : s.ds.assembly.kib + e.len * (s.vol v).defn.blockKiB ≤ 8192) :
    addPayload v e s = setAssembly { s.ds.assembly with
      payload := s.ds.assembly.payload ++ [e], kib := s.ds.assembly.kib + e.len * (s.vol v).defn.blockKiB } (s.setDs { s.ds with rest := none }) := by
  rw [addPayload]
  exact if_pos fits

/-- An entry that would pass 8,192 KiB is sliced at `n` blocks, and its batch closes. -/
theorem addPayload_of_sliced {v : Vol} {e : PayloadEntry} {s : State} {n : Nat} (size : 0 < (s.vol v).defn.blockKiB)
    (passes : 8192 < s.ds.assembly.kib + e.len * (s.vol v).defn.blockKiB) (exact_ : s.ds.assembly.kib + n * (s.vol v).defn.blockKiB = 8192) :
    addPayload v e s = closeAssembly (s.setDs { s.ds with
      rest := some { e with first := e.first + n, len := e.len - n, offset := e.offset + n }
      assembly := { s.ds.assembly with payload := s.ds.assembly.payload ++ [{ e with len := n }], kib := 8192 } }) := by
  have count : (8192 - s.ds.assembly.kib) / (s.vol v).defn.blockKiB = n := by
    rw [← exact_, Nat.add_sub_cancel_left, Nat.mul_div_cancel _ size]
  have sliced : addPayload v e s = setAssembly (s.ds.assembly.withEntry { e with len := n } (s.chargeOf v n))
      (s.setDs { s.ds with rest := some { e with first := e.first + n, len := e.len - n, offset := e.offset + n } }) := by
    rw [← count, addPayload]
    exact if_neg (Nat.not_le.2 passes)
  have batch : s.ds.assembly.withEntry { e with len := n } (s.chargeOf v n) =
      { s.ds.assembly with payload := s.ds.assembly.payload ++ [{ e with len := n }], kib := 8192 } := by
    rw [Batch.withEntry, State.chargeOf, exact_]
  rw [sliced, batch, setAssembly_of_full (Batch.isFull_iff.2 (.inr (.inr (le_refl 8192))))]
  rfl

theorem closeAssembly_eq {s : State} {x : OutRun} (active : s.ds.active = some x) : closeAssembly s = s.setDs (if s.ds.holding = none then
    { s.ds with assembly := .empty, active := some { x with nextSeq := x.nextSeq + 1 }, holding := some { s.ds.assembly with seq := x.nextSeq, stage := .held } }
    else { s.ds with assembly := .empty, active := some { x with nextSeq := x.nextSeq + 1 }, closed := some { s.ds.assembly with seq := x.nextSeq, stage := .held } }) := by
  simp only [closeAssembly, active, Option.isNone_iff_eq_none]

/-! ### The end of the walk (R120, R129) -/

theorem Ds.allEntered_iff {d : Ds} : d.allEntered = true ↔ d.scanning = none ∧ d.rest = none ∧ d.assembly.payload = [] ∧ d.assembly.deletions = [] ∧
    d.closed = none ∧ d.holding = none := by
  simp [Ds.allEntered, and_assoc]

theorem checkDrained_of_waits {s : State} (waits : ¬s.ds.allEntered = true) : checkDrained s = s := by
  rw [checkDrained]
  split
  · exact if_neg fun h => waits h.2
  · rfl

/-- A batch that has closed has not entered the outstanding list. -/
theorem closeAssembly_waits {s : State} {x : OutRun} (active : s.ds.active = some x) : ¬(closeAssembly s).ds.allEntered = true := by
  rw [closeAssembly_eq active, State.setDs_ds, Ds.allEntered_iff]
  rintro ⟨-, -, -, -, closed, holding⟩
  split at closed
  · rename_i free
    rw [if_pos free] at holding
    exact Option.some_ne_none _ holding
  · exact Option.some_ne_none _ closed

section
variable {s : State} {x : OutRun} (active : s.ds.active = some x) (ships : x.state = .shipping) (entered : s.ds.allEntered = true)
include active ships entered

theorem checkDrained_of_outstanding (out : s.ds.outstanding ≠ []) : checkDrained s = s.setActive { x with state := .draining } := by
  simp only [checkDrained, active, ships, entered, and_self, if_true, if_isEmpty, out, if_false]

theorem checkDrained_of_landed (landed : s.ds.outstanding = []) : checkDrained s = startClosing s := by
  simp only [checkDrained, active, ships, entered, and_self, if_true, landed, List.isEmpty_nil]

end

theorem sendClose_eq {s : State} {z : OutRun} {p : PeerCopy} {t : Nat} (active : s.ds.active = some z) (peer : z.peer = some p) (target : z.target = some t)
    (up : s.lc.up = true) (room : s.lc.control.length < 16) : sendClose s = s.setLc { s.lc with
      control := s.lc.control ++ [⟨p.address, .close, .forward, z.runId, z.volume.val, p.remote, z.nextSeq - 1, z.digest.toNat, le 4 t⟩] } := by
  simp only [sendClose, active, target, Option.getD_some]
  exact handRunControl_of_room _ _ _ _ active (State.peerFor_of (.inl peer)) up room

/-- The run moves to CLOSING and its first CLOSE goes to its peer. -/
theorem startClosing_eq {s : State} {x : OutRun} {p : PeerCopy} {t : Nat} (active : s.ds.active = some x) (target : x.target = some t)
    (peer : x.peer = some p) (up : s.lc.up = true) (room : s.lc.control.length < 16) :
    startClosing s = (s.setDs { s.ds with active := some { x with state := .closing, resends := 0, exchange := none } }).setLc { s.lc with
      control := s.lc.control ++ [⟨p.address, .close, .forward, x.runId, x.volume.val, p.remote, x.nextSeq - 1, x.digest.toNat, le 4 t⟩] } := by
  have asked : startClosing s = sendClose (s.setActive { x with state := .closing, resends := 0, exchange := none }) := by
    simp only [startClosing, active]
  obtain ⟨z, hz⟩ : ∃ z, z = { x with state := .closing, resends := 0, exchange := none } := ⟨_, rfl⟩
  rw [asked, ← hz, sendClose_eq (s := s.setActive z) (z := z) rfl (by rw [hz]; exact peer) (by rw [hz]; exact target) up room, hz]
  rfl

/-- What a step of the scan leaves when it adds to the assembly batch. -/
theorem setAssembly_cases {b : Batch} {s t u : State} {c : Instr} {full : Batch → Prop} (isFull : b.isFull = true ↔ full b)
    (run : exec c s = .next (setAssembly b t)) (leaves : t.setDs { t.ds with assembly := b } = u) :
    (¬full b → exec c s = .next u) ∧ (full b → exec c s = .next (closeAssembly u)) :=
  ⟨fun room => by rw [run, setAssembly_of_room (mt isFull.1 room), leaves], fun whole => by rw [run, setAssembly_of_full (isFull.2 whole), leaves]⟩

/-- Settles O46, by what a record is to the scan, what is added to the assembly batch, and what the end of the walk leaves. -/
theorem deltaScanFillsBatches : Obligations.DeltaScanFillsBatches := by
  unfold Obligations.DeltaScanFillsBatches
  refine ⟨fun s x b active hb => ?_, fun s x cursor target full active scanning htarget hfull => ⟨fun closed => ?_, fun closed => ⟨fun e b q rest next hq => ?_, fun e b q rest hq => ?_, fun rest next => ?_⟩⟩⟩
  · rw [hb, closeAssembly_eq active]
  · obtain ⟨c, some⟩ := Option.ne_none_iff_exists'.1 closed
    simp only [exec, execDeltaScanStep, active, scanning, some]
  all_goals have run : exec .deltaScanStep s = .next (scanStep x cursor s) := by simp only [exec, execDeltaScanStep, active, scanning, closed]
  all_goals have isFull : ∀ b : Batch, b.isFull = true ↔ full b := fun b => by rw [hfull, Batch.isFull_iff]
  · obtain ⟨t, ht⟩ : ∃ t, t = s.setDs { s.ds with scanning := some (e.first + e.len) } := ⟨_, rfl⟩
    have step : scanStep x cursor s = if e.isPayload x.base target then addPayload x.volume e.entry t
        else if e.isDeletion x.base target then addDeletion e.run t else t := by
      simp only [scanStep, rest, next, htarget, Option.getD_some, ht]
      rfl
    refine ⟨fun above reached lives fits hb => ⟨_, rfl, ?_⟩, fun n above reached lives size passes whole => ?_, fun below dies hb => ⟨_, rfl, ?_⟩, fun other => ?_⟩
    · have added : addPayload x.volume e.entry t = setAssembly b (t.setDs { t.ds with rest := none }) := by
        rw [addPayload_of_fits (s := t) (by rw [ht]; exact hq ▸ fits), hb, hq, ht]
        rfl
      have cleared : s.ds = { s.ds with rest := none } := by rw [← rest]
      exact setAssembly_cases (isFull b) (run.trans (by rw [step, if_pos (Extent.isPayload_iff.2 ⟨above, reached, lives⟩), added]))
        (by rw [ht, cleared]; rfl)
    · rw [run, step, if_pos (Extent.isPayload_iff.2 ⟨above, reached, lives⟩),
        addPayload_of_sliced (n := n) (by rw [ht]; exact size) (by rw [ht]; exact hq ▸ passes) (by rw [ht]; exact whole), ht]
      rfl
    · have notPayload : ¬e.isPayload x.base target = true := fun h => by
        have := (Extent.isPayload_iff.1 h).1
        omega
      have added : addDeletion e.run t = setAssembly b t := by rw [hb, ht]; rfl
      exact setAssembly_cases (isFull b) (run.trans (by rw [step, if_neg notPayload, if_pos (Extent.isDeletion_iff.2 ⟨below, dies⟩), added]))
        (by rw [ht]; rfl)
    · rw [run, step, if_neg, if_neg, ht]
      · rw [Extent.isDeletion_iff]
        rintro ⟨below, d, dies, after, reached⟩
        rcases other with early | ⟨-, all⟩ | ⟨d', dies', above, -⟩
        · omega
        · have := all d dies
          omega
        · omega
      · rw [Extent.isPayload_iff]
        rintro ⟨above, reached, lives⟩
        rcases other with early | ⟨below, -⟩ | ⟨d, dies, -, late⟩
        · omega
        · omega
        · have := lives d dies
          omega
  · have step : scanStep x cursor s = addPayload x.volume e s := by simp only [scanStep, rest]
    refine ⟨fun fits hb => ⟨_, rfl, ?_⟩, fun n size passes whole => ?_⟩
    · exact setAssembly_cases (isFull b) (run.trans (by rw [step, addPayload_of_fits (hq ▸ fits), ← hq, ← hb])) rfl
    · rw [run, step, addPayload_of_sliced size (hq ▸ passes) whole]
  · have step : scanStep x cursor s = endScan s := by simp only [scanStep, rest, next]
    have ended : endScan s = checkDrained (if s.ds.assembly.payload = [] ∧ s.ds.assembly.deletions = [] then s.setDs { s.ds with scanning := none }
        else closeAssembly (s.setDs { s.ds with scanning := none })) := by
      simp only [endScan, List.isEmpty_iff]
    refine ⟨fun pay dels holding out ships => ?_, fun p pay dels holding out ships peer up room => ?_, fun some => ?_⟩
    · have entered : (s.setDs { s.ds with scanning := none }).ds.allEntered = true := Ds.allEntered_iff.2 ⟨rfl, rest, pay, dels, closed, holding⟩
      rw [run, step, ended, if_pos ⟨pay, dels⟩, checkDrained_of_outstanding (s := s.setDs { s.ds with scanning := none }) active ships entered out]
      rfl
    · have entered : (s.setDs { s.ds with scanning := none }).ds.allEntered = true := Ds.allEntered_iff.2 ⟨rfl, rest, pay, dels, closed, holding⟩
      rw [run, step, ended, if_pos ⟨pay, dels⟩, checkDrained_of_landed (s := s.setDs { s.ds with scanning := none }) active ships entered out,
        startClosing_eq (s := s.setDs { s.ds with scanning := none }) active htarget peer up room]
      rfl
    · rw [run, step, ended, if_neg (by rintro ⟨pay, dels⟩; rcases some with h | h <;> contradiction),
        checkDrained_of_waits (closeAssembly_waits (s := s.setDs { s.ds with scanning := none }) active)]
end Sys2Proof.Machine
end

section
/-! Batches are sent in pieces (5.4, 5.5, 6.5): the request of a SHIP unit, its grant, its payload and its completion. -/
namespace Sys2Proof.Machine

/-! ### Batch frames handed over (R166) -/

/-- A batch frame takes its place behind those that wait, and the first of them enters an empty slot. -/
theorem handBatch_of_empty {s : State} {f g : OutFrame} {rest : List OutFrame} (up : s.lc.up = true) (slot : s.lc.slot = none)
    (next : s.ds.handover ++ [f] = g :: rest) : handBatch f s = (s.setDs { s.ds with handover := rest }).setLc { s.lc with slot := some g } := by
  simp only [handBatch, pumpSlot, State.setDs_lc, State.setDs_ds, up, slot, next, if_true]
  rfl

theorem handBatch_of_taken {s : State} {f : OutFrame} (up : s.lc.up = true) (slot : s.lc.slot ≠ none) :
    handBatch f s = s.setDs { s.ds with handover := s.ds.handover ++ [f] } := by
  obtain ⟨g, taken⟩ := Option.ne_none_iff_exists'.1 slot
  simp only [handBatch, pumpSlot, State.setDs_lc, up, taken, if_true]

theorem handHead_of_empty {s : State} {x : OutRun} {p : PeerCopy} (b : Batch) (active : s.ds.active = some x) (peer : x.peer = some p) (up : s.lc.up = true)
    (slot : s.lc.slot = none) (first : s.ds.handover = []) : handHead b s = s.setLc { s.lc with slot := some ⟨p.address, .batchHead, .forward, x.runId,
      x.volume.val, p.remote, b.seq, b.payload.length + 65536 * b.deletions.length, b.payload.flatMap entryBytes ++ b.deletions.flatMap runBytes⟩ } := by
  simp only [handHead, active, peer]
  rw [handBatch_of_empty up slot (g := runFrame x p .batchHead b.seq (headArg b.payload b.deletions) (headPayload b.payload b.deletions)) (rest := [])
    (by rw [first]; rfl), ← first]
  rfl

/-- A run that is not SHIPPING, or that has a batch to enter, stays as it is. -/
theorem checkDrained_of_open {s : State} {x : OutRun} (active : s.ds.active = some x) (stays : x.state ≠ .shipping ∨ ¬s.ds.allEntered = true) :
    checkDrained s = s := by
  simp only [checkDrained, active]
  refine if_neg fun ⟨ships, entered⟩ => ?_
  rcases stays with h | h
  · exact h ships
  · exact h entered

/-! ### The grant of a SHIP unit (R121, R127) -/

theorem shipGranted_of_held {s : State} {b : Batch} (held : s.ds.holding = some b) : shipGranted b.seq s = checkDrained (handHead b (s.setDs { s.ds with
    outstanding := s.ds.outstanding ++ [{ b with stage := .sending }], holding := s.ds.closed.map fun y => { y with stage := .held }, closed := none })) := by
  simp only [shipGranted, held, if_true]

theorem shipGranted_of_resend {s : State} {b : Batch} {x : OutRun} (mem : b ∈ s.ds.outstanding) (only : ∀ y ∈ s.ds.outstanding, y.seq = b.seq → y = b)
    (other : ∀ h, s.ds.holding = some h → h.seq ≠ b.seq) (active : s.ds.active = some x) : shipGranted b.seq s = handHead b (s.setDs { s.ds with
      outstanding := s.ds.outstanding.map fun y => if y.seq = b.seq then { y with stage := .sending } else y
      active := some { x with batchResends := x.batchResends + 1 } }) := by
  have found : s.ds.outstanding.find? (fun y => decide (y.seq = b.seq)) = some b := by
    cases search : s.ds.outstanding.find? (fun y => decide (y.seq = b.seq)) with
    | none => simpa using List.find?_eq_none.1 search b mem
    | some y => rw [only y (List.mem_of_find?_eq_some search) (by simpa using List.find?_some search)]
  have again : shipGranted.resend b.seq s = handHead b (s.setDs { s.ds with
      outstanding := s.ds.outstanding.map fun y => if y.seq = b.seq then { y with stage := .sending } else y
      active := some { x with batchResends := x.batchResends + 1 } }) := by
    simp only [shipGranted.resend, found, active]
    rfl
  rw [← again, shipGranted]
  split
  · rename_i h held
    exact if_neg (other h held)
  · rfl

/-! ### Asking for the unit -/

theorem runsLen_batch (b : Batch) : runsLen b.runs = (b.payload.map PayloadEntry.len).sum := by
  simp [runsLen, Batch.runs, Function.comp_def]

theorem askShip_of_idle {s : State} {v : Vol} {b : Batch} (healthy : s.faulted .ship = false) (idle : s.dm.engine = none) (none : s.dm.waiting = []) :
    askShip v b s = shipGranted b.seq (s.setDm { s.dm with engine := some (shipUnit v b), pointer := .ship }) := by
  have asked : askUnit (shipUnit v b) s = some (startUnit (shipUnit v b) s) := by
    have healthy' : s.faulted (shipUnit v b).cls = false := healthy
    simp [askUnit, healthy', idle, none]
  simp only [askShip, asked]
  rfl

theorem askShip_of_busy {s : State} {v : Vol} {b : Batch} (healthy : s.faulted .ship = false) (busy : s.dm.engine ≠ none ∨ s.dm.waiting ≠ []) :
    askShip v b s = s.setDm { s.dm with waiting := s.dm.waiting ++ [shipUnit v b] } := by
  simp only [askShip, askUnit_of_busy (u := shipUnit v b) healthy busy]

theorem State.shipBusy_of_none {s : State} (none : ∀ y ∈ s.dm.units, y.cls ≠ .ship) : s.shipBusy = false := by
  rw [State.shipBusy, Bool.or_eq_false_iff]
  constructor
  · refine List.any_eq_false.2 fun y mem => ?_
    simp [MoverUnit.isOf, none y (List.mem_append_right _ mem)]
  · rw [← Bool.not_eq_true, State.holdsEngine_iff]
    rintro ⟨u, engine, ship, -⟩
    exact none u (List.mem_append_left _ (by simp [engine])) ship

theorem exec_batchTransmitStart_of_ready {s : State} {x : OutRun} {b : Batch} (active : s.ds.active = some x) (held : s.ds.holding = some b)
    (few : s.ds.outstanding.length < 8) (calm : ∀ y ∈ s.ds.outstanding, y.stage ≠ .sending ∧ y.stage ≠ .pendingResend) (waits : s.ds.busyWait = false)
    (credits : (24 + (32 * b.payload.length + 8 * b.deletions.length) + 4095) / 4096 ≤ s.ds.bucket) (idle : s.shipBusy = false) :
    exec .batchTransmitStart s = .next (askShip x.volume b s) := by
  have quiet : (s.ds.outstanding.any fun b => decide (b.stage = .sending) || decide (b.stage = .pendingResend)) = false :=
    List.any_eq_false.2 fun y mem => by simp [calm y mem]
  have may : s.heldMaySend b = true := by
    simp only [State.heldMaySend, quiet, waits, idle, Batch.headCredits, frameCredits, Config.maxOutstanding, few, credits, decide_true, Bool.not_false, Bool.and_self]
  simp only [exec, execBatchTransmitStart, active, held, may, if_true]

theorem exec_resendStart_of_ready {s : State} {x : OutRun} {b : Batch} (active : s.ds.active = some x)
    (next : s.ds.outstanding.find? (fun y => decide (y.stage = .pendingResend)) = some b) (calm : ∀ y ∈ s.ds.outstanding, y.stage ≠ .sending)
    (waits : s.ds.busyWait = false) (credits : (24 + (32 * b.payload.length + 8 * b.deletions.length) + 4095) / 4096 ≤ s.ds.bucket) (idle : s.shipBusy = false) :
    exec .resendStart s = .next (askShip x.volume b s) := by
  have quiet : s.ds.sendingAny = false := List.any_eq_false.2 fun y mem => by simp [calm y mem]
  have may : s.mayResend b = true := by
    simp only [State.mayResend, quiet, waits, idle, Batch.headCredits, frameCredits, credits, decide_true, Bool.not_false, Bool.and_self]
  have found : s.ds.nextResend = some b := next
  simp only [exec, execResendStart, active, found, may, if_true]

/-! ### Pieces and the completion (R100, R122) -/

theorem moveSegment_to_link {g : Segment} {s : State} (link : g.dest = .link) : moveSegment g s = s := by
  simp [moveSegment, moveAccesses, Segment.writes, link]

theorem exec_unitComplete_of_ship {s : State} {u : MoverUnit} (engine : s.dm.engine = some u) (ship : u.cls = .ship) (link : u.seg1.dest = .link)
    (first : u.second = false) (only : u.seg2.blocks = 0) : exec .unitComplete s = .next (if 4096 * (u.seg1.reads s).length ≤ u.handed then
      grantNext (shipComplete u (s.setDm { s.dm with engine := none })) else s) := by
  have last : u.onLast = true := by simp [MoverUnit.onLast, only]
  have done : u.shipDone s = true ↔ 4096 * (u.seg1.reads s).length ≤ u.handed := by
    rw [MoverUnit.shipDone, Bool.or_eq_true, decide_eq_true_eq, decide_eq_true_eq]
    exact or_iff_right fun other => other ship
  have current : moveSegment u.current s = s := moveSegment_to_link (by simp [MoverUnit.current, first, link])
  simp only [exec, execUnitComplete, engine, last, done, true_and, current, tellComplete, ship]
  split <;> rfl

theorem shipComplete_of_kept {s : State} {u : MoverUnit} {x : OutRun} {p : PeerCopy} (keeps : u.discard = false) (active : s.ds.active = some x)
    (peer : x.peer = some p) : shipComplete u (s.setDm { s.dm with engine := none }) =
      handBatch ⟨p.address, .batchEnd, .forward, x.runId, x.volume.val, p.remote, u.seq, u.digest.toNat, []⟩ ((s.setDm { s.dm with engine := none }).setDs { s.ds with
        outstanding := s.ds.outstanding.map fun y => if y.seq = u.seq then { y with stage := .awaiting, digest := some u.digest, timer := none } else y }) := by
  rw [shipComplete, if_neg (by simp [keeps])]
  simp only [handEnd, State.setDs_ds, State.setDm_ds, active, peer]
  rfl

/-- Settles O47: whatever way a batch comes to ask, its grant leaves `sent` (the claim `granted`), and its unit is handed over in pieces and completes. -/
theorem batchesAreSentInPieces : Obligations.BatchesAreSentInPieces := by
  unfold Obligations.BatchesAreSentInPieces
  refine ⟨fun s x p b unit head c sent active peer up slot waits hunit hhead starts => ?_, fun s u x p bs engine ship left hbs active peer => ?_,
    fun s u engine ship link first only => ?_⟩
  · have isUnit : unit = shipUnit x.volume b := by rw [hunit, shipUnit, runsLen_batch]; rfl
    have granted : ∀ m, shipGranted b.seq (s.setDm m) = sent m := by
      intro m
      rcases starts with ⟨-, held, -, -, rest, hsent⟩ | ⟨-, held, -, -, scanned, sliced, pay, dels, closed, ships, hsent⟩ | ⟨-, next, -, only, other, hsent⟩
      · rw [shipGranted_of_held (s := s.setDm m) held, hsent, hhead]
        refine (congrArg checkDrained (handHead_of_empty b ?_ peer ?_ ?_ ?_)).trans (checkDrained_of_open (x := x) ?_ ?_)
        · exact active
        · exact up
        · exact slot
        · exact waits
        · exact active
        rw [← or_assoc, ← or_assoc, ← or_assoc, ← or_assoc] at rest
        refine rest.symm.imp id fun some entered => ?_
        obtain ⟨scanned, sliced, pay, dels, -, holding⟩ := Ds.allEntered_iff.1 entered
        rcases some with (((h | h) | h) | h) | h
        · exact h scanned
        · exact h sliced
        · exact h pay
        · exact h dels
        · exact h (Option.map_eq_none_iff.1 holding)
      · rw [shipGranted_of_held (s := s.setDm m) held, hsent, hhead]
        refine (congrArg checkDrained (handHead_of_empty b ?_ peer ?_ ?_ ?_)).trans ((checkDrained_of_outstanding (x := x) ?_ ships ?_ ?_).trans ?_)
        · exact active
        · exact up
        · exact slot
        · exact waits
        · exact active
        · exact Ds.allEntered_iff.2 ⟨scanned, sliced, pay, dels, rfl, by simp [closed]⟩
        · exact List.append_ne_nil_of_right_ne_nil _ (List.cons_ne_nil _ _)
        · have empty : (s.ds.closed.map fun y => { y with stage := .held }) = Option.none := by rw [closed]; rfl
          simp only [State.setActive, State.setLc_ds, State.setDs_ds, State.setDm_ds, empty]
          rw [← closed]
          rfl
      · rw [shipGranted_of_resend (s := s.setDm m) (List.mem_of_find?_eq_some next) only other active, hsent, hhead]
        exact handHead_of_empty (x := { x with batchResends := x.batchResends + 1 }) b rfl peer up slot waits
    have ready : s.ds.busyWait = false → (24 + (32 * b.payload.length + 8 * b.deletions.length) + 4095) / 4096 ≤ s.ds.bucket → s.shipBusy = false →
        exec c s = .next (askShip x.volume b s) := by
      intro calm credits free
      rcases starts with ⟨rfl, held, few, quiet, -⟩ | ⟨rfl, held, few, quiet, -⟩ | ⟨rfl, next, quiet, -⟩
      · exact exec_batchTransmitStart_of_ready active held few quiet calm credits free
      · exact exec_batchTransmitStart_of_ready active held few quiet calm credits free
      · exact exec_resendStart_of_ready active next quiet calm credits free
    refine ⟨fun idle next => ?_, fun healthy calm credits => ⟨fun idle none => ?_, fun busy none => ?_⟩⟩
    · rw [grantNext_of_next idle next, isUnit]
      exact granted _
    · rw [ready calm credits (State.shipBusy_of_none (by simp [Dm.units, idle, none])), askShip_of_idle healthy idle none, granted, isUnit]
    · rw [ready calm credits (State.shipBusy_of_none none), askShip_of_busy healthy busy, isUnit]
  · have bytes : u.piece s = bs := hbs.symm
    have wide : u.handed < u.shipBytes s := left
    refine ⟨fun sends up slot waits => ?_, fun drops => ?_, fun sends up busy => ?_⟩
    · have keep : (u.discard || !s.lc.up) = false := by rw [sends, up]; rfl
      have free : s.lc.slot.isNone = true ∧ s.ds.handover.isEmpty = true := by rw [slot, waits]; exact ⟨rfl, rfl⟩
      simp only [exec, execShipPieceHandover, engine, ship, wide, and_self, if_true, keep, Bool.false_eq_true, if_false, free, bytes, slotPiece, active, peer, setUnit]
      rw [← ship]
      rfl
    · have drop : (u.discard || !s.lc.up) = true := by rcases drops with h | h <;> simp [h]
      simp only [exec, execShipPieceHandover, engine, ship, wide, and_self, if_true, drop, bytes, setUnit]
      rw [← ship]
      rfl
    · have taken : ¬(s.lc.slot.isNone ∧ s.ds.handover.isEmpty = true) := by
        rw [Option.isNone_iff_eq_none, List.isEmpty_iff]
        tauto
      simp only [exec, execShipPieceHandover, engine, ship, wide, and_self, if_true, sends, up, Bool.not_true, Bool.or_self, Bool.false_eq_true, if_false, taken]
  · rw [exec_unitComplete_of_ship engine ship link first only]
    refine ⟨fun left => by rw [if_neg (Nat.not_le.2 left)], fun done => ⟨fun drop => ?_, fun x p f out keeps active peer up hf hout => ⟨fun g rest slot next => ?_, fun slot => ?_⟩⟩⟩
    · rw [if_pos done, shipComplete, if_pos drop]
    · rw [if_pos done, shipComplete_of_kept keeps active peer, ← hout, ← hf]
      exact congrArg (fun t => Host.Outcome.next (grantNext t)) (handBatch_of_empty up slot next)
    · rw [if_pos done, shipComplete_of_kept keeps active peer, ← hout, ← hf]
      exact congrArg (fun t => Host.Outcome.next (grantNext t)) (handBatch_of_taken up slot)
end Sys2Proof.Machine
end

section
/-! The sender's timers, the calling back of sends, the pacer, and the leaving of frames (6.5 to 6.8, 8.6). -/
namespace Sys2Proof.Machine

/-! ### Frames that are no longer to be sent (R127, R168) -/

theorem pumpSlot_eq {s : State} (flows : s.lc.up = true ∨ s.ds.handover = []) : pumpSlot s =
    (s.setDs { s.ds with handover := if s.lc.slot.isSome then s.ds.handover else s.ds.handover.tail }).setLc
      { s.lc with slot := s.lc.slot.or s.ds.handover.head? } := by
  have kept : ∀ {l o}, s.ds.handover = l → s.lc.slot = o → s = (s.setDs { s.ds with handover := l }).setLc { s.lc with slot := o } := fun h h' => by
    rw [← h, ← h']; rfl
  rw [pumpSlot]
  split
  · split
    · rename_i f rest slot next
      rw [slot, next]
      rfl
    · rename_i other
      cases slot : s.lc.slot with
      | some g => exact kept rfl slot
      | none =>
        cases next : s.ds.handover with
        | cons f rest => exact absurd next (other f rest slot)
        | nil => exact kept next slot
  · rename_i down
    have empty : s.ds.handover = [] := flows.resolve_left down
    rw [empty, List.head?_nil, Option.or_none, List.tail_nil, ite_self]
    rfl

/-- Batch frames with a seq of `p` leave, and the next one behind an emptied slot takes it. -/
theorem dropBatchFrames_eq {s : State} (p : Nat → Bool) (flows : s.lc.up = true ∨ s.ds.handover = []) : dropBatchFrames p s =
    (s.setDs { s.ds with handover := if (s.lc.slot.filter fun f => !p f.seq).isSome then s.ds.handover.filter fun f => !p f.seq
        else (s.ds.handover.filter fun f => !p f.seq).tail }).setLc
      { s.lc with slot := (s.lc.slot.filter fun f => !p f.seq).or (s.ds.handover.filter fun f => !p f.seq).head? } := by
  have cut : dropBatchFrames p s = pumpSlot ((s.setDs { s.ds with handover := s.ds.handover.filter fun f => !p f.seq }).setLc
      { s.lc with slot := s.lc.slot.filter fun f => !p f.seq }) := by
    simp only [dropBatchFrames, State.setDs_lc]
    refine congrArg pumpSlot ?_
    have kept : ∀ {o}, s.lc.slot = o → (s.setDs { s.ds with handover := s.ds.handover.filter fun f => !p f.seq }) =
        (s.setDs { s.ds with handover := s.ds.handover.filter fun f => !p f.seq }).setLc { s.lc with slot := o } := fun h => by rw [← h]; rfl
    cases slot : s.lc.slot with
    | none => exact kept slot
    | some f =>
      cases gone : p f.seq with
      | true =>
        dsimp only
        rw [if_pos gone, show (some f).filter (fun g => !p g.seq) = none by simp [Option.filter, gone]]
      | false =>
        dsimp only
        rw [if_neg (by simp [gone]), show (some f).filter (fun g => !p g.seq) = some f by simp [Option.filter, gone]]
        exact kept slot
  rw [cut, pumpSlot_eq]
  · rfl
  · rcases flows with up | empty
    · exact .inl up
    · exact .inr (by simp [empty])

/-! ### Going back (R127, R128) -/

theorem Ds.sendingAny_iff {d : Ds} : d.sendingAny = true ↔ ∃ y ∈ d.outstanding, y.stage = .sending := by simp [Ds.sendingAny]

/-- The sends of batch `k` and its followers are called back. -/
theorem pullBack_eq {s : State} {k : Nat} (flows : s.lc.up = true ∨ s.ds.handover = []) : pullBack k s = ((s.setDs { s.ds with
      outstanding := s.ds.outstanding.map (pulledBack k)
      handover := if (s.lc.slot.filter fun f => decide (f.seq < k)).isSome then s.ds.handover.filter fun f => decide (f.seq < k)
        else (s.ds.handover.filter fun f => decide (f.seq < k)).tail }).setLc
    { s.lc with slot := (s.lc.slot.filter fun f => decide (f.seq < k)).or (s.ds.handover.filter fun f => decide (f.seq < k)).head? }).setDm { s.dm with
      waiting := s.dm.waiting.filter fun u => !(decide (u.cls = .ship) && decide (u.num = 0))
      engine := if ∃ y ∈ s.ds.outstanding, y.stage = .sending then s.dm.engine.map fun u => { u with discard := u.discard || decide (u.cls = .ship) }
        else s.dm.engine } := by
  have dropped : (if s.ds.sendingAny then discardShip s else s) = s.setDm { s.dm with
      engine := if ∃ y ∈ s.ds.outstanding, y.stage = .sending then s.dm.engine.map fun u => { u with discard := u.discard || decide (u.cls = .ship) }
        else s.dm.engine } := by
    by_cases sends : ∃ y ∈ s.ds.outstanding, y.stage = .sending
    · have marks : ∀ u : MoverUnit, (if u.cls = .ship then { u with discard := true } else u) = { u with discard := u.discard || decide (u.cls = .ship) } := fun u => by
        by_cases ship : u.cls = .ship <;> simp [ship]
      rw [if_pos (Ds.sendingAny_iff.2 sends), if_pos sends, discardShip_eq]
      simp only [marks]
    · rw [if_neg (mt Ds.sendingAny_iff.1 sends), if_neg sends]
      rfl
  have below : ∀ f : OutFrame, (!decide (k ≤ f.seq)) = decide (f.seq < k) := fun f => by rw [← decide_not, decide_eq_decide, Nat.not_le]
  simp only [pullBack, dropped]
  refine (congrArg (withdraw .ship 0) (dropBatchFrames_eq _ ?_)).trans ?_
  · exact flows
  · simp only [below]
    rfl

theorem map_pulledBack_resent (k : Nat) (l : List Batch) : ((l.map (pulledBack k)).map fun y => if y.seq = k then { y with resends := y.resends + 1 } else y) =
    l.map fun y => { y with
      stage := if y.stage = .sending ∨ (k ≤ y.seq ∧ y.stage = .awaiting) then .pendingResend else y.stage
      timer := if y.stage = .sending ∨ (k ≤ y.seq ∧ y.stage = .awaiting) then none else y.timer
      resends := if y.seq = k then y.resends + 1 else y.resends } := by
  rw [List.map_map]
  refine List.map_congr_left fun y _ => ?_
  simp only [Function.comp_apply, pulledBack]
  by_cases back : y.stage = .sending ∨ (k ≤ y.seq ∧ y.stage = .awaiting)
  · simp only [if_pos back]
    split <;> rfl
  · simp only [if_neg back]
    split <;> rfl

theorem goBack_of_limit {s : State} {k : Nat} {b : Batch} (found : s.ds.outstanding.find? (fun y => decide (y.seq = k)) = some b) (limit : 3 ≤ b.resends) :
    goBack k s = endRun 0x24 0 true s := by
  have batch : s.ds.batch k = some b := found
  simp only [goBack, batch, limit, if_true]
  rfl

theorem goBack_of_again {s : State} {k : Nat} {b : Batch} (found : s.ds.outstanding.find? (fun y => decide (y.seq = k)) = some b) (again : b.resends < 3) :
    goBack k s = (pullBack k s).setDs { (pullBack k s).ds with
      outstanding := (pullBack k s).ds.outstanding.map fun y => if y.seq = k then { y with resends := y.resends + 1 } else y, busyWait := false } := by
  have batch : s.ds.batch k = some b := found
  simp only [goBack, batch, if_neg (Nat.not_le.2 again)]
  rfl

/-! ### The leaving of frames (R162, R167) -/

theorem exec_frameTransmit_of_control {s : State} {f : OutFrame} {rest : List OutFrame} (up : s.lc.up = true) (control : s.lc.control = f :: rest) :
    exec .frameTransmit s = .next (controlLeft f (s.setLc { s.lc with
      control := rest, wire := some ⟨true, f.dest, s.lc.station, s.lc.etherType, padded (frameBytes s.lc.localId f)⟩ })) := by
  change execFrameTransmit s = .next (controlLeft f (putOnWire f (s.setLc { s.lc with control := rest })))
  rw [execFrameTransmit, if_pos up, control]

theorem exec_frameTransmit_of_slot {s : State} {f : OutFrame} (up : s.lc.up = true) (none : s.lc.control = []) (slot : s.lc.slot = some f) :
    exec .frameTransmit s = .next (if frameCredits f.payload.length ≤ s.ds.bucket then pumpSlot (batchLeft f
      ((s.setDs { s.ds with bucket := s.ds.bucket - frameCredits f.payload.length }).setLc { s.lc with
        slot := Option.none, wire := some ⟨true, f.dest, s.lc.station, s.lc.etherType, padded (frameBytes s.lc.localId f)⟩ })) else s) := by
  change execFrameTransmit s = _
  rw [execFrameTransmit, if_pos up, none, slot]
  dsimp only
  split <;> rfl

theorem batchLeft_of_other {s : State} {f : OutFrame} (other : f.kind ≠ .batchEnd) : batchLeft f s = s := by
  rw [batchLeft]
  split
  · exact if_neg fun h => other h.1
  · rfl

theorem batchLeft_of_end {s : State} {f : OutFrame} {b : Batch} (kind : f.kind = .batchEnd)
    (found : s.ds.outstanding.find? (fun y => decide (y.seq = f.seq)) = some b) (awaits : b.stage = .awaiting) : batchLeft f s = s.setDs { s.ds with
      outstanding := s.ds.outstanding.map fun y => if y.seq = f.seq then { y with timer := some s.ds.settings.receiptTimeout } else y } := by
  have batch : s.ds.batch f.seq = some b := found
  simp only [batchLeft, batch, kind, awaits, and_self, if_true]
  rfl

/-- Settles O48, timer by timer, and by the frame that leaves first (`pumpSlot_eq` says which batch frame takes an emptied slot). -/
theorem timersActAndFramesLeave : Obligations.TimersActAndFramesLeave := by
  unfold Obligations.TimersActAndFramesLeave
  refine ⟨⟨fun bs => rfl, fun s x active => ?_, fun s k b found => ?_, fun s => ⟨rfl, ?_⟩⟩, fun s quiet => ?_, fun s f rest t up control ht => ?_,
    fun s f n up none slot hn => ?_⟩
  · refine ⟨fun stopped => ?_, fun runs limit => ?_, fun p t runs again peer target up room => ?_⟩
    · simp [exec, execExchangeTimerExpiry, active, stopped]
    · simp only [exec, execExchangeTimerExpiry, active, runs, limit, if_true]
      rfl
    · obtain ⟨z, hz⟩ : ∃ z, z = { x with resends := x.resends + 1, exchange := none } := ⟨_, rfl⟩
      have expired : exec .exchangeTimerExpiry s = if x.state = .offering then .next (sendOffer (s.setActive z)) else .next (sendClose (s.setActive z)) := by
        simp only [exec, execExchangeTimerExpiry, active, runs, if_true, if_neg (Nat.not_le.2 again), hz]
      have copy : z.peer = some p := by rw [hz]; exact peer
      refine ⟨fun closing => ?_, fun base offering hbase => ?_⟩
      · rw [expired, if_neg (by rw [closing]; decide), sendClose_eq (s := s.setActive z) (z := z) rfl copy (by rw [hz]; exact target) up room, hz]
        rfl
      · have based : (s.setActive z).runBase z = base := by
          rw [hbase, hz]
          cases x.full <;> cases x.adopted <;> rfl
        rw [expired, if_pos offering, sendOffer_eq (s := s.setActive z) (z := z) rfl (State.peerFor_of (.inl copy)) up room, based, hz]
        simp only [target, peer, Option.getD_some]
        rfl
  · have batch : s.ds.batch k = some b := found
    refine ⟨fun stopped => ?_, fun awaits runs limit => ?_, fun slot kept awaits runs again _ flows hslot hkept => ?_⟩
    · simp only [exec, execReceiptTimerExpiry, batch]
      refine if_neg fun ⟨awaits, runs⟩ => ?_
      rcases stopped with h | h
      · exact h awaits
      · rw [h] at runs
        exact Bool.false_ne_true runs
    · simp only [exec, execReceiptTimerExpiry, batch, awaits, runs, and_self, if_true, goBack_of_limit found limit]
    · simp only [exec, execReceiptTimerExpiry, batch, awaits, runs, and_self, if_true, goBack_of_again found again, pullBack_eq flows, ← hslot, ← hkept]
      refine congrArg (fun l => Host.Outcome.next (((s.setDs { s.ds with
        outstanding := l, handover := if slot.isSome then kept else kept.tail, busyWait := false }).setLc { s.lc with slot := slot.or kept.head? }).setDm _))
          (map_pulledBack_resent k s.ds.outstanding)
  · change execPacerInterval s = _
    by_cases room : s.ds.bucket < 64
    · rw [if_pos room]
      exact if_pos room
    · rw [if_neg room]
      exact if_neg room
  · change execFrameTransmit s = .next s
    rw [execFrameTransmit]
    rcases quiet with down | ⟨control, slot⟩
    · rw [if_neg (by simp [down])]
    · rw [control, slot, ite_self]
  · rw [exec_frameTransmit_of_control up control, ← ht]
    refine ⟨fun other => congrArg Host.Outcome.next ?_, fun x active dir run => ⟨fun kind state => congrArg Host.Outcome.next ?_, fun kind state => congrArg Host.Outcome.next ?_⟩⟩
    · have ds : t.ds = s.ds := by rw [ht]; rfl
      rw [controlLeft, ds]
      split
      · rename_i x active
        rcases other x active with back | run | ⟨offer, close⟩
        · exact if_neg fun h => by simp [back] at h
        · exact if_neg fun h => run h.2
        · simp only [offer, close, false_and, if_false, ite_self]
      · rfl
    · have active' : t.ds.active = some x := by rw [ht]; exact active
      simp only [controlLeft, active', dir, run, kind, state, and_self, if_true]
      rw [State.setActive, ht]
      rfl
    · have active' : t.ds.active = some x := by rw [ht]; exact active
      simp only [controlLeft, active', dir, run, kind, state, and_self, if_true]
      rw [State.setActive, ht]
      rfl
  · rw [exec_frameTransmit_of_slot up none slot]
    have count : frameCredits f.payload.length = n := hn.symm
    rw [count]
    refine ⟨fun short => by rw [if_neg (Nat.not_le.2 short)], fun t credits ht => ⟨fun other => ?_, fun b kind found awaits => ?_⟩⟩
    · rw [if_pos credits, batchLeft_of_other other, pumpSlot_eq, ht]
      · rfl
      · exact .inl up
    · rw [if_pos credits, batchLeft_of_end kind, pumpSlot_eq, ht]
      · rfl
      · exact .inl up
      · exact found
      · exact awaits
end Sys2Proof.Machine
end

section
/-! An outbound run follows its peer's frames (6.3, 6.7, 6.8). -/
namespace Sys2Proof.Machine

/-! ### Frames of the receiving side (R165) -/

theorem State.runOf_of_other {s : State} {p : InFrame} (other : p.header.dir = .forward ∨ ∀ x c, s.ds.active = some x → x.peer = some c →
    s.lc.peers[p.entry].address ≠ c.address ∨ s.lc.peers[p.entry].id ≠ c.id ∨ p.header.runId ≠ x.runId) : s.runOf p = none := by
  rcases other with forward | other
  · exact State.runOf_of_forward forward
  · rw [State.runOf]
    split
    · rename_i x active
      split
      · rename_i c peer
        refine if_neg fun ⟨_, addr, id, run⟩ => ?_
        rcases other x c active peer with h | h | h
        · exact h addr
        · exact h id
        · exact h run
      · rfl
    · rfl

theorem onRunFrame_of_none {s : State} {f : EthFrame} {p : InFrame} (k : FrameKind) (act : OutRun → InFrame → State) (passes : s.arrival f = .pass p)
    (none : s.runOf p = none) : onRunFrame k f act s = s := by
  simp only [onRunFrame, passes, none, ite_self]

/-- A frame of a run acts on it when it is of the kind that acts. -/
theorem onRunFrame_of_run {s : State} {f : EthFrame} {p : InFrame} {x : OutRun} (k : FrameKind) (act : OutRun → InFrame → State) (passes : s.arrival f = .pass p)
    (run : s.runOf p = some x) : onRunFrame k f act s = if p.header.kind = k then act x p else s := by
  simp only [onRunFrame, passes, run]

/-! ### Base adoption (R117) -/

theorem State.mayAdopt_eq_false {s : State} {x : OutRun} {e : Nat}
    (no : x.adopted = true ∨ e = 0 ∨ ∀ y ∈ (s.snapVol x.volume).snaps, y.epoch = e → y.active = false) : s.mayAdopt x e = false := by
  rcases no with adopted | zero | inactive
  · simp [State.mayAdopt, adopted]
  · simp [State.mayAdopt, zero]
  · rw [State.mayAdopt, Bool.and_eq_false_iff]
    refine .inr ?_
    split
    · rename_i y found
      exact inactive y (List.mem_of_find?_eq_some found) (by simpa using List.find?_some found)
    · rfl

theorem State.mayAdopt_of_active {s : State} {x : OutRun} {e : Nat} {y : Snapshot} (new : x.adopted = false) (some_ : e ≠ 0)
    (found : (s.snapVol x.volume).snaps.find? (fun z => decide (z.epoch = e)) = some y) (active : y.active = true) : s.mayAdopt x e = true := by
  have here : s.snapAt x.volume e = some y := found
  simp [State.mayAdopt, new, some_, here, active]

/-- The base of a run after REPL_BASE has moved to the snapshot of epoch `e`. -/
theorem find_moved {l : List Snapshot} {e : Nat} {y : Snapshot} (found : l.find? (fun z => decide (z.epoch = e)) = some y) :
    ((l.map fun z => { z with replBase := decide (z.epoch = e) }).find? (·.replBase)) = some { y with replBase := true } := by
  have epoch : y.epoch = e := by simpa using List.find?_some found
  rw [List.find?_map]
  have same : ((·.replBase) ∘ fun z : Snapshot => { z with replBase := decide (z.epoch = e) }) = fun z => decide (z.epoch = e) := rfl
  rw [same, found, Option.map_some, epoch, decide_eq_true rfl]

/-! ### Receipts (R125, R126) -/

theorem takeReceipt_of_absent {s : State} {k : ReceiptKind} {seq : Nat} (absent : ∀ b ∈ s.ds.outstanding, b.seq ≠ seq) : takeReceipt k seq s = s := by
  have none : s.ds.batch seq = none := List.find?_eq_none.2 fun b mem => by simp [absent b mem]
  simp only [takeReceipt, none]

/-- The batches up to a seq that have landed, and the one of them whose send is under way. -/
def Ds.landedBy (d : Ds) (k : Nat) : List Batch := d.outstanding.filter fun z => decide (z.seq ≤ k)
def Ds.sentBy (d : Ds) (k : Nat) : Option Batch := (d.landedBy k).find? fun z => decide (z.stage = .sending)

/-- What a LANDED receipt leaves before the run may close. -/
def afterLanded (k : Nat) (x : OutRun) (s : State) : State :=
  let bs := s.ds.landedBy k
  let sent := s.ds.sentBy k
  let slot := s.lc.slot.filter fun g => decide (∀ z ∈ sent, g.seq ≠ z.seq)
  let kept := s.ds.handover.filter fun g => decide (∀ z ∈ sent, g.seq ≠ z.seq)
  (((s.setDs { s.ds with
      outstanding := s.ds.outstanding.filter fun z => decide (k < z.seq)
      active := some { x with
        digest := bs.foldl (fun d z => digestAdd d (z.digest.getD (Config.freeDigest s.free))) x.digest
        counts := ⟨x.counts.batches + bs.length, x.counts.kib + (bs.map Batch.kib).sum, x.counts.entries + (bs.map fun z => z.payload.length).sum,
          x.counts.deletions + (bs.map fun z => z.deletions.length).sum⟩ }
      handover := if sent.isSome ∧ slot = none then kept.tail else kept }).setLc
    { s.lc with slot := if sent.isSome then slot.or kept.head? else slot }).setDm { s.dm with
      waiting := if ∃ w ∈ s.dm.waiting, w.cls = .ship ∧ ∃ z ∈ bs, z.seq = w.seq then
          s.dm.waiting.filter fun w => !(decide (w.cls = .ship) && decide (w.num = 0)) else s.dm.waiting
      engine := if sent.isSome then s.dm.engine.map fun w => { w with discard := w.discard || decide (w.cls = .ship) } else s.dm.engine }).setFree
    (if ∀ z ∈ bs, z.digest.isSome then s.free else s.free + 1)

/-- The send of a batch that has landed, when one is under way, is abandoned. -/
def abandonSend (sent : Option Batch) (s : State) : State :=
  match sent with
  | some b => dropBatchFrames (fun q => decide (q = b.seq)) (discardShip s)
  | none => s

theorem abandonSend_eq {s : State} (sent : Option Batch) (flows : sent = none ∨ s.lc.up = true ∨ s.ds.handover = []) :
    abandonSend sent s = ((s.setDs { s.ds with
        handover := if sent.isSome ∧ (s.lc.slot.filter fun g => decide (∀ z ∈ sent, g.seq ≠ z.seq)) = none
          then (s.ds.handover.filter fun g => decide (∀ z ∈ sent, g.seq ≠ z.seq)).tail
          else (s.ds.handover.filter fun g => decide (∀ z ∈ sent, g.seq ≠ z.seq)) }).setLc { s.lc with
        slot := if sent.isSome then (s.lc.slot.filter fun g => decide (∀ z ∈ sent, g.seq ≠ z.seq)).or
            (s.ds.handover.filter fun g => decide (∀ z ∈ sent, g.seq ≠ z.seq)).head?
          else (s.lc.slot.filter fun g => decide (∀ z ∈ sent, g.seq ≠ z.seq)) }).setDm { s.dm with
      engine := if sent.isSome then s.dm.engine.map fun w => { w with discard := w.discard || decide (w.cls = .ship) } else s.dm.engine } := by
  cases sent with
  | none =>
    have all : ∀ g : OutFrame, decide (∀ z ∈ (none : Option Batch), g.seq ≠ z.seq) = true := fun g => by simp
    have same : s.lc.slot.filter (fun _ => true) = s.lc.slot := by cases s.lc.slot <;> rfl
    simp only [all, List.filter_true, Option.isSome_none, Bool.false_eq_true, false_and, if_false, same]
    rfl
  | some b =>
    have marks : ∀ u : MoverUnit, (if u.cls = .ship then { u with discard := true } else u) = { u with discard := u.discard || decide (u.cls = .ship) } := fun u => by
      by_cases ship : u.cls = .ship <;> simp [ship]
    have keeps : ∀ g : OutFrame, decide (∀ z ∈ some b, g.seq ≠ z.seq) = !decide (g.seq = b.seq) := fun g => by simp
    have room : s.lc.up = true ∨ s.ds.handover = [] := flows.resolve_left (Option.some_ne_none b)
    simp only [keeps, Option.isSome_some, true_and, if_true, abandonSend]
    refine (congrArg _ (discardShip_eq s)).trans ((dropBatchFrames_eq _ ?_).trans ?_)
    · exact room
    · simp only [marks, State.setDm_ds, State.setDm_lc]
      cases slot : s.lc.slot.filter fun g => !decide (g.seq = b.seq) <;> rfl

theorem landed_eq {s : State} {x : OutRun} {k : Nat} (active : s.ds.active = some x)
    (flows : s.ds.sentBy k = none ∨ s.lc.up = true ∨ s.ds.handover = []) : landed k s =
      if (s.ds.outstanding.filter fun z => decide (k < z.seq)) = [] ∧ x.state = .draining then startClosing (afterLanded k x s) else afterLanded k x s := by
  have digests : ((s.ds.landedBy k).all fun b => b.digest.isSome) = decide (∀ z ∈ s.ds.landedBy k, z.digest.isSome) := by
    rw [Bool.eq_iff_iff]
    simp
  have waits : (s.dm.waiting.any fun u => decide (u.cls = .ship) && (s.ds.landedBy k).any fun b => decide (b.seq = u.seq)) =
      decide (∃ w ∈ s.dm.waiting, w.cls = .ship ∧ ∃ z ∈ s.ds.landedBy k, z.seq = w.seq) := by
    rw [Bool.eq_iff_iff]
    simp
  have abandoned := abandonSend_eq (s := s) (s.ds.sentBy k) flows
  obtain ⟨t, ht⟩ : ∃ t, t = abandonSend (s.ds.sentBy k) s := ⟨_, rfl⟩
  have inner : landed k s = (fun z : State => if (s.ds.outstanding.filter fun b => decide (k < b.seq)).isEmpty ∧ x.state = .draining then startClosing z else z)
      (let s2 := if t.shipWaitsFor (fun q => (s.ds.landedBy k).any fun b => decide (b.seq = q)) then withdraw .ship 0 t else t
       let s3 := s2.setDs { s2.ds with
        outstanding := s.ds.outstanding.filter fun b => decide (k < b.seq)
        active := some (runLanded s.free (s.ds.landedBy k) x) }
       if (s.ds.landedBy k).all fun b => b.digest.isSome then s3 else s3.setFree (s.free + 1)) := by
    rw [ht]
    simp only [landed, active] <;> rfl
  rw [inner]
  rw [← ht] at abandoned
  have leaves : (let s2 := if t.shipWaitsFor (fun q => (s.ds.landedBy k).any fun b => decide (b.seq = q)) then withdraw .ship 0 t else t
       let s3 := s2.setDs { s2.ds with
        outstanding := s.ds.outstanding.filter fun b => decide (k < b.seq)
        active := some (runLanded s.free (s.ds.landedBy k) x) }
       if (s.ds.landedBy k).all fun b => b.digest.isSome then s3 else s3.setFree (s.free + 1)) = afterLanded k x s := by
    have asked : t.shipWaitsFor (fun q => (s.ds.landedBy k).any fun b => decide (b.seq = q)) =
        decide (∃ w ∈ s.dm.waiting, w.cls = .ship ∧ ∃ z ∈ s.ds.landedBy k, z.seq = w.seq) := by
      rw [← waits, abandoned]
      rfl
    have whole : s.setFree s.free = s := rfl
    simp only [asked, digests, decide_eq_true_eq]
    rw [abandoned, afterLanded]
    split <;> split
    all_goals rfl
  rw [leaves]
  simp only [List.isEmpty_iff]

/-- A RECEIPT of the active run is taken by its kind. -/
theorem exec_receipt_of_run {s : State} {f : EthFrame} {p : InFrame} {x : OutRun} {k : ReceiptKind} (passes : s.arrival f = .pass p) (run : s.runOf p = some x)
    (kind : p.header.kind = .receipt) (state : x.state = .shipping ∨ x.state = .draining) (code : ReceiptKind.ofCode p.header.arg = some k) :
    exec (.receipt f) s = .next (takeReceipt k p.header.seq s) := by
  change execReceipt f s = _
  rw [execReceipt, onRunFrame_of_run _ _ passes run, if_pos kind, if_pos state, code]

theorem takeReceipt_of_found {s : State} {b : Batch} {seq : Nat} (k : ReceiptKind) (found : s.ds.outstanding.find? (fun y => decide (y.seq = seq)) = some b) :
    takeReceipt k seq s = match k with
      | .landed => landed seq s
      | .skipped => s
      | .queued => if b.stage = .awaiting then restartTimer seq s else s
      | .digestBad => if b.stage = .awaiting then goBack seq s else s
      | .busy => if b.stage = .awaiting then busyBack seq s else s
      | .noSpace => if b.stage = .awaiting then endRun outboundPeerFull 0 true s else s := by
  have batch : s.ds.batch seq = some b := found
  simp only [takeReceipt, batch] <;> rfl

end Sys2Proof.Machine
end

section
/-! The settling of O49. -/
namespace Sys2Proof.Machine

/-- Settles O49: a frame of another run or peer is discarded, and each of the four acts on the active run by its state, a LANDED receipt by `landed_eq`. -/
theorem runsFollowTheirPeersFrames : Obligations.RunsFollowTheirPeersFrames := by
  unfold Obligations.RunsFollowTheirPeersFrames
  refine ⟨fun s f p passes other => ?_, fun s f p x c passes dir active peer addr id runId => ?_⟩
  · have none := State.runOf_of_other other
    exact ⟨congrArg Host.Outcome.next (onRunFrame_of_none _ _ passes none), congrArg Host.Outcome.next (onRunFrame_of_none _ _ passes none),
      congrArg Host.Outcome.next (onRunFrame_of_none _ _ passes none), congrArg Host.Outcome.next (onRunFrame_of_none _ _ passes none)⟩
  have run : s.runOf p = some x := State.runOf_of_peer active peer dir addr id runId
  have stays : ∀ {k act}, (p.header.kind = k → act x p = s) → onRunFrame k f act s = s := fun {k act} idle => by
    rw [onRunFrame_of_run k act passes run]
    by_cases kind : p.header.kind = k
    · rw [if_pos kind, idle kind]
    · exact if_neg kind
  refine ⟨fun kind state sent => ?_, fun idle => ⟨?_, ?_⟩, fun state => ?_, fun notShip notDrain => ?_, fun kind state sent => ?_, fun kind state => ?_, fun kind state => ?_⟩
  · change execAccept f s = _
    rw [execAccept, onRunFrame_of_run _ _ passes run, if_pos kind, if_pos ⟨state, sent⟩]
    rfl
  · exact congrArg Host.Outcome.next (stays fun _ => if_neg fun ⟨h1, h2⟩ => idle.elim (· h1) fun h => by simp [h] at h2)
  · exact congrArg Host.Outcome.next (stays fun _ => if_neg fun ⟨h1, h2⟩ => idle.elim (· h1) fun h => by simp [h] at h2)
  · exact congrArg Host.Outcome.next (stays fun _ => if_neg state)
  · exact congrArg Host.Outcome.next (stays fun _ => if_neg fun h => h.elim notShip notDrain)
  · have taken : exec (.decline f) s = .next (if p.header.arg = declineBaseMismatch then
        if s.mayAdopt x (field p.payload 0 4) then adoptBase x (field p.payload 0 4) s else endRun outboundBaseLost 0 true s
        else endRun outboundDeclined p.header.arg true s) := by
      change execDecline f s = _
      rw [execDecline, onRunFrame_of_run _ _ passes run, if_pos kind, if_pos ⟨state, sent⟩]
    refine ⟨fun other => taken.trans (congrArg _ (if_neg other)), fun e base he => ?_⟩
    subst he
    refine ⟨fun no => ?_, fun y t new nonzero found isActive unbased runs target up room => ?_⟩
    · rw [taken, if_pos (show _ = declineBaseMismatch from base), if_neg (by rw [State.mayAdopt_eq_false no]; exact Bool.false_ne_true)]
      rfl
    · rw [taken, if_pos (show _ = declineBaseMismatch from base), if_pos (State.mayAdopt_of_active new nonzero found isActive)]
      have moved := moveBase_of_unbased found unbased runs
      obtain ⟨e, he⟩ : ∃ e, e = field p.payload 0 4 := ⟨_, rfl⟩
      rw [← he] at found moved ⊢
      obtain ⟨u, hu⟩ : ∃ u, u = moveBase x.volume e s := ⟨_, rfl⟩
      rw [← hu] at moved
      have epoch : y.epoch = e := by simpa using List.find?_some found
      have base : ∀ z : OutRun, z.adopted = true → z.volume = x.volume → (u.setActive z).runBase z = e := fun z adopted volume => by
        have snap : (u.setActive z).baseSnap x.volume = some { y with replBase := true } := by
          refine .trans ?_ (find_moved found)
          rw [moved]
          simp only [State.baseSnap, State.setActive, State.setDs_snapVol, State.setVol_snapVol, State.snapVol_setSnapVol, if_true]
        simp only [State.runBase, adopted, Bool.not_true, Bool.and_false, Bool.false_eq_true, if_false, State.baseEpoch, volume, snap, epoch]
      obtain ⟨z, hz⟩ : ∃ z : OutRun, z = { x with adopted := true, resends := 0, exchange := none } := ⟨_, rfl⟩
      have zVolume : z.volume = x.volume := by rw [hz]
      have asked : adoptBase x e s = sendOffer (u.setActive z) := by rw [hz, hu]; rfl
      have lc : u.lc = s.lc := by rw [moved]; rfl
      have ds : u.ds = s.ds := by rw [moved]; rfl
      have defn : ∀ w, (u.vol w).defn = (s.vol w).defn := fun w => by
        rw [moved, State.vol_setVol]
        split <;> rename_i here
        · rw [here]
        · rfl
      rw [asked, sendOffer_eq (s := u.setActive z) (z := z) (p := c) rfl (State.peerFor_of (.inl (by rw [hz]; exact peer))) (by simp only [State.setActive, State.setDs_lc, lc]; exact up)
        (by simp only [State.setActive, State.setDs_lc, lc]; exact room), base z (by rw [hz]) zVolume]
      have block : ((u.setActive z).vol x.volume).defn.blockKiB = (s.vol x.volume).defn.blockKiB := congrArg _ (defn x.volume)
      have adopted : ({ z with base := e, exchange := none, peer := some c } : OutRun) = { x with adopted := true, resends := 0, exchange := none, base := e } := by
        rw [hz, ← peer]
      have t' : z.target.getD 0 = t := by rw [hz]; simp only [target, Option.getD_some]
      have runId' : z.runId = x.runId := by rw [hz]
      have lc' : (u.setActive z).lc = s.lc := lc
      have ds' : (u.setActive z).ds = { s.ds with active := some z } := by rw [← ds]; rfl
      rw [adopted, zVolume, block, t', runId', lc', ds', moved]
      rfl
  · have taken : exec (.closed f) s = .next (if p.header.arg = closedCommitted then endRun outboundDone 0 false s else endRun outboundDeclined inboundCloseRefused true s) := by
      change execClosed f s = _
      rw [execClosed, onRunFrame_of_run _ _ passes run, if_pos kind, if_pos state]
    exact ⟨fun committed => taken.trans (congrArg _ (if_pos committed)), fun other => taken.trans (congrArg _ (if_neg other))⟩
  · have acts : ∀ n, p.header.arg = n → ∀ k, ReceiptKind.ofCode n = some k → exec (.receipt f) s = .next (takeReceipt k p.header.seq s) :=
      fun n arg k code => exec_receipt_of_run passes run kind state (arg ▸ code)
    refine ⟨fun absent => ?_, fun b found => ⟨?_, ?_, ?_, ?_, ?_, ?_⟩⟩
    · refine congrArg Host.Outcome.next (stays fun _ => ?_)
      simp only [if_pos state]
      split
      · exact takeReceipt_of_absent absent
      · rfl
    · intro bs stay y sent slot kept u arg hbs hstay hy hsent flows hslot hkept hu
      have after : u = afterLanded p.header.seq x s := by
        subst hu hy hslot hkept hsent hstay hbs
        rfl
      have takes : exec (.receipt f) s = .next (landed p.header.seq s) := (acts 1 arg .landed rfl).trans (congrArg Host.Outcome.next (takeReceipt_of_found .landed found))
      have eq := landed_eq (k := p.header.seq) active (by rw [Ds.sentBy, Ds.landedBy, ← hbs, ← hsent]; exact flows)
      rw [← hstay, ← after] at eq
      refine ⟨fun more => ?_, fun t none drains target up room => ?_⟩
      · rw [takes, eq, if_neg fun ⟨h1, h2⟩ => more.elim (· h1) fun h => by simp [h] at h2]
      · have lc : u.lc.up = s.lc.up ∧ u.lc.control = s.lc.control := by rw [hu]; exact ⟨rfl, rfl⟩
        have uActive : u.ds.active = some y := by rw [hu]; rfl
        rw [takes, eq, if_pos ⟨none, drains⟩, startClosing_eq uActive (by rw [hy]; exact target) (by rw [hy]; exact peer) (lc.1.trans up) (by rw [lc.2]; exact room), lc.2, hy]
    · intro arg awaits
      rw [acts 2 arg .queued rfl, takeReceipt_of_found _ found]
      simp only [if_pos awaits]
      rfl
    · intro arg awaits limit
      rw [acts 3 arg .digestBad rfl, takeReceipt_of_found _ found]
      simp only [if_pos awaits]
      rw [goBack_of_limit found limit]
    · intro k slot kept u hk awaits later flows hslot hkept hu
      subst hk
      have pulled : pullBack p.header.seq s = u := by
        rw [pullBack_eq flows, hu, hslot, hkept]
        rfl
      refine ⟨fun arg again => ?_, fun arg => ?_⟩
      · rw [acts 3 arg .digestBad rfl, takeReceipt_of_found _ found]
        simp only [if_pos awaits]
        rw [goBack_of_again found again, pulled]
      · rw [acts 4 arg .busy rfl, takeReceipt_of_found _ found]
        simp only [if_pos awaits, busyBack]
        rw [pulled]
    · intro arg awaits
      rw [acts 5 arg .noSpace rfl, takeReceipt_of_found _ found]
      simp only [if_pos awaits]
      rfl
    · rintro (arg | ⟨arg, notAwaiting⟩)
      · rw [acts 6 arg .skipped rfl, takeReceipt_of_found _ found]
      · have idles : ∀ k, k = .queued ∨ k = .digestBad ∨ k = .busy ∨ k = .noSpace → takeReceipt k p.header.seq s = s := by
          rintro k (rfl | rfl | rfl | rfl) <;> rw [takeReceipt_of_found _ found] <;> exact if_neg notAwaiting
        simp only [List.mem_cons, List.not_mem_nil, or_false] at arg
        obtain arg | arg | arg | arg := arg
        · rw [acts 2 arg .queued rfl, idles _ (by simp)]
        · rw [acts 3 arg .digestBad rfl, idles _ (by simp)]
        · rw [acts 4 arg .busy rfl, idles _ (by simp)]
        · rw [acts 5 arg .noSpace rfl, idles _ (by simp)]

end Sys2Proof.Machine
end

section
/-! Landing on the pool: the blocks taken and the decision (7.5, 7.6). -/
namespace Sys2Proof.Machine

/-! ### The blocks of the pool (R146, R147) -/

theorem runBlocks_cons (r : Run) (rs : List Run) : runBlocks (r :: rs) = (List.range r.len).map (r.first + ·) ++ runBlocks rs := List.flatMap_cons

theorem runBlocks_append (l m : List Run) : runBlocks (l ++ m) = runBlocks l ++ runBlocks m := List.flatMap_append

theorem length_runBlocks (rs : List Run) : (runBlocks rs).length = runsLen rs := by
  induction rs with
  | nil => rfl
  | cons r rs ih => rw [runBlocks_cons, List.length_append, List.length_map, List.length_range, ih]; rfl

/-- A run cut at its `n`-th block. -/
theorem blocks_cut (f : Nat) {n m : Nat} (le : n ≤ m) :
    (List.range m).map (f + ·) = (List.range n).map (f + ·) ++ (List.range (m - n)).map (f + n + ·) := by
  obtain ⟨k, rfl⟩ := Nat.exists_eq_add_of_le le
  rw [List.range_add, List.map_append, List.map_map, Nat.add_sub_cancel_left]
  simp only [Function.comp_def, Nat.add_assoc]

theorem take_runBlocks_cut {r : Run} (rest : List Run) {n : Nat} (le : n ≤ r.len) :
    (runBlocks (r :: rest)).take n = (List.range n).map (r.first + ·) ∧
      (runBlocks (r :: rest)).drop n = runBlocks (⟨r.first + n, r.len - n⟩ :: rest) := by
  have size : ((List.range n).map (r.first + ·)).length = n := by simp
  rw [runBlocks_cons, runBlocks_cons, blocks_cut r.first le, List.append_assoc]
  exact ⟨List.take_left' size, List.drop_left' size⟩

theorem drop_runBlocks_past (r : Run) (rest : List Run) {n : Nat} (le : r.len ≤ n) : (runBlocks (r :: rest)).drop n = (runBlocks rest).drop (n - r.len) ∧
    (runBlocks (r :: rest)).take n = (List.range r.len).map (r.first + ·) ++ (runBlocks rest).take (n - r.len) := by
  have size : ((List.range r.len).map (r.first + ·)).length = r.len := by simp
  obtain ⟨k, rfl⟩ := Nat.exists_eq_add_of_le le
  rw [runBlocks_cons, Nat.add_sub_cancel_left]
  exact ⟨by rw [← List.drop_drop, List.drop_left' size], by rw [List.take_add, List.take_left' size, List.drop_left' size]⟩

theorem runBlocks_poolDrop (n : Nat) (pool : List Run) : runBlocks (poolDrop n pool) = (runBlocks pool).drop n := by
  induction pool generalizing n with
  | nil => cases n <;> simp [poolDrop, runBlocks]
  | cons r rest ih =>
    cases n with
    | zero => rfl
    | succ n =>
      rw [poolDrop]
      by_cases cut : n + 1 < r.len
      · rw [if_pos cut, (take_runBlocks_cut rest cut.le).2]
      · rw [if_neg cut, ih, (drop_runBlocks_past r rest (Nat.le_of_not_lt cut)).1]

/-- What a payload entry takes of the pool, and what it leaves. -/
theorem takeBlocks_spec {n : Nat} {pool rs left : List Run} (takes : takeBlocks n pool = some (rs, left)) :
    (rs.length = 1 ∨ rs.length = 2) ∧ runBlocks rs = (runBlocks pool).take n ∧ runBlocks left = (runBlocks pool).drop n ∧ runsLen rs = n := by
  have single : ∀ f m, runBlocks [⟨f, m⟩] = (List.range m).map (f + ·) := fun f m => List.flatMap_singleton ..
  match pool with
  | [] => simp [takeBlocks] at takes
  | r :: rest =>
    unfold takeBlocks at takes
    dsimp only at takes
    split at takes
    case isTrue cut =>
      obtain ⟨rfl, rfl⟩ := Prod.mk.inj (Option.some.inj takes)
      have parts := take_runBlocks_cut rest cut.le
      exact ⟨.inl rfl, by rw [parts.1, single], parts.2.symm, rfl⟩
    case isFalse past =>
      have past := Nat.le_of_not_lt past
      have parts := drop_runBlocks_past r rest past
      split at takes
      case isTrue whole =>
        obtain ⟨rfl, rfl⟩ := Prod.mk.inj (Option.some.inj takes)
        rw [whole] at parts ⊢
        rw [Nat.sub_self, List.drop_zero, List.take_zero, List.append_nil] at parts
        exact ⟨.inl rfl, by rw [parts.2, single], parts.1.symm, rfl⟩
      case isFalse other =>
        match rest with
        | [] => simp at takes
        | t :: more =>
          have second : ∀ k, k = n - r.len → runsLen [r, ⟨t.first, k⟩] = n := fun k hk => by
            simp only [runsLen, List.map_cons, List.map_nil, List.sum_cons, List.sum_nil]
            omega
          dsimp only at takes
          split at takes
          case isTrue => simp at takes
          case isFalse enough =>
            have cut := take_runBlocks_cut more (Nat.le_of_not_lt enough)
            have first : ∀ k, k = n - r.len → runBlocks [r, ⟨t.first, k⟩] = (runBlocks (r :: t :: more)).take n := fun k hk => by
              rw [parts.2, cut.1, runBlocks_cons, single, hk]
            split at takes
            case isTrue whole =>
              obtain ⟨rfl, rfl⟩ := Prod.mk.inj (Option.some.inj takes)
              refine ⟨.inr rfl, first t.len whole, ?_, second t.len whole⟩
              rw [parts.1, ← whole, (take_runBlocks_cut more le_rfl).2, Nat.sub_self]
              rfl
            case isFalse =>
              obtain ⟨rfl, rfl⟩ := Prod.mk.inj (Option.some.inj takes)
              exact ⟨.inr rfl, first _ rfl, by rw [parts.1, cut.2], second _ rfl⟩

theorem takeAll_cons (e : PayloadEntry) (es : List PayloadEntry) (pool : List Run) : takeAll (e :: es) pool =
    (takeBlocks e.len pool).bind fun rl => (takeAll es rl.2).map (rl.1 :: ·) := by
  rw [takeAll]
  cases takeBlocks e.len pool <;> rfl

theorem takeAll_spec {es : List PayloadEntry} {pool : List Run} {tk : List (List Run)} (takes : takeAll es pool = some tk) :
    tk.map runsLen = es.map PayloadEntry.len ∧ (∀ rs ∈ tk, rs.length = 1 ∨ rs.length = 2) ∧
      runBlocks tk.flatten = (runBlocks pool).take (es.map PayloadEntry.len).sum := by
  induction es generalizing pool tk with
  | nil =>
    obtain rfl := Option.some.inj takes
    exact ⟨rfl, by simp, by simp [runBlocks]⟩
  | cons e es ih =>
    rw [takeAll_cons] at takes
    obtain ⟨⟨rs, left⟩, first, more⟩ := Option.bind_eq_some_iff.1 takes
    obtain ⟨tl, all, rfl⟩ := Option.map_eq_some_iff.1 more
    obtain ⟨one, here, next, len⟩ := takeBlocks_spec first
    obtain ⟨lens, sizes, blocks⟩ := ih all
    refine ⟨by rw [List.map_cons, List.map_cons, len, lens], fun x mem => (List.mem_cons.1 mem).elim (fun eq => eq ▸ one) (sizes x), ?_⟩
    rw [List.flatten_cons, runBlocks_append, here, blocks, next, List.map_cons, List.sum_cons, List.take_add]

theorem takeAll_cons_eq_none {e : PayloadEntry} {es : List PayloadEntry} {pool : List Run} : takeAll (e :: es) pool = none ↔
    takeBlocks e.len pool = none ∨ ∃ rs left, takeBlocks e.len pool = some (rs, left) ∧ takeAll es left = none := by
  rw [takeAll_cons]
  cases takes : takeBlocks e.len pool with
  | none => simp
  | some rl => simp [Prod.ext_iff]

/-! ### The landing decision (R146) -/

theorem InCtx.lowestReady_of_only {x : InCtx} {i : Fin 2} (ready : x.slots[i].state = .ready) (others : ∀ j, j ≠ i → x.slots[j].state ≠ .ready) :
    x.lowestReady = some i := by
  match i with
  | 0 => simp only [InCtx.lowestReady, ready, others 1 (by decide), and_false, if_false, if_true]
  | 1 => simp only [InCtx.lowestReady, ready, others 0 (by decide), false_and, if_false, if_true]

theorem InCtx.lowestReady_of_none {x : InCtx} (others : ∀ j : Fin 2, x.slots[j].state ≠ .ready) : x.lowestReady = none := by
  simp only [InCtx.lowestReady, others, false_and, if_false]

/-- No landing begins on a context that is not OPEN or has no READY slot. -/
theorem landTry_of_idle {s : State} {c : Ctx} (idle : (s.inCtx c).state ≠ .open ∨ ∀ j : Fin 2, (s.inCtx c).slots[j].state ≠ .ready) (n : Nat) : landTry n c s = s := by
  cases n with
  | zero => rfl
  | succ n =>
    rw [landTry]
    rcases idle with closed | none
    · exact if_neg fun h => closed h.1
    · split
      · rw [InCtx.lowestReady_of_none none]
      · rfl

theorem landDecision_eq {s : State} {v : Vol} {y : Slot} : landDecision s v y = (takeAll y.entries (s.replVol v).pool).bind fun tk =>
    if s.extents.length + (tk.flatten.length + 2 * y.deletions.length) ≤ 16777216 ∧ ((s.account (16 + v.val)).hard = 0 ∨
      (s.account (16 + v.val)).usage + (y.entries.map PayloadEntry.len).sum * (s.vol v).defn.blockKiB ≤ (s.account (16 + v.val)).hard) then some tk else none := by
  have accepts : ∀ tk : List (List Run), (s.tableRoom (tk.flatten.length + 2 * y.deletions.length) && landingAccepts (s.account (landingIndex v)) (s.chargeOf v y.blocks)) = true ↔
      s.extents.length + (tk.flatten.length + 2 * y.deletions.length) ≤ 16777216 ∧ ((s.account (16 + v.val)).hard = 0 ∨
      (s.account (16 + v.val)).usage + (y.entries.map PayloadEntry.len).sum * (s.vol v).defn.blockKiB ≤ (s.account (16 + v.val)).hard) := fun tk => by
    rw [Bool.and_eq_true, State.tableRoom, landingAccepts, decide_eq_true_eq, Bool.or_eq_true, decide_eq_true_eq, decide_eq_true_eq, landingIndex, Nat.add_comm v.val 16]
    rfl
  rw [landDecision]
  cases takeAll y.entries (s.replVol v).pool with
  | none => rfl
  | some tk => simp only [accepts, Option.bind_some]

/-- A READY slot that no other precedes is decided. -/
theorem landNext_of_ready {s : State} {c : Ctx} {i : Fin 2} (is : (s.inCtx c).state = .open) (ready : (s.inCtx c).slots[i].state = .ready)
    (others : ∀ j : Fin 2, j ≠ i → (s.inCtx c).slots[j].state ≠ .ready ∧ (s.inCtx c).slots[j].state ≠ .landing) : landNext c s =
      match landDecision s (s.inCtx c).volume (s.inCtx c).slots[i] with
      | none => noSpace c (s.inCtx c).slots[i].seq s
      | some taken => landTry 2 c (landStart c i taken s) := by
  have free : (s.inCtx c).landing.isNone = true := by
    rw [Option.isNone_iff_eq_none, InCtx.landing, InCtx.slotThat_eq_none]
    intro j
    rw [decide_eq_false_iff_not]
    intro landing
    by_cases here : j = i
    · rw [here, ready] at landing
      exact absurd landing (by decide)
    · exact (others j here).2 landing
  simp only [landNext, landTry, is, free, and_self, if_true, InCtx.lowestReady_of_only ready fun j ne => (others j ne).1] <;> rfl

end Sys2Proof.Machine
end

section
/-! The end of a landing (7.6). -/
namespace Sys2Proof.Machine

/-! ### Deletions (R148) -/

theorem applyDeletions_eq (v : Vol) (run : Nat) (ds : List Run) (es : List Extent) :
    applyDeletions v run ds es = ds.foldl (fun l d => l.flatMap fun e => applyDeletion v run [e] d) es := by
  refine congrArg (fun f => ds.foldl f es) (funext fun l => funext fun d => ?_)
  refine List.flatMap_congr fun e _ => ?_
  rw [applyDeletion, List.flatMap_singleton]

theorem length_applyDeletion (v : Vol) (run : Nat) (d : Run) (es : List Extent) : es.length ≤ (applyDeletion v run es d).length := by
  induction es with
  | nil => exact Nat.zero_le _
  | cons e es ih =>
    have one : 1 ≤ (if deletionReaches v d e then deletionParts run d e else [e]).length := by
      split
      · simp only [deletionParts, List.length_append, List.length_singleton]
        omega
      · exact Nat.le_refl 1
    rw [applyDeletion, List.flatMap_cons, List.length_append, List.length_cons, Nat.add_comm]
    exact Nat.add_le_add one ih

theorem length_applyDeletions (v : Vol) (run : Nat) (ds : List Run) (es : List Extent) : es.length ≤ (applyDeletions v run ds es).length := by
  induction ds generalizing es with
  | nil => exact Nat.le_refl _
  | cons d ds ih => exact (length_applyDeletion v run d es).trans (ih _)

theorem deletionReaches_iff {v : Vol} {d : Run} {e : Extent} {b : Nat} (source : e.source = some b) :
    deletionReaches v d e = true ↔ e.volume = v ∧ e.death = none ∧ e.mark = none ∧ b < d.first + d.len ∧ d.first < b + e.len := by
  have meets : (Run.mk b e.len).overlaps d = true ↔ b < d.first + d.len ∧ d.first < b + e.len := by
    rw [Run.overlaps, Bool.and_eq_true, decide_eq_true_eq, decide_eq_true_eq]
    rfl
  simp only [deletionReaches, source, Extent.live, Bool.and_eq_true, decide_eq_true_eq, Option.isNone_iff_eq_none, meets, and_assoc]

/-! ### Records and accounts of a landing (R147) -/

theorem length_addAll (es : List Extent) : ∀ l : List Extent, (es.foldl (fun l e => insertExtent e l) l).length = l.length + es.length := by
  induction es with
  | nil => exact fun _ => rfl
  | cons e es ih =>
    intro l
    rw [List.foldl_cons, ih, length_insertExtent, List.length_cons]
    omega

theorem raising_setExtents (ns : List (NoticeKind × Nat)) (es : List Extent) (s : State) : (s.setExtents es).raising ns = (s.raising ns).setExtents es := by
  induction ns generalizing s with
  | nil => rfl
  | cons n ns ih =>
    have one : raise n.1 n.2 0 (s.setExtents es) = (raise n.1 n.2 0 s).setExtents es := by
      unfold raise
      rw [apply_ite (State.setExtents · es), apply_ite (State.setExtents · es)]
      rfl
    exact (congrArg (·.raising ns) one).trans (ih _)

theorem State.accountsOnly.setExtents {s u : State} {ns : List (NoticeKind × Nat)} (h : s.accountsOnly u ns) (es : List Extent) :
    (s.setExtents es).accountsOnly (u.setExtents es) ns := by
  obtain ⟨eq, clock, examining, ok⟩ := h
  refine ⟨?_, clock, examining, ok⟩
  rw [raising_setExtents]
  exact congrArg (State.setExtents · es) eq

theorem countRecords_landing_only {i n : Nat} {s : State} (kind : (s.account i).kind = .landing) :
    s.accountsOnly (countRecords i n s) [] ∧
      ∀ j, (countRecords i n s).account j = if j = i then { s.account i with records := (s.account i).records + n } else s.account j := by
  have listed : (s.account i).kind ≠ .none := by simp [kind]
  rw [countRecords_of_listed listed]
  refine ⟨(accountsFrame_setAccount s i _).only fun ok => ?_, fun j => account_setAccount s i j _ listed⟩
  obtain ⟨-, -, grace, -, -⟩ := ok.landing kind
  have good := ok.account listed
  have calm : (s.account i).state ≠ .grace := ok.landing kind |>.2.1
  exact quOk_setAccount ok ok.1 (fun _ _ => rfl) rfl rfl calm calm good

/-- The records of a batch, entry by entry (R147). -/
theorem records_eq {y : Slot} {v : Vol} {run : Nat} {made : PayloadEntry → List Run → List Extent} (sizes : ∀ rs ∈ y.taken, rs.length = 1 ∨ rs.length = 2)
    (one : ∀ e g, made e [g] = landedRecords v run e 0 [g]) (two : ∀ e g k, made e [g, k] = landedRecords v run e 0 [g, k]) :
    y.records v run = (y.entries.zip y.taken).flatMap fun et => made et.1 et.2 := by
  refine List.flatMap_congr fun et mem => ?_
  rcases sizes et.2 (List.of_mem_zip mem).2 with size | size
  · obtain ⟨g, eq⟩ := List.length_eq_one_iff.1 size
    rw [eq, one]
  · obtain ⟨g, k, eq⟩ := List.length_eq_two.1 size
    rw [eq, two]

/-- What the update of a landing leaves in the table and the pool, before its charge. -/
def withLanded (c : Ctx) (i : Fin 2) (s : State) : State :=
  let x := s.inCtx c
  (s.setExtents ((x.slots[i].records x.volume x.runId).foldl (fun l e => insertExtent e l) s.extents)).setReplVol x.volume
    { s.replVol x.volume with pool := poolDrop (s.replVol x.volume).takeMark (s.replVol x.volume).pool, takeMark := 0 }

/-- The charge of a landing and its deletions. -/
def landCharged (c : Ctx) (i : Fin 2) (s : State) : State :=
  let x := s.inCtx c
  let y := x.slots[i]
  let made := y.records x.volume x.runId
  let t := chargeAccount (landingIndex x.volume) (s.chargeOf x.volume y.blocks) made.length (withLanded c i s)
  let es := applyDeletions x.volume x.runId y.deletions t.extents
  countRecords (landingIndex x.volume) (es.length - t.extents.length) (t.setExtents es)

theorem landMake_eq (c : Ctx) (i : Fin 2) (s : State) : landMake c i s = sendReceipt c (s.inCtx c).slots[i].seq .landed
    ((landCharged c i s).setInCtx c { (s.inCtx c).setSlot i .clear with digest := digestAdd (s.inCtx c).digest (s.inCtx c).slots[i].arrival }) := by
  simp only [landMake, addExtents_eq]
  rfl

theorem landCharged_only {c : Ctx} {i : Fin 2} {s : State} {x : InCtx} {y : Slot} {k : Nat} {final : List Extent} (hx : x = s.inCtx c) (hy : y = x.slots[i])
    (hk : k = landingIndex x.volume) (kind : (s.account k).kind = .landing)
    (hfinal : final = applyDeletions x.volume x.runId y.deletions ((y.records x.volume x.runId).foldl (fun l e => insertExtent e l) s.extents)) :
    let ch := (s.account k).usage + s.chargeOf x.volume y.blocks
    ((s.setExtents final).setReplVol x.volume { s.replVol x.volume with
        pool := poolDrop (s.replVol x.volume).takeMark (s.replVol x.volume).pool, takeMark := 0 }).accountsOnly (landCharged c i s)
      (landingNotices k (s.account k).usage { s.account k with usage := ch }) ∧
    (∀ m, (landCharged c i s).account m = if m = k then { (rateLanding (s.account k).usage { s.account k with usage := ch }).1 with
        records := (s.account k).records + (final.length - s.extents.length) } else s.account m) ∧
    (landCharged c i s).extents = final := by
  intro ch
  subst hy hk
  obtain ⟨t, ht⟩ : ∃ t, t = chargeAccount (landingIndex x.volume) (s.chargeOf x.volume x.slots[i].blocks) (x.slots[i].records x.volume x.runId).length (withLanded c i s) :=
    ⟨_, rfl⟩
  have base := chargeAccount_landing_only (i := landingIndex x.volume) (c := s.chargeOf x.volume x.slots[i].blocks) (n := (x.slots[i].records x.volume x.runId).length)
    (s := withLanded c i s) kind
  rw [← ht] at base
  obtain ⟨charged, reads⟩ := base
  have extents : t.extents = (x.slots[i].records x.volume x.runId).foldl (fun l e => insertExtent e l) s.extents := by
    rw [charged.1, State.setQu_extents, (noticesOnly_raising _ _).extents, withLanded, ← hx]
    rfl
  have length := length_applyDeletions x.volume x.runId x.slots[i].deletions t.extents
  have size : t.extents.length = s.extents.length + (x.slots[i].records x.volume x.runId).length := by rw [extents, length_addAll]
  rw [← extents] at hfinal
  rw [← hfinal] at length
  have last : landCharged c i s = countRecords (landingIndex x.volume) (final.length - t.extents.length) (t.setExtents final) := by
    rw [landCharged, ← hx, ← ht, ← hfinal]
  have there : ((t.setExtents final).account (landingIndex x.volume)).kind = .landing := by
    change (t.account (landingIndex x.volume)).kind = .landing
    rw [reads, if_pos rfl]
    exact kind
  obtain ⟨counted, counts⟩ := countRecords_landing_only (n := final.length - t.extents.length) there
  rw [last]
  refine ⟨?_, fun m => ?_, ?_⟩
  · have both := (charged.setExtents final).trans counted
    rw [List.append_nil] at both
    rw [withLanded, ← hx] at both
    exact both
  · rw [counts]
    by_cases here : m = landingIndex x.volume
    · rw [if_pos here, if_pos here]
      change ({ t.account (landingIndex x.volume) with records := (t.account (landingIndex x.volume)).records + _ } : Account) = _
      rw [reads, if_pos rfl]
      have sum : (s.account (landingIndex x.volume)).records + (x.slots[i].records x.volume x.runId).length + (final.length - t.extents.length) =
          (s.account (landingIndex x.volume)).records + (final.length - s.extents.length) := by omega
      rw [← sum]
      rfl
    · rw [if_neg here, if_neg here]
      change t.account m = _
      rw [reads, if_neg here]
      rfl
  · rw [counted.1, State.setQu_extents]
    rfl

end Sys2Proof.Machine
end

section
/-! The settling of O53. -/
namespace Sys2Proof.Machine

theorem landNext_of_decided {s : State} {c : Ctx} {i : Fin 2} {tk : List (List Run)} (is : (s.inCtx c).state = .open) (ready : (s.inCtx c).slots[i].state = .ready)
    (others : ∀ j : Fin 2, j ≠ i → (s.inCtx c).slots[j].state ≠ .ready ∧ (s.inCtx c).slots[j].state ≠ .landing)
    (decides : landDecision s (s.inCtx c).volume (s.inCtx c).slots[i] = some tk) : landNext c s = landTry 2 c (landStart c i tk s) := by
  rw [landNext_of_ready is ready others, decides]

theorem landNext_of_refused {s : State} {c : Ctx} {i : Fin 2} (is : (s.inCtx c).state = .open) (ready : (s.inCtx c).slots[i].state = .ready)
    (others : ∀ j : Fin 2, j ≠ i → (s.inCtx c).slots[j].state ≠ .ready ∧ (s.inCtx c).slots[j].state ≠ .landing)
    (refuses : landDecision s (s.inCtx c).volume (s.inCtx c).slots[i] = none) : landNext c s = noSpace c (s.inCtx c).slots[i].seq s := by
  rw [landNext_of_ready is ready others, refuses]

theorem inCtx_sendReceipt (c : Ctx) (seq : Nat) (k : ReceiptKind) (s : State) (d : Ctx) : (sendReceipt c seq k s).inCtx d = s.inCtx d := by
  rw [sendReceipt, handControl]
  split <;> rfl

theorem inCtx_landMake (c : Ctx) (i : Fin 2) (s : State) : (landMake c i s).inCtx c =
    { (s.inCtx c).setSlot i .clear with digest := digestAdd (s.inCtx c).digest (s.inCtx c).slots[i].arrival } := by
  rw [landMake_eq, inCtx_sendReceipt, State.inCtx_setInCtx, if_pos rfl]

theorem extents_landMake_eq (c : Ctx) (i : Fin 2) (s : State) : (landMake c i s).extents = (landCharged c i s).extents := by
  rw [landMake_eq, sendReceipt, extents_handControl, State.setInCtx_extents]

theorem getElem_slots_set (l : Vector Slot 2) (i j : Fin 2) (y : Slot) : (l.set i y)[j] = if j = i then y else l[j] := by
  simp only [Fin.getElem_fin, Vector.getElem_set, Fin.val_inj, eq_comm]

theorem slots_landMake (c : Ctx) (i j : Fin 2) (s : State) :
    ((landMake c i s).inCtx c).slots[j] = if j = i then Slot.clear else (s.inCtx c).slots[j] := by
  have all := congrArg InCtx.slots (inCtx_landMake c i s)
  refine (congrArg (fun l : Vector Slot 2 => l[j]) all).trans ?_
  exact getElem_slots_set (s.inCtx c).slots i j .clear

/-- NO_SPACE leaves no OPEN run behind. -/
theorem noSpace_not_open (c : Ctx) (seq : Nat) (s : State) : ((noSpace c seq s).inCtx c).state ≠ .open := by
  rw [noSpace]
  by_cases is : ((sendReceipt c seq .noSpace s).inCtx c).state = .open
  · rw [abortCtx_of_open is, if_neg Bool.false_ne_true, aborted, State.inCtx_setInCtx, if_pos rfl]
    exact nofun
  · rwa [abortCtx_of_not_open is]

theorem landEnd_eq (c : Ctx) (i : Fin 2) (s : State) : landEnd c i s = if (landCharged c i s).extents.length ≤ 16777216 then landMake c i s
    else noSpace c (s.inCtx c).slots[i].seq (s.setTakeMark (s.inCtx c).volume 0) := by
  rw [← extents_landMake_eq]
  rfl

/-- Once a landing has ended with no other slot READY, no landing follows. -/
theorem landTry_landEnd {s : State} {c : Ctx} {i : Fin 2} (others : ∀ j : Fin 2, j ≠ i → (s.inCtx c).slots[j].state ≠ .ready) (n : Nat) :
    landTry n c (landEnd c i s) = landEnd c i s := by
  refine landTry_of_idle ?_ n
  rw [landEnd_eq]
  split
  · refine .inr fun j => ?_
    have slot := slots_landMake c i j s
    by_cases here : j = i
    · rw [if_pos here] at slot
      exact fun ready => absurd ((congrArg Slot.state slot).symm.trans ready) (by decide)
    · rw [if_neg here] at slot
      exact fun ready => others j here ((congrArg Slot.state slot).symm.trans ready)
  · exact .inl (noSpace_not_open c _ _)

theorem noSpace_of_room {s : State} {c : Ctx} {seq : Nat} (up : s.lc.up = true) (room : s.lc.control.length < 16) : noSpace c seq s =
    abortCtx 0x13 false c (s.setLc { s.lc with control := s.lc.control ++
      [⟨(s.inCtx c).peerAddr, .receipt, .backward, (s.inCtx c).runId, (s.inCtx c).sendVol, (s.inCtx c).volume.val, seq, 5, []⟩] }) :=
  congrArg (abortCtx 0x13 false c) (sendReceipt_of_room c seq .noSpace up room)

/-- Settles O53: what the pool gives (`takeBlocks_spec`, `takeAll_spec`), the decision on the READY slot, and the end of a landing (`landCharged_only`). -/
theorem batchesLandOnThePool : Obligations.BatchesLandOnThePool := by
  unfold Obligations.BatchesLandOnThePool
  refine ⟨fun n r rest pos rpos => ?_, fun es pool blocks hblocks => ?_, fun s c x i y n limit hx is hy ready others hn hlimit => ?_,
    fun s u c x i engine land num last hx is landing others => ?_, fun s c x i y n k made final b hx hy lens sizes up room hk kind hn hone htwo hfinal hb => ?_,
    applyDeletions_eq, fun v run d e b source => ⟨fun out => ?_, fun lo hi vol live unmarked epos dpos below above hlo hhi => ?_⟩⟩
  · refine ⟨fun lt => ?_, fun eq => ?_, fun lt none => ?_, fun t more lt hrest => ⟨fun low => ?_, fun eq => ?_, fun high => ?_⟩⟩
    · simp only [takeBlocks, if_pos lt]
    · simp only [takeBlocks, if_neg (Nat.not_lt.2 eq.ge), if_pos eq]
    · subst none
      simp only [takeBlocks, if_neg (Nat.lt_asymm lt), if_neg (Nat.ne_of_gt lt)]
    · subst hrest
      simp only [takeBlocks, if_neg (Nat.lt_asymm lt), if_neg (Nat.ne_of_gt lt), if_pos (show t.len < n - r.len by omega)]
    · subst hrest
      simp only [takeBlocks, if_neg (Nat.lt_asymm lt), if_neg (Nat.ne_of_gt lt), if_neg (show ¬t.len < n - r.len by omega), if_pos (show t.len = n - r.len by omega)]
    · subst hrest
      simp only [takeBlocks, if_neg (Nat.lt_asymm lt), if_neg (Nat.ne_of_gt lt), if_neg (show ¬t.len < n - r.len by omega), if_neg (show ¬t.len = n - r.len by omega)]
  · obtain rfl : blocks = runBlocks := funext hblocks
    exact ⟨fun n => runBlocks_poolDrop n pool, fun tk takes => takeAll_spec takes, fun e rest hes => hes ▸ takeAll_cons_eq_none⟩
  · subst hx hy
    have decides := landDecision_eq (s := s) (v := (s.inCtx c).volume) (y := (s.inCtx c).slots[i])
    rw [← hn] at decides
    refine ⟨fun tk takes fits within unit t hunit ht => ?_, fun fails up room => ?_⟩
    · rw [takes, Option.bind_some, if_pos ⟨fits, hlimit ▸ within⟩] at decides
      have next := landNext_of_decided is ready others decides
      have starts : landStart c i tk s = if (s.inCtx c).slots[i].entries.isEmpty then landEnd c i t else
          match askUnit unit t with
          | some t => t
          | none => abortCtx inboundMoverFault true c t := by
        rw [ht, hunit, hn]
        rfl
      have slot : ∀ m j, ((t.setDm m).inCtx c).slots[j] = if j = i then { (s.inCtx c).slots[i] with state := .landing, taken := tk } else (s.inCtx c).slots[j] := fun m j => by
        rw [State.setDm_inCtx, ht, State.inCtx_setInCtx, if_pos rfl]
        exact getElem_slots_set ..
      refine ⟨fun some healthy => ?_, fun none => ?_⟩
      · have stays : ∀ m, landTry 2 c (t.setDm m) = t.setDm m := fun m => landTry_of_idle (.inr fun j => by
          rw [slot m j]
          by_cases here : j = i
          · rw [if_pos here]
            exact nofun
          · rw [if_neg here]
            exact (others j here).1) 2
        have cls : unit.cls = .land := by rw [hunit]
        have healthy : t.faulted unit.cls = false := by rw [cls, ht]; exact healthy
        rw [starts, if_neg (by rw [List.isEmpty_iff]; exact some)] at next
        refine ⟨fun idle waits => ?_, fun busy => ?_⟩
        · have asks := askUnit_of_granted healthy (by rw [cls]; decide) (by rw [ht]; exact idle) (by rw [ht]; exact waits)
          have dm : t.dm = s.dm := by rw [ht]; rfl
          rw [cls, dm] at asks
          rw [next, asks]
          exact stays _
        · have asks := askUnit_of_busy healthy (by rw [ht]; exact busy)
          have dm : t.dm = s.dm := by rw [ht]; rfl
          rw [dm] at asks
          rw [next, asks]
          exact stays _
      · rw [starts, if_pos (List.isEmpty_iff.2 none)] at next
        refine next.trans (landTry_landEnd (fun j ne => ?_) 2)
        have same : ((t.setDm t.dm).inCtx c).slots[j] = (s.inCtx c).slots[j] := (slot t.dm j).trans (if_neg ne)
        rw [show t.setDm t.dm = t from rfl] at same
        rw [same]
        exact (others j ne).1
    · have none : landDecision s (s.inCtx c).volume (s.inCtx c).slots[i] = none := by
        rw [decides]
        cases takes : takeAll (s.inCtx c).slots[i].entries (s.replVol (s.inCtx c).volume).pool with
        | none => rfl
        | some tk =>
          refine if_neg fun ⟨fits, within⟩ => ?_
          exact fails.elim (fun full => Nat.not_le.2 (full tk takes) fits) fun beyond => beyond (hlimit ▸ within)
      exact (landNext_of_refused is ready others none).trans (noSpace_of_room up room)
  · obtain ⟨t, ht⟩ : ∃ t, t = (moveSegment (if u.second then u.seg2 else u.seg1) s).setDm { s.dm with engine := none } := ⟨_, rfl⟩
    obtain ⟨m, moved⟩ := moveSegment_frame (if u.second then u.seg2 else u.seg1) s
    have ctx : t.inCtx c = x := by rw [ht, State.setDm_inCtx, moved, hx]; rfl
    have onLast : u.onLast = true := by
      rw [MoverUnit.onLast, Bool.or_eq_true, decide_eq_true_eq]
      exact last
    have done : u.shipDone s = true := by
      rw [MoverUnit.shipDone, Bool.or_eq_true, decide_eq_true_eq]
      exact .inl (by rw [land]; decide)
    have released : releaseEngine (moveSegment u.current s) = t := by
      have dm : (moveSegment u.current s).dm = s.dm := (congrArg State.dm moved).trans rfl
      rw [releaseEngine, dm, ht]
      rfl
    have here : x.landing = some i := by
      refine InCtx.slotThat_eq_some (decide_eq_true landing) fun j lt => decide_eq_false (others j (ne_of_lt lt)).2
    have told : tellComplete u t = landEnd c i t := by
      have complete : landComplete c t = landNext c (landEnd c i t) := by
        simp only [landComplete, ctx, is, here]
      simp only [tellComplete, land, num]
      refine complete.trans (landTry_landEnd (fun j ne => ?_) 3)
      rw [ctx]
      exact (others j ne).1
    change execUnitComplete s = _
    simp only [execUnitComplete, engine, onLast, done, true_and, if_true, released, told]
    rw [ht]
  · have records := records_eq (v := x.volume) (run := x.runId) sizes hone
      fun e g r => (htwo e g r).trans (by simp only [landedRecords, Nat.zero_add, Nat.add_zero])
    rw [← records] at hfinal
    have index : k = landingIndex x.volume := hk.trans (Nat.add_comm ..)
    obtain ⟨charged, reads, extents⟩ := landCharged_only hx hy index kind hfinal
    have charge : s.chargeOf x.volume y.blocks = n * (s.vol x.volume).defn.blockKiB := by rw [hn]; rfl
    rw [charge, ← hb] at charged
    rw [charge] at reads
    have ends := landEnd_eq c i s
    rw [extents, ← hx, ← hy] at ends
    refine ⟨fun fits => ⟨landCharged c i s, charged, reads, ?_⟩, fun full => ?_⟩
    · have lc : (landCharged c i s).lc = s.lc := by
        rw [charged.1, State.setQu_lc, (noticesOnly_raising _ _).lc, hb]
        rfl
      rw [ends, if_pos fits, landMake_eq, sendReceipt_of_room (s := (landCharged c i s).setInCtx c _) c _ .landed (by rw [State.setInCtx_lc, lc]; exact up)
        (by rw [State.setInCtx_lc, lc]; exact room), State.inCtx_setInCtx, if_pos rfl, State.setInCtx_lc, lc, ← hx, ← hy]
      rfl
    · rw [ends, if_neg (Nat.not_le.2 full)]
      refine (noSpace_of_room (s := s.setTakeMark x.volume 0) up room).trans ?_
      have ctx : (s.setTakeMark x.volume 0).inCtx c = x := hx.symm
      rw [ctx]
      rfl
  · have misses : deletionReaches v d e ≠ true := by
      rw [Ne, deletionReaches_iff source]
      rintro ⟨hv, hd, hm, lt, gt⟩
      rcases out with h | h | h | h | h
      · exact h hv
      · exact h hd
      · exact h hm
      · exact absurd gt (Nat.not_lt.2 h)
      · exact absurd lt (Nat.not_lt.2 h)
    rw [applyDeletion, List.flatMap_singleton, if_neg misses]
  · rw [applyDeletion, List.flatMap_singleton, if_pos ((deletionReaches_iff source).2 ⟨vol, live, unmarked, below, above⟩)]
    have stop : d.stop = d.first + d.len := rfl
    simp only [deletionParts, source, Option.getD_some, stop, ← hlo, ← hhi, Extent.part, Option.map_some, Nat.add_zero]

end Sys2Proof.Machine
end

section
/-! The commit and rollback scans (7.7, 7.8). -/
namespace Sys2Proof.Machine

/-! ### What a charge and an append leave of the receiver -/

theorem chargeAccount_keeps {P : State → Prop} (accounts : ∀ s q, P s → P (s.setQu q)) (notices : ∀ s u, s.noticesOnly u → P s → P u)
    (trims : ∀ v s, P s → P (autoTrimStep v s)) {i c n : Nat} {s : State} (holds : P s) : P (chargeAccount i c n s) := by
  unfold chargeAccount
  dsimp only
  split
  · exact holds
  · exact rerate_keeps accounts notices trims (accounts _ _ holds)

theorem inCtx_autoTrimStep (v : Vol) (s : State) (c : Ctx) : (autoTrimStep v s).inCtx c = s.inCtx c := by
  obtain ⟨z, frame⟩ := autoTrimStep_frame v s
  rw [frame, State.setSnapVol_inCtx]

theorem noticesOnly_inCtx {s u : State} (only : s.noticesOnly u) (c : Ctx) : u.inCtx c = s.inCtx c := by rw [only, State.setRiu_inCtx]

theorem inCtx_refundAccount (i c n : Nat) (s : State) (d : Ctx) : (refundAccount i c n s).inCtx d = s.inCtx d :=
  refundAccount_keeps (P := fun t => t.inCtx d = s.inCtx d) (fun _ _ same => same) (fun _ _ only same => (noticesOnly_inCtx only d).trans same)
    (fun v t same => (inCtx_autoTrimStep v t d).trans same) rfl

theorem inCtx_chargeAccount (i c n : Nat) (s : State) (d : Ctx) : (chargeAccount i c n s).inCtx d = s.inCtx d :=
  chargeAccount_keeps (P := fun t => t.inCtx d = s.inCtx d) (fun _ _ same => same) (fun _ _ only same => (noticesOnly_inCtx only d).trans same)
    (fun v t same => (inCtx_autoTrimStep v t d).trans same) rfl

/-! ### Records of a replica -/

theorem refundLive_of_replica {s : State} {e : Extent} (replica : (s.vol e.volume).defn.role = .replica) :
    refundLive e s = refundAccount (16 + e.volume.val) (e.len * (s.vol e.volume).defn.blockKiB) 1 s := by
  rw [refundLive, onLiveAccounts_of_replica _ replica, landingIndex, Nat.add_comm 16]
  rfl

theorem holdRecord_of_replica {s : State} {e : Extent} (d : Nat) (replica : (s.vol e.volume).defn.role = .replica) :
    holdRecord e d s = chargeAccount e.volume.val (e.len * (s.vol e.volume).defn.blockKiB) 1 (refundAccount (16 + e.volume.val) (e.len * (s.vol e.volume).defn.blockKiB) 1
      (s.setExtents (s.extents.map fun z => if z.volume = e.volume ∧ z.first = e.first then { z with death := some d } else z))) := by
  simp only [holdRecord, updateExtent_extents]
  exact congrArg (chargeAccount _ _ 1) (refundLive_of_replica (s := s.setExtents _) replica)

theorem removeLive_of_replica {s : State} {e : Extent} (replica : (s.vol e.volume).defn.role = .replica) : removeLive e s =
    refundAccount (16 + e.volume.val) (e.len * (s.vol e.volume).defn.blockKiB) 1
      (s.setExtents (s.extents.filter fun z => !(decide (z.volume = e.volume) && decide (z.first = e.first)))) :=
  refundLive_of_replica (s := s.removeExtent e.volume e.first) replica

/-- The removal of a record whose run the release list takes. -/
theorem removeLive_of_appended {s w : State} {e : Extent} (replica : (s.vol e.volume).defn.role = .replica) (appended : releaseAppend e.volume e.run s = some w) :
    removeLive e w = refundAccount (16 + e.volume.val) (e.len * (s.vol e.volume).defn.blockKiB) 1
      (w.setExtents (s.extents.filter fun z => !(decide (z.volume = e.volume) && decide (z.first = e.first)))) ∧ ∀ c, (removeLive e w).inCtx c = s.inCtx c := by
  obtain ⟨l, frame⟩ := releaseAppend_frame appended
  have vol : w.vol e.volume = s.vol e.volume := frame.vol e.volume
  have removed := removeLive_of_replica (s := w) (e := e) (by rw [vol]; exact replica)
  have extents : w.extents = s.extents := frame.extents
  rw [vol, extents] at removed
  refine ⟨removed, fun c => ?_⟩
  rw [removed, inCtx_refundAccount, State.setExtents_inCtx, noticesOnly_inCtx frame, State.setSnapVol_inCtx]

theorem moveCursor_of_kept {s t : State} {c : Ctx} (kept : t.inCtx c = s.inCtx c) (n : Nat) :
    moveCursor c n t = t.setInCtx c { s.inCtx c with cursor := n } := by rw [moveCursor, updateIn_eq, kept]

theorem Extent.marked_iff {e : Extent} {run : Nat} {k : MarkKind} : e.marked run k = true ↔ e.mark = some ⟨run, k⟩ := decide_eq_true_iff

theorem State.producing_of_not {s : State} {v : Vol} {p : Producer} (no : p ∉ (s.snapVol v).producers) : s.producing v p = false := by
  rw [State.producing, ← Bool.not_eq_true, List.contains_iff_mem]
  exact no

/-! ### The end of a commit (R151) -/

theorem insertSnapshot_of_greatest {x : Snapshot} {l : List Snapshot} (greatest : ∀ y ∈ l, y.epoch < x.epoch) : insertSnapshot x l = l ++ [x] := by
  induction l with
  | nil => rfl
  | cons y l ih =>
    rw [insertSnapshot, if_neg (Nat.lt_asymm (greatest y List.mem_cons_self)), ih fun z mem => greatest z (List.mem_cons_of_mem y mem)]
    rfl

theorem commitEnd_eq {s : State} {c : Ctx} {x : InCtx} {v : Vol} (hx : x = s.inCtx c) (hv : x.volume = v) (runs : (s.snapVol v).auto ≠ .stalled)
    (greatest : ∀ y ∈ (s.snapVol v).snaps, y.epoch < x.target) (up : s.lc.up = true) (room : s.lc.control.length < 16) :
    commitEnd c s = (raise .inboundCommitted v.val x.target
          (((((s.setExtents (s.extents.map fun e =>
                if e.volume = v ∧ (e.mark = some ⟨x.runId, .provBirth⟩ ∨ e.mark = some ⟨x.runId, .provDeath⟩) then { e with mark := none } else e)).setSnapVol v
              { s.snapVol v with
                commitPlace := none
                snaps := ((s.snapVol v).snaps.map fun y => { y with replBase := false }) ++ [⟨x.target, x.target, s.qu.clock, true, true, false, 0⟩] }).setVol v
              { s.vol v with baseLabel := some x.target, epoch := some (x.target + 1) }).setReplVol v
              { s.replVol v with last := some ⟨x.runId, x.peerId, x.peerAddr⟩ }).setLc { s.lc with
                control := s.lc.control ++ [⟨x.peerAddr, .closed, .backward, x.runId, x.sendVol, v.val, 0, 1, []⟩] })).setInCtx c .free := by
  subst hv
  have unmark : (fun e : Extent => if e.volume = x.volume ∧ (e.marked x.runId .provBirth || e.marked x.runId .provDeath) = true then { e with mark := none } else e) =
      fun e => if e.volume = x.volume ∧ (e.mark = some ⟨x.runId, .provBirth⟩ ∨ e.mark = some ⟨x.runId, .provDeath⟩) then { e with mark := none } else e := by
    funext e
    simp only [Bool.or_eq_true, Extent.marked_iff]
  obtain ⟨new, hnew⟩ : ∃ new : Snapshot, new = ⟨x.target, x.target, s.qu.clock, true, false, false, 0⟩ := ⟨_, rfl⟩
  obtain ⟨z, hz⟩ : ∃ z, z = { s.snapVol x.volume with commitPlace := none, snaps := (s.snapVol x.volume).snaps ++ [new] } := ⟨_, rfl⟩
  obtain ⟨u, hu⟩ : ∃ u, u = (s.setExtents (s.extents.map fun e =>
    if e.volume = x.volume ∧ (e.mark = some ⟨x.runId, .provBirth⟩ ∨ e.mark = some ⟨x.runId, .provDeath⟩) then { e with mark := none } else e)).setSnapVol x.volume z := ⟨_, rfl⟩
  have snaps : u.snapVol x.volume = z := by rw [hu, State.snapVol_setSnapVol, if_pos rfl]
  have found : (u.snapVol x.volume).snaps.find? (fun y => decide (y.epoch = x.target)) = some new := by
    have before : (s.snapVol x.volume).snaps.find? (fun y => decide (y.epoch = x.target)) = none :=
      List.find?_eq_none.2 fun y mem => by simp [ne_of_lt (greatest y mem)]
    rw [snaps, hz, List.find?_append, before, hnew]
    simp
  have moved := moveBase_of_unbased found (by rw [hnew]) (by rw [snaps, hz]; exact runs)
  have based : ((s.snapVol x.volume).snaps ++ [new]).map (fun y => { y with replBase := decide (y.epoch = x.target) }) =
      ((s.snapVol x.volume).snaps.map fun y => { y with replBase := false }) ++ [⟨x.target, x.target, s.qu.clock, true, true, false, 0⟩] := by
    rw [List.map_append, hnew]
    refine congr (congrArg _ (List.map_congr_left fun y mem => by rw [decide_eq_false (ne_of_lt (greatest y mem))])) ?_
    simp
  have volume : u.vol x.volume = s.vol x.volume := by rw [hu]; rfl
  rw [snaps, volume, hz] at moved
  simp only [based] at moved
  have last : insertSnapshot new (s.snapVol x.volume).snaps = (s.snapVol x.volume).snaps ++ [new] := insertSnapshot_of_greatest (by rw [hnew]; exact greatest)
  have inner : commitEnd c s = (fun m : State => (raise .inboundCommitted x.volume.val x.target (sendClosed c closedCommitted
      ((autoTrimAgain x.volume m).setReplVol x.volume { (autoTrimAgain x.volume m).replVol x.volume with last := some ⟨x.runId, x.peerId, x.peerAddr⟩ }))).setInCtx c .free)
      ((moveBase x.volume x.target u).setVol x.volume { (moveBase x.volume x.target u).vol x.volume with epoch := some (x.target + 1) }) := by
    simp only [commitEnd, ← hx, unmark, ← hnew, State.setExtents_snapVol, last, ← hz, ← hu]
  obtain ⟨m, hm⟩ : ∃ m, m = ((u.setSnapVol x.volume { s.snapVol x.volume with
      commitPlace := none
      snaps := ((s.snapVol x.volume).snaps.map fun y => { y with replBase := false }) ++ [⟨x.target, x.target, s.qu.clock, true, true, false, 0⟩] }).setVol x.volume
        { s.vol x.volume with baseLabel := some x.target, epoch := some (x.target + 1) }) := ⟨_, rfl⟩
  have epoch : (moveBase x.volume x.target u).setVol x.volume { (moveBase x.volume x.target u).vol x.volume with epoch := some (x.target + 1) } = m := by
    rw [moved, State.vol_setVol, if_pos rfl, State.setVol_setVol, hm, hnew]
  have looks : autoTrimAgain x.volume m = m := autoTrimAgain_of_not_stalled (by rw [hm, State.setVol_snapVol, State.snapVol_setSnapVol, if_pos rfl]; exact runs)
  have ctx : ∀ y, (m.setReplVol x.volume y).inCtx c = x := fun y => by rw [hm, hu, hx]; rfl
  have lc : ∀ y, (m.setReplVol x.volume y).lc = s.lc := fun y => by rw [hm, hu]; rfl
  rw [inner, epoch]
  dsimp only
  rw [looks, sendClosed_of_room (s := m.setReplVol x.volume _) c closedCommitted (by rw [lc]; exact up) (by rw [lc]; exact room), ctx, lc, hm, hu, State.setSnapVol_setSnapVol]
  rfl

/-- Settles O55: each visit moves the cursor after what it decides, and the ends are `commitEnd_eq` and the rollback's notice. -/
theorem commitAndRollbackScans : Obligations.CommitAndRollbackScans := by
  unfold Obligations.CommitAndRollbackScans
  intro s c x v hx hv
  subst hv
  have cursor : ∀ n, moveCursor c n s = s.setInCtx c { x with cursor := n } := fun n => by rw [hx]; rfl
  refine ⟨fun state free => ⟨fun e next role => ?_, fun next runs greatest up room => ?_⟩,
    fun state walks free => ⟨fun e next role => ?_, fun next away r reason => ?_⟩⟩
  · obtain ⟨-, vol, -⟩ := nextRecord_volume next
    rw [← vol] at role
    have visits : exec (.commitScanStep c) s = .next (commitVisit c e s) := by
      change execCommitScanStep c s = _
      simp only [execCommitScanStep, ← hx, state, State.producing_of_not free, and_self, if_true, next]
    have protects : s.dropHolds e (s.inCtx c).target = true ↔ ∃ y ∈ (s.snapVol x.volume).snaps, y.active = true ∧ e.birth ≤ y.epoch ∧ y.epoch < x.target := by
      rw [← hx, ← vol]
      exact protectedBy_iff
    rw [visits]
    refine ⟨fun other => ?_, fun mark => ⟨fun kept => ?_, fun free => ⟨fun w appended => ?_, fun full => ?_⟩⟩⟩
    · rw [commitVisit, ← hx, if_neg (mt Extent.marked_iff.1 other)]
      exact congrArg Host.Outcome.next (cursor _)
    · refine ⟨_, rfl, ?_⟩
      have held := holdRecord_of_replica x.target role
      have records : commitRecord c e s = some (holdRecord e x.target s) := by rw [commitRecord, if_pos (protects.2 kept), ← hx]
      rw [vol] at held
      simp only [commitVisit, ← hx, Extent.marked_iff.2 mark, if_true, records]
      rw [held, moveCursor_of_kept (s := s) (by rw [inCtx_chargeAccount, inCtx_refundAccount, State.setExtents_inCtx]), ← hx]
      rfl
    · refine ⟨_, rfl, ?_⟩
      rw [← vol] at appended
      change releaseAppend e.volume e.run s = some w at appended
      obtain ⟨removed, ctx⟩ := removeLive_of_appended role appended
      have records : commitRecord c e s = some (removeLive e w) := by
        rw [commitRecord, if_neg fun kept => (protects.1 kept).elim fun y ⟨mem, active, born, dies⟩ => (free y mem active).elim (Nat.not_lt.2 born) (Nat.not_le.2 dies), appended]
        rfl
      simp only [commitVisit, ← hx, Extent.marked_iff.2 mark, if_true, records]
      rw [moveCursor_of_kept (s := s) (ctx c), removed, vol, ← hx]
      rfl
    · rw [← vol] at full
      change releaseAppend e.volume e.run s = none at full
      have records : commitRecord c e s = none := by
        rw [commitRecord, if_neg fun kept => (protects.1 kept).elim fun y ⟨mem, active, born, dies⟩ => (free y mem active).elim (Nat.not_lt.2 born) (Nat.not_le.2 dies), full]
        rfl
      simp only [commitVisit, ← hx, Extent.marked_iff.2 mark, if_true, records]
      rw [cursor, vol]
  · change execCommitScanStep c s = _
    simp only [execCommitScanStep, ← hx, state, State.producing_of_not free, and_self, if_true, next]
    exact congrArg Host.Outcome.next (commitEnd_eq hx rfl runs greatest up room)
  · obtain ⟨-, vol, -⟩ := nextRecord_volume next
    rw [← vol] at role
    have visits : exec (.rollbackScanStep c) s = .next (rollbackVisit c e s) := by
      change execRollbackScanStep c s = _
      simp only [execRollbackScanStep, ← hx, state, walks, State.producing_of_not free, and_self, if_true, next]
    have marks : ∀ {k}, e.mark ≠ some ⟨x.runId, k⟩ → ¬e.marked x.runId k = true := fun other => mt Extent.marked_iff.1 other
    rw [visits]
    refine ⟨fun mark => ⟨fun w appended => ?_, fun full => ?_⟩, fun mark => ?_, fun birth death => ?_⟩
    · refine ⟨_, rfl, ?_⟩
      rw [← vol] at appended
      change releaseAppend e.volume e.run s = some w at appended
      obtain ⟨removed, ctx⟩ := removeLive_of_appended role appended
      have records : rollbackRecord e s = some (removeLive e w) := by rw [rollbackRecord, appended]; rfl
      simp only [rollbackVisit, ← hx, Extent.marked_iff.2 mark, if_true, records]
      rw [moveCursor_of_kept (s := s) (ctx c), removed, vol, ← hx]
      rfl
    · rw [← vol] at full
      change releaseAppend e.volume e.run s = none at full
      have records : rollbackRecord e s = none := by rw [rollbackRecord, full]; rfl
      simp only [rollbackVisit, ← hx, Extent.marked_iff.2 mark, if_true, records]
      rw [cursor, vol]
    · have born := marks (k := .provBirth) (by rw [mark]; simp)
      simp only [rollbackVisit, ← hx, if_neg born, Extent.marked_iff.2 mark, if_true, updateExtent_extents]
      refine congrArg Host.Outcome.next ((moveCursor_of_kept (s := s) (t := s.setExtents _) (by rfl) e.stop).trans ?_)
      rw [vol, ← hx]
      rfl
    · simp only [rollbackVisit, ← hx, if_neg (marks birth), if_neg (marks death)]
      exact congrArg Host.Outcome.next (cursor _)
  · have idle : s.holdsEngine .land c = false := by
      rw [← Bool.not_eq_true, State.holdsEngine_iff]
      rintro ⟨u, engine, land, num⟩
      exact (away u engine).elim (· land) (· num)
    change execRollbackScanStep c s = _
    simp only [execRollbackScanStep, ← hx, state, walks, State.producing_of_not free, and_self, if_true, next, rollbackWalked, idle, Bool.false_eq_true, if_false, rollbackEnd,
      reason, Option.getD_some]

end Sys2Proof.Machine
end

section
/-! GIVE_RUNS and REPLICA_RESET (7.5, 7.9). -/
namespace Sys2Proof.Machine

/-! ### What the ends of a retire queue leave (R72) -/

theorem reportTrim_frame (v : Vol) (x : RetireEntry) (s : State) : ∃ m u, reportTrim v x s = (s.setMem m).setRiu u := by
  have raised : ∀ k b c, ∃ m u, raise k b c s = (s.setMem m).setRiu u := fun k b c => ⟨s.mem, _, noticesOnly_raise k b c s⟩
  rw [reportTrim]
  split
  · obtain ⟨m, u, eq, -⟩ := answerDue_frame (s := s) _ _ _
    exact ⟨m, u, eq⟩
  · exact raised ..
  · exact raised ..

theorem reportAll_frame (v : Vol) (l : List RetireEntry) (s : State) : ∃ m u, l.foldl (fun t e => reportTrim v e t) s = (s.setMem m).setRiu u := by
  induction l generalizing s with
  | nil => exact ⟨s.mem, s.riu, rfl⟩
  | cons x l ih =>
    obtain ⟨m, u, one⟩ := reportTrim_frame v x s
    obtain ⟨n, w, more⟩ := ih (reportTrim v x s)
    exact ⟨n, w, by rw [List.foldl_cons, more, one]; rfl⟩

theorem reportTrim_eq {v : Vol} {x : RetireEntry} {s : State} (fits : x.records < 2 ^ 32) : reportTrim v x s = match x.origin with
    | .host r tag => answer r ⟨tag, 0x21, 0x02, x.records, x.epoch, x.kib⟩ s
    | _ => raise .snapshotTrimmed v.val x.epoch s := by
  have same : saturate 32 x.records = x.records := Nat.min_eq_left (Nat.le_sub_one_of_lt fits)
  simp only [reportTrim, same]
  cases x.origin <;> rfl

/-! ### The second stage (R154) -/

/-- The volume without its snapshots, its retire queue still to be reported. -/
def withoutSnapshots (v : Vol) (s : State) : State := s.setSnapVol v { s.snapVol v with
  trim := .idle, retire := [], snaps := [], auto := .off, producers := (s.snapVol v).producers.filter fun q => decide (q ≠ .trim) }

theorem resetSnapshots_eq (v : Vol) (s : State) : resetSnapshots v s =
    ((s.snapVol v).retire.foldl (fun t e => reportTrim v e t) (withoutSnapshots v s)).setVol v { s.vol v with baseLabel := none } := by
  obtain ⟨m, u, reported⟩ := reportAll_frame v (s.snapVol v).retire (withoutSnapshots v s)
  have cleared : (producerLeave v .trim s).setSnapVol v { (producerLeave v .trim s).snapVol v with trim := .idle, retire := [], snaps := [], auto := .off } =
      withoutSnapshots v s := by
    simp only [withoutSnapshots, producerLeave, State.setSnapVol_setSnapVol, State.snapVol_setSnapVol, if_true]
  simp only [resetSnapshots, cleared]
  rw [reported]
  rfl

theorem resetSnapshots_frame (v : Vol) (s : State) :
    ∃ m u, resetSnapshots v s = (((withoutSnapshots v s).setMem m).setRiu u).setVol v { s.vol v with baseLabel := none } := by
  obtain ⟨m, u, reported⟩ := reportAll_frame v (s.snapVol v).retire (withoutSnapshots v s)
  exact ⟨m, u, by rw [resetSnapshots_eq, reported]⟩

/-- The volume without its snapshots and records, before its accounts get their charges back. -/
def emptied (v : Vol) (s : State) : State := (resetSnapshots v s).setExtents (s.extents.filter fun e => decide (e.volume ≠ v))

theorem emptied_keeps (v : Vol) (s : State) : (∀ i, (emptied v s).account i = s.account i) ∧ (∀ w, (emptied v s).replVol w = s.replVol w) := by
  obtain ⟨m, u, frame⟩ := resetSnapshots_frame v s
  rw [emptied, frame]
  exact ⟨fun _ => rfl, fun _ => rfl⟩

theorem resetEmpty_eq {v : Vol} {j : ResetJob} {s : State} (some : s.extents.filter (fun e => decide (e.volume = v)) ≠ []) :
    let es := s.extents.filter fun e => decide (e.volume = v)
    let charge := fun l : List Extent => (l.map fun e => e.len * (s.vol v).defn.blockKiB).sum
    let live := es.filter fun e => e.death.isNone
    let held := es.filter fun e => e.death.isSome
    let t := refundAccount v.val (charge held) held.length (refundAccount (16 + v.val) (charge live) live.length (emptied v s))
    resetEmpty v j s = t.setReplVol v { t.replVol v with
      last := none
      reset := Option.some ⟨j.answer, true, es.map fun e => ⟨e.first, e.len⟩, es.length, (s.snapVol v).snaps.length, (es.map Extent.len).sum⟩ } := by
  intro es charge live held t
  obtain ⟨m, u, frame⟩ := resetSnapshots_frame v s
  have records : (resetSnapshots v s).records v = es := by rw [frame]; rfl
  have charges : ∀ l, (resetSnapshots v s).chargesOf v l = charge l := fun l => by
    have block : ((resetSnapshots v s).vol v).defn = (s.vol v).defn := by rw [frame, State.vol_setVol, if_pos rfl]
    simp only [State.chargesOf, State.chargeOf, block, charge]
  have extents : (resetSnapshots v s).extents = s.extents := by rw [frame]; rfl
  have dead : es.filter (fun e => !e.live) = held := List.filter_congr fun e _ => by simp [Extent.live]
  have lens : runsLen (es.map Extent.run) = (es.map Extent.len).sum := by rw [runsLen, List.map_map]; rfl
  have index : landingIndex v = 16 + v.val := Nat.add_comm ..
  have filled : es.isEmpty = false := by
    rw [← Bool.not_eq_true, List.isEmpty_iff]
    exact some
  simp only [resetEmpty, records, charges, extents, dead, filled, Bool.false_eq_true, if_false, lens, index]
  rfl

/-! ### The third stage (R154) -/

theorem exec_replicaResetAppend {s : State} {v : Vol} {j : ResetJob} {g : Run} {rest : List Run} (reset : (s.replVol v).reset = some j) (after : j.emptied = true)
    (outgoing : j.outgoing = g :: rest) (idle : .reset ∉ (s.snapVol v).producers) : exec (.replicaResetAppend v) s = .next (((releaseAppend v g s).map fun t =>
      if rest.isEmpty then resetEnd v { j with outgoing := rest } t else t.setReplVol v { t.replVol v with reset := some { j with outgoing := rest } }).getD
        (producerWait v .reset s)) := by
  have append : resetAppend v j s = (releaseAppend v g s).map fun t =>
      if rest.isEmpty then resetEnd v { j with outgoing := rest } t else t.setReplVol v { t.replVol v with reset := some { j with outgoing := rest } } := by
    simp only [resetAppend, outgoing]
  change execReplicaResetAppend v s = _
  simp only [execReplicaResetAppend, reset, after, State.producing_of_not idle, and_self, if_true, append]
  cases releaseAppend v g s <;> rfl

theorem replVol_of_appended {s t : State} {v : Vol} {g : Run} (appended : releaseAppend v g s = some t) (w : Vol) : t.replVol w = s.replVol w := by
  obtain ⟨l, frame⟩ := releaseAppend_frame appended
  exact congrArg (fun d : Dr => d.vols[w]) frame.dr

/-- Settles O57: the checks passed, the context of the volume aborted, and the two later stages. -/
theorem poolsAreGivenAndReplicasReset : Obligations.PoolsAreGivenAndReplicasReset := by
  unfold Obligations.PoolsAreGivenAndReplicasReset
  refine ⟨fun s r tag p runs v pool up form vol defined role good apart hpool room => ?_, fun s r tag v t up opened role fresh ht => ?_,
    fun s v j es charge b reset first noCtx hes filled fits landing reserve hcharge hb live held z hlive hheld hz => ?_,
    fun s v j g rest reset after outgoing idle fits => ⟨fun full => ?_, fun t appended => ⟨fun more => ?_, fun r tag last dest => ?_⟩⟩⟩
  · have runsOk : (runs.any fun x : Run => decide (x.len = 0 ∨ 65535 < x.len)) = false := List.any_eq_false.2 fun g mem => by
      obtain ⟨low, high, -, -⟩ := good g mem
      simp only [decide_eq_true_eq]
      omega
    have inside : (runs.any fun x : Run => decide ((s.vol v).defn.blockCount < x.first + x.len)) = false := List.any_eq_false.2 fun g mem => by
      obtain ⟨-, -, top, -⟩ := good g mem
      simp only [decide_eq_true_eq]
      omega
    have free : (runs.any (s.taken v)) = false := List.any_eq_false.2 fun g mem => by simp [(good g mem).2.2.2]
    have fit : decide (4096 < (s.replVol v).pool.length + runs.length) = false := by
      rw [hpool, List.length_append] at room
      exact decide_eq_false (Nat.not_lt.2 room)
    have passes := passed_of_not_failing _ (reqGiveRuns_checked up r tag runs form vol)
      (by simp only [List.map_cons, List.map_nil, runsOk, inside, free, apart, fit]; simp [defined, role])
    refine (congrArg Host.Outcome.next passes).trans ?_
    have given : giveRunsAccept v runs s = s.setReplVol v { s.replVol v with pool := pool } := by rw [hpool]; rfl
    simp only [given, State.replVol_setReplVol, if_true]
    rfl
  · have passes := passed_of_not_failing _ (reqReplicaReset_checked (v := v) up r tag)
    obtain ⟨live, defined⟩ : (s.vol v).state ≠ .undefined ∧ (s.vol v).state ≠ .defined := by
      rcases opened with h | h <;> rw [h] <;> decide
    have accepts : ∀ o, s.ctxOf v.val = o → (∀ c, o = some c → (s.inCtx c).state ≠ .committing) → exec (.replicaReset r tag v.val) s =
        .next (answer r ⟨tag, 0x49, 0x01, 0, 0, 0⟩ (o.elim t fun c => abortCtx inboundReplicaReset true c t)) := by
      intro o ctx calm
      have quiet : (ctxList.any fun c => decide (s.ctxOf v.val = some c) && decide ((s.inCtx c).state = .committing)) = false := by
        rw [List.any_eq_false]
        intro c _
        rw [Bool.and_eq_true, decide_eq_true_eq, decide_eq_true_eq, ctx]
        exact fun ⟨here, commits⟩ => calm c here commits
      refine (congrArg Host.Outcome.next (passes (by simp only [List.map_cons, List.map_nil, quiet, fresh]; simp [live, defined, role]))).trans ?_
      have accepted : resetAccept r tag v s = o.elim t fun c => abortCtx inboundReplicaReset true c t := by
        rw [ht]
        simp only [resetAccept, ctx]
        cases o <;> rfl
      rw [accepted]
      rfl
    refine ⟨fun free => accepts none (State.ctxOf_eq_none fun c => ?_) nofun, fun c is vol others => accepts (some c) ?_ ?_⟩
    · by_cases taken : (s.inCtx c).state = .free
      · exact .inl taken
      · exact .inr (free c taken)
    · exact State.ctxOf_of_only (by rw [is]; decide) vol others
    · intro d same
      rw [← Option.some.inj same, is]
      decide
  · subst hes hcharge hlive hheld
    have isB : b = emptied v s := by
      rw [hb, emptied, resetSnapshots_eq]
      refine congrArg (fun t : State => (t.setVol v { s.vol v with baseLabel := none }).setExtents (s.extents.filter fun e => decide (e.volume ≠ v))) ?_
      refine List.foldl_ext _ _ _ fun t x mem => ?_
      refine .trans ?_ (reportTrim_eq (fits x mem)).symm
      cases x.origin <;> rfl
    obtain ⟨account, replVol⟩ := emptied_keeps v s
    rw [← isB] at account replVol
    obtain ⟨es, hes⟩ : ∃ es, es = s.extents.filter fun e => decide (e.volume = v) := ⟨_, rfl⟩
    have ends := resetEmpty_eq (v := v) (j := j) (s := s) filled
    rw [← hes, ← isB] at ends
    rw [← hes] at hz ⊢
    dsimp only at ends hz ⊢
    obtain ⟨c1, hc1⟩ : ∃ n, n = ((es.filter fun e => e.death.isNone).map fun e => e.len * (s.vol v).defn.blockKiB).sum := ⟨_, rfl⟩
    obtain ⟨c2, hc2⟩ : ∃ n, n = ((es.filter fun e => e.death.isSome).map fun e => e.len * (s.vol v).defn.blockKiB).sum := ⟨_, rfl⟩
    rw [← hc1, ← hc2] at ends
    rw [← hc2] at hz
    simp only [← hc1, ← hc2]
    obtain ⟨only1, reads1⟩ := refundAccount_landing_only (c := c1) (n := (es.filter fun e => e.death.isNone).length) (s := b) (i := 16 + v.val)
      (by rw [account]; exact landing)
    obtain ⟨u, hu⟩ : ∃ u, u = refundAccount (16 + v.val) c1 (es.filter fun e => e.death.isNone).length b := ⟨_, rfl⟩
    rw [← hu] at ends only1 reads1
    have apart : v.val ≠ 16 + v.val := by omega
    have kept : u.account v.val = s.account v.val := by rw [reads1, if_neg apart, account]
    obtain ⟨m, refunded, only2, reads2⟩ := refundAccount_reserve_only (c := c2) (n := (es.filter fun e => e.death.isSome).length) (s := u) (i := v.val)
      (by rw [kept]; exact reserve)
    rw [toVol_val, kept, ← hz] at refunded only2
    rw [kept, ← hz] at reads2
    rw [account] at only1 reads1
    refine ⟨m, only1.trans only2, fun k => ?_, ?_⟩
    · rw [reads2]
      by_cases first : k = 16 + v.val
      · rw [if_pos first, if_neg (by omega), reads1, if_pos first, ← first]
        rfl
      · rw [if_neg first]
        refine ite_congr rfl (fun same => by rw [same]) fun _ => ?_
        rw [reads1, if_neg first, account]
    · have ctx : (s.ctxOf v.val).isNone = true := by
        rw [State.ctxOf_eq_none fun c => ?_]
        · rfl
        · by_cases taken : (s.inCtx c).state = .free
          · exact .inl taken
          · exact .inr (noCtx c taken)
      have repl : (reserveTrim v (s.account v.val).state z m).replVol v = s.replVol v := by
        obtain ⟨y, frame⟩ := reserveTrim_frame v (s.account v.val).state z m
        have mid : u.replVol v = b.replVol v := by
          rw [only1.1]
          exact congrArg (fun d : Dr => d.vols[v]) (noticesOnly_raising _ _).dr
        have last : m.replVol v = u.replVol v := by
          rw [only2.1]
          exact congrArg (fun d : Dr => d.vols[v]) (noticesOnly_raising _ _).dr
        rw [frame]
        exact last.trans (mid.trans (replVol v))
      rw [refunded, repl] at ends
      change execReplicaResetEmpty v s = _
      simp only [execReplicaResetEmpty, reset, first, ctx, and_self, if_true]
      exact congrArg Host.Outcome.next ends
  · rw [exec_replicaResetAppend reset after outgoing idle, full]
    rfl
  · have repl : t.replVol v = s.replVol v := replVol_of_appended appended v
    rw [exec_replicaResetAppend reset after outgoing idle, appended, Option.map_some, Option.getD_some, if_neg (by rw [List.isEmpty_iff]; exact more), repl]
  · have repl : t.replVol v = s.replVol v := replVol_of_appended appended v
    have counted : saturate 32 j.records = j.records := Nat.min_eq_left (Nat.le_sub_one_of_lt fits)
    rw [exec_replicaResetAppend reset after outgoing idle, appended, Option.map_some, Option.getD_some, if_pos (List.isEmpty_iff.2 last)]
    simp only [resetEnd, dest, answerIf, counted, repl]
    rfl

end Sys2Proof.Machine
end

section
/-! The store's definitions taking effect (10.4). -/
namespace Sys2Proof.Machine

/-! ### The accounts of a definition (R23) -/

/-- The RESERVE and the LANDING account that a definition gives its volume. -/
def VolumeDef.reserveAccount (d : VolumeDef) : Account :=
  if d.role = .unused then Account.none else ⟨.reserve, 0, d.reserveLimit, d.reserveMargin, 0, none, .under, false, 0⟩
def VolumeDef.landingAccount (d : VolumeDef) : Account :=
  if d.role = .replica then ⟨.landing, 0, d.landingLimit, d.landingMargin, 0, none, .under, false, 0⟩ else Account.none

theorem setVolumeAccounts_eq (v : Vol) (d : VolumeDef) (s : State) :
    setVolumeAccounts v d s = (s.setAccount v.val d.reserveAccount).setAccount (16 + v.val) d.landingAccount := by
  rw [setVolumeAccounts, VolumeDef.reserveAccount, VolumeDef.landingAccount, Nat.add_comm 16]
  cases role : d.role <;> rfl

theorem account_setAccount_of_wf {s : State} (wf : sparseWf Account.none s.qu.accounts = true) (i j : Nat) (a : Account) :
    (s.setAccount i a).account j = if j = i then a else s.account j := sparseGet_set _ _ _ _ _ wf

theorem account_setVolumeAccounts {s : State} (wf : sparseWf Account.none s.qu.accounts = true) (v : Vol) (d : VolumeDef) (j : Nat) :
    (setVolumeAccounts v d s).account j = if j = 16 + v.val then d.landingAccount else if j = v.val then d.reserveAccount else s.account j := by
  rw [setVolumeAccounts_eq, account_setAccount_of_wf (sparseWf_set _ _ _ _ wf), account_setAccount_of_wf wf]

theorem wf_setVolumeAccounts {s : State} (wf : sparseWf Account.none s.qu.accounts = true) (v : Vol) (d : VolumeDef) :
    sparseWf Account.none (setVolumeAccounts v d s).qu.accounts = true := by
  rw [setVolumeAccounts_eq]
  exact sparseWf_set _ _ _ _ (sparseWf_set _ _ _ _ wf)

/-- Of the accounts `a`, those of the volumes of `p` have become the ones their definitions `d` give. -/
structure AccountsTaken (p : Vol → Bool) (d : Vol → VolumeDef) (a b : Nat → Account) : Prop where
  reserve : ∀ v, b v.val = if p v then (d v).reserveAccount else a v.val
  landing : ∀ v : Vol, b (16 + v.val) = if p v then (d v).landingAccount else a (16 + v.val)
  others : ∀ i, 32 ≤ i → b i = a i

theorem AccountsTaken.step {p : Vol → Bool} {d : Vol → VolumeDef} {a b c : Nat → Account} (h : AccountsTaken p d a b) (v : Vol)
    (reads : ∀ j, c j = if j = 16 + v.val then (d v).landingAccount else if j = v.val then (d v).reserveAccount else b j) :
    AccountsTaken (fun w => p w || decide (w = v)) d a c := by
  refine ⟨fun w => ?_, fun w => ?_, fun i high => ?_⟩
  · rw [reads, if_neg (by omega), h.reserve]
    by_cases here : w = v
    · simp [here]
    · rw [if_neg fun eq => here (Fin.ext eq)]
      simp [here]
  · rw [reads, if_neg (c := 16 + w.val = v.val) (by omega), h.landing]
    by_cases here : w = v
    · simp [here]
    · rw [if_neg fun eq => here (Fin.ext (by omega))]
      simp [here]
  · rw [reads, if_neg (by omega), if_neg (by omega), h.others i high]

/-! ### Volumes that take definitions (R198) -/

/-- `t` is `s` after the volumes of `p` have taken the definitions `d`. -/
structure Taken (p : Vol → Bool) (d : Vol → VolumeDef) (s t : State) : Prop where
  wf : sparseWf Account.none t.qu.accounts = true
  vol : ∀ v, t.vol v = if p v then (d v).record else s.vol v
  accounts : AccountsTaken p d s.account t.account
  repl : ∀ v, t.replVol v = if p v ∧ (d v).repools (s.vol v).defn then { s.replVol v with pool := [], takeMark := 0 } else s.replVol v
  frame : t = ((s.setEtu { s.etu with vols := t.etu.vols }).setDr { s.dr with vols := t.dr.vols }).setQu { s.qu with accounts := t.qu.accounts }

theorem Taken.refl {s : State} (wf : sparseWf Account.none s.qu.accounts = true) (d : Vol → VolumeDef) : Taken (fun _ => false) d s s :=
  ⟨wf, fun _ => rfl, ⟨fun _ => rfl, fun _ => rfl, fun _ _ => rfl⟩, fun _ => rfl, rfl⟩

theorem takeDefinition_eq (v : Vol) (d : VolumeDef) (s : State) : takeDefinition v d s = setVolumeAccounts v d ((s.setReplVol v
    (if d.repools (s.vol v).defn then { s.replVol v with pool := [], takeMark := 0 } else s.replVol v)).setVol v d.record) := by
  rw [takeDefinition]
  by_cases repools : d.repools (s.vol v).defn = true
  · rw [if_pos repools, if_pos repools]
  · rw [if_neg repools, if_neg repools, State.setReplVol_replVol]

theorem Taken.step {p : Vol → Bool} {d : Vol → VolumeDef} {s t : State} (h : Taken p d s t) {v : Vol} (new : p v = false) :
    Taken (fun w => p w || decide (w = v)) d s (takeDefinition v (d v) t) := by
  have old : t.vol v = s.vol v := by rw [h.vol, if_neg (by simp [new])]
  have repl : t.replVol v = s.replVol v := by rw [h.repl, if_neg (by simp [new])]
  rw [takeDefinition_eq, old, repl]
  refine ⟨wf_setVolumeAccounts (s := (t.setReplVol _ _).setVol _ _) h.wf v (d v), fun w => ?_, h.accounts.step v fun j => ?_, fun w => ?_, ?_⟩
  · rw [setVolumeAccounts_eq]
    refine (State.vol_setVol _ v w _).trans ?_
    by_cases here : w = v
    · simp [here]
    · simp [here, Ne.symm here, h.vol]
  · exact account_setVolumeAccounts (s := (t.setReplVol _ _).setVol _ _) h.wf v (d v) j
  · rw [setVolumeAccounts_eq]
    refine (State.replVol_setReplVol t v w _).trans ?_
    by_cases here : w = v
    · simp [here]
    · simp [here, Ne.symm here, h.repl]
  · have frame := h.frame
    rw [setVolumeAccounts_eq]
    conv_lhs => rw [frame]
    rfl

theorem Taken.fold {d : Vol → VolumeDef} {s : State} (takes : Vol → Bool) (l : List Vol) : ∀ {p : Vol → Bool} {t : State}, Taken p d s t → l.Nodup → (∀ v ∈ l, p v = false) →
    Taken (fun w => p w || (decide (w ∈ l) && takes w)) d s (l.foldl (fun t v => if takes v then takeDefinition v (d v) t else t) t) := by
  induction l with
  | nil => exact fun h _ _ => by simpa using h
  | cons v l ih =>
    intro p t h nodup new
    obtain ⟨apart, nodup⟩ := List.nodup_cons.1 nodup
    rw [List.foldl_cons]
    by_cases yes : takes v = true
    · rw [if_pos yes]
      have next := ih (h.step (new v List.mem_cons_self)) nodup fun w mem => by
        have ne : w ≠ v := fun eq => apart (eq ▸ mem)
        simp [new w (List.mem_cons_of_mem v mem), ne]
      refine cast (congrArg (fun p => Taken p d s _) (funext fun w => ?_)) next
      by_cases here : w = v
      · simp [here, yes]
      · simp [here]
    · rw [if_neg yes]
      have next := ih h nodup fun w mem => new w (List.mem_cons_of_mem v mem)
      refine cast (congrArg (fun p => Taken p d s _) (funext fun w => ?_)) next
      by_cases here : w = v
      · simp [here, yes]
      · simp [here]

/-- Every volume that takes definitions has taken them. -/
theorem Taken.all {d : Vol → VolumeDef} {s : State} (wf : sparseWf Account.none s.qu.accounts = true) (takes : Vol → Bool) :
    Taken takes d s (volList.foldl (fun t v => if takes v then takeDefinition v (d v) t else t) s) := by
  have all := Taken.fold takes volList (Taken.refl wf d) (List.nodup_finRange 16) fun _ _ => rfl
  simpa [volList, List.mem_finRange] using all

theorem Taken.setBy {p : Vol → Bool} {d : Vol → VolumeDef} {s t : State} (h : Taken p d s t) {v : Vol} (takes : p v = true) : t.setBy v (d v) :=
  ⟨by rw [h.vol, if_pos takes]; rfl, by rw [h.accounts.reserve, if_pos takes]; rfl, by rw [h.accounts.landing, if_pos takes]; rfl⟩

/-! ### The link and the settings (R161, R171, R197) -/

theorem takeLink_setBy {x : Ps} {n : Nat} {page : Nat → List Byte} (pages : ∀ k, x.page n k = page k) (keep : Bool) (s : State) :
    ∃ l, takeLink keep x n s = s.setLc l ∧ l = { s.lc with peers := l.peers, localId := l.localId, etherType := l.etherType } ∧ l.setBy page ∧
      ∀ i : Ctx, l.peers[i].frameError = true ↔ keep = true ∧ s.lc.peers[i].frameError = true ∧ l.peers[i].address = s.lc.peers[i].address ∧ l.peers[i].id = s.lc.peers[i].id := by
  obtain ⟨ps, hps⟩ : ∃ ps : Vector Peer 4, ps = Vector.ofFn fun i : Fin 4 => if keep then takePeer s.lc.peers[i] (peerOf (page (17 + i.val))) else peerOf (page (17 + i.val)) :=
    ⟨_, rfl⟩
  have peer : ∀ i : Ctx, ps[i] = if keep then takePeer s.lc.peers[i] (peerOf (page (17 + i.val))) else peerOf (page (17 + i.val)) := fun i => by
    rw [hps, Fin.getElem_fin, Vector.getElem_ofFn]
  refine ⟨{ s.lc with peers := ps, localId := field (page 0) 32 4, etherType := field (page 0) 36 2 }, ?_, rfl, ⟨rfl, rfl, fun i => ?_⟩, fun i => ?_⟩
  · simp only [takeLink, pages, hps]
  · change ps[i].address = _ ∧ ps[i].id = _ ∧ (ps[i].enabled = true ↔ _)
    rw [peer]
    cases keep <;> simp [takePeer, peerOf]
  · change ps[i].frameError = true ↔ keep = true ∧ s.lc.peers[i].frameError = true ∧ ps[i].address = s.lc.peers[i].address ∧ ps[i].id = s.lc.peers[i].id
    rw [peer]
    cases keep
    · simp [peerOf]
    · simp only [if_true, takePeer, Bool.and_eq_true, decide_eq_true_eq, true_and]
      tauto

theorem Settings.pAt_eq (x : Settings) (clock : Nat) : (nightAt x.nightStart x.nightEnd (clock % 86400 / 3600) → x.pAt clock = x.pNight) ∧
    (¬nightAt x.nightStart x.nightEnd (clock % 86400 / 3600) → x.pAt clock = x.pDay) := by
  have night : nightApplies x (hourOf clock) = true ↔ nightAt x.nightStart x.nightEnd (clock % 86400 / 3600) := by
    unfold nightApplies hourOf nightAt
    split
    · simp only [Bool.and_eq_true, decide_eq_true_eq]
      omega
    · split
      · simp only [Bool.or_eq_true, decide_eq_true_eq]
        omega
      · simp only [Bool.false_eq_true, false_iff]
        omega
  exact ⟨fun h => if_pos (night.2 h), fun h => if_neg (mt night.1 h)⟩

theorem takeSettings_setBy {x : Ps} {n : Nat} {page : List Byte} (pages : x.page n 21 = page) (s : State) :
    ∃ d, takeSettings x n s = s.setDs d ∧ d = { s.ds with settings := d.settings, p := d.p } ∧ d.setBy page s.qu.clock := by
  refine ⟨{ s.ds with settings := settingsOf page, p := (settingsOf page).pAt s.qu.clock }, by rw [← pages]; rfl, rfl, rfl, rfl, ?_, rfl, rfl, Settings.pAt_eq (settingsOf page) _⟩
  simp only [settingsOf, Bool.and_eq_true, decide_eq_true_eq]
  split <;> rfl

end Sys2Proof.Machine
end

section
/-! The definitions of the store and FORMAT (10.4, 10.8). -/
namespace Sys2Proof.Machine

/-! ### A volume page (R197, Table 11-11) -/

/-- What makes a volume page bad whatever its role, and what makes its peer fields good. -/
def pageBad (b : List Byte) : Prop :=
  field b 1 1 ∉ [4, 8, 16, 32, 64] ∨ field b 8 8 = 0 ∨ 1099511627776 < field b 8 8 ∨ field b 16 8 % (field b 1 1 * 1024) ≠ 0 ∨ 281474976710655 < field b 24 8 ∨ 7 < field b 3 1

theorem volumePageOk_iff (b : List Byte) : volumePageOk b = true ↔
    ¬pageBad b ∧ (roleOf (field b 0 1) ≠ .replica ∨ (field b 32 8 ≤ 281474976710655 ∧ field b 4 1 ≤ 7)) := by
  have max40 : Config.maxBlocks = 1099511627776 := rfl
  have max48 : Config.max48 = 281474976710655 := rfl
  simp only [volumePageOk, pageBad, Bool.and_eq_true, Bool.or_eq_true, decide_eq_true_eq, List.contains_iff_mem, max40, max48, not_or, not_not, Nat.not_lt]
  have one : 1 ≤ field b 8 8 ↔ ¬field b 8 8 = 0 := Nat.one_le_iff_ne_zero
  rw [one]
  tauto

theorem volumeDefOf_of_unused {b : List Byte} (unused : roleOf (field b 0 1) = .unused ∨ volumePageOk b ≠ true) : volumeDefOf b = .unused := by
  rw [volumeDefOf]
  exact if_pos (unused.imp id (Bool.eq_false_iff.2 ·))

theorem volumeDefOf_of_good {b : List Byte} (used : roleOf (field b 0 1) ≠ .unused) (good : volumePageOk b = true) : volumeDefOf b =
    ⟨roleOf (field b 0 1), field b 1 1, field b 8 8, field b 16 8, field b 24 8, field b 3 1, decide (field b 2 1 = 1),
      if roleOf (field b 0 1) = .primary ∧ field b 5 1 ≤ 3 ∧ field b 6 1 ≤ 15 then some (field b 5 1) else none,
      if roleOf (field b 0 1) = .primary ∧ field b 5 1 ≤ 3 ∧ field b 6 1 ≤ 15 then some (field b 6 1) else none,
      if roleOf (field b 0 1) = .replica then field b 32 8 else 0, if roleOf (field b 0 1) = .replica then field b 4 1 else 0⟩ := by
  rw [volumeDefOf]
  refine (if_neg ?_).trans ?_
  · simp [used, good]
  · simp only [Bool.and_eq_true, decide_eq_true_eq, and_assoc]

/-! ### FORMAT (R201) -/

theorem cancelQueued_frame (s : State) : ∃ z m u, cancelQueued s = (((s.setDs { s.ds with queue := [] }).setSu z).setMem m).setRiu u := by
  have folds : ∀ (l : List QueuedRun) (t : State), ∃ z m u, l.foldl (fun t x => answer x.ring (cancelledAnswer x) (releaseQueued x t)) t = ((t.setSu z).setMem m).setRiu u := by
    intro l
    induction l with
    | nil => exact fun t => ⟨t.su, t.mem, t.riu, rfl⟩
    | cons x l ih =>
      intro t
      have released : ∃ z, releaseQueued x t = t.setSu z := by
        rw [releaseQueued]
        split
        · exact ⟨t.su, rfl⟩
        · obtain ⟨y, eq, -⟩ := releaseTarget_eq x.volume t
          exact ⟨_, eq⟩
      obtain ⟨z, released⟩ := released
      obtain ⟨m, u, answered, -⟩ := answerDue_frame (s := releaseQueued x t) x.ring (cancelledAnswer x) .none
      obtain ⟨z', m', u', more⟩ := ih (answer x.ring (cancelledAnswer x) (releaseQueued x t))
      refine ⟨z', m', u', ?_⟩
      rw [List.foldl_cons, more, answer, answered, released]
      rfl
  exact folds _ _

/-- The definition a volume holds, as FORMAT reads it. -/
def State.heldDefn (s : State) (v : Vol) : VolumeDef := if (s.vol v).state = .undefined then .unused else (s.vol v).defn

/-- The accounts of one volume after FORMAT. -/
def formatAccountsOf (t : State) (v : Vol) : State := setVolumeAccounts v (t.heldDefn v) t

theorem formatAccounts_spec (s : State) : ∃ a, formatAccounts s = s.setQu { s.qu with accounts := a, timers := [] } ∧ sparseWf Account.none a = true ∧
    AccountsTaken (fun _ => true) s.heldDefn (fun _ => Account.none) fun i => sparseGet Account.none a i := by
  have folds : ∀ (l : List Vol) (p : Vol → Bool) (a : List (Nat × Account)), sparseWf Account.none a = true →
      AccountsTaken p s.heldDefn (fun _ => Account.none) (fun i => sparseGet Account.none a i) →
      ∃ b, l.foldl formatAccountsOf (s.setQu { s.qu with accounts := a, timers := [] }) =
          s.setQu { s.qu with accounts := b, timers := [] } ∧ sparseWf Account.none b = true ∧
        AccountsTaken (fun w => p w || decide (w ∈ l)) s.heldDefn (fun _ => Account.none) fun i => sparseGet Account.none b i := by
    intro l
    induction l with
    | nil => exact fun p a wf h => ⟨a, rfl, wf, by simpa using h⟩
    | cons v l ih =>
      intro p a wf h
      obtain ⟨t, ht⟩ : ∃ t, t = s.setQu { s.qu with accounts := a, timers := [] } := ⟨_, rfl⟩
      have wft : sparseWf Account.none t.qu.accounts = true := by rw [ht]; exact wf
      have next := h.step (c := (setVolumeAccounts v (s.heldDefn v) t).account) v fun j => by
        rw [account_setVolumeAccounts wft]
        subst ht
        rfl
      have one : setVolumeAccounts v (s.heldDefn v) t = s.setQu { s.qu with accounts := (setVolumeAccounts v (s.heldDefn v) t).qu.accounts, timers := [] } := by
        rw [setVolumeAccounts_eq, ht]
        rfl
      obtain ⟨b, eq, wfb, all⟩ := ih _ _ (wf_setVolumeAccounts wft v (s.heldDefn v)) next
      refine ⟨b, ?_, wfb, cast (congrArg (fun p => AccountsTaken p _ _ _) (funext fun w => ?_)) all⟩
      · rw [List.foldl_cons, ← eq]
        refine congrArg (l.foldl formatAccountsOf) (.trans ?_ one)
        rw [ht]
        rfl
      · by_cases here : w = v <;> simp [here]
  obtain ⟨b, eq, wf, all⟩ := folds volList (fun _ => false) [] rfl ⟨fun _ => rfl, fun _ => rfl, fun _ _ => rfl⟩
  exact ⟨b, eq, wf, by simpa [volList, List.mem_finRange] using all⟩

/-! ### Definitions taking effect (R198, R200) -/

/-- What the volumes of `takes`, the link and the settings have when the store's definitions have taken effect. -/
structure TakenAll (takes : Vol → Bool) (page : Nat → List Byte) (keep : Bool) (s t : State) : Prop where
  volumes : Taken takes (fun v => volumeDefOf (page (1 + v.val))) s ((t.setLc s.lc).setDs s.ds)
  link : t.lc = { s.lc with peers := t.lc.peers, localId := t.lc.localId, etherType := t.lc.etherType }
  linkSet : t.lc.setBy page
  errors : ∀ i : Ctx, t.lc.peers[i].frameError = true ↔ keep = true ∧ s.lc.peers[i].frameError = true ∧
    t.lc.peers[i].address = s.lc.peers[i].address ∧ t.lc.peers[i].id = s.lc.peers[i].id
  sender : t.ds = { s.ds with settings := t.ds.settings, p := t.ds.p }
  senderSet : t.ds.setBy (page 21) s.qu.clock

theorem takenAll_of {s : State} (wf : sparseWf Account.none s.qu.accounts = true) {x : Ps} {n : Nat} {page : Nat → List Byte} (pages : ∀ k, x.page n k = page k)
    (takes : Vol → Bool) (keep : Bool) : TakenAll takes page keep s (takeSettings x n (takeLink keep x n
      (volList.foldl (fun t v => if takes v then takeDefinition v (x.volumeDef n v) t else t) s))) := by
  have defs : x.volumeDef n = fun v => volumeDefOf (page (1 + v.val)) := funext fun v => congrArg volumeDefOf (pages _)
  rw [defs]
  have all := Taken.all (d := fun v => volumeDefOf (page (1 + v.val))) wf takes
  obtain ⟨u, hu⟩ : ∃ u, u = volList.foldl (fun t v => if takes v then takeDefinition v (volumeDefOf (page (1 + v.val))) t else t) s := ⟨_, rfl⟩
  rw [← hu] at all ⊢
  have lc : u.lc = s.lc := by rw [all.frame]; rfl
  have ds : u.ds = s.ds := by rw [all.frame]; rfl
  have clock : u.qu.clock = s.qu.clock := by rw [all.frame]; rfl
  obtain ⟨l, linked, link, linkSet, errors⟩ := takeLink_setBy pages keep u
  obtain ⟨e, sent, sender, senderSet⟩ := takeSettings_setBy (pages 21) (u.setLc l)
  rw [lc] at link errors
  rw [State.setLc_ds, ds] at sender
  have last : takeSettings x n (takeLink keep x n u) = (u.setLc l).setDs e := by rw [linked, sent]
  rw [last]
  refine ⟨?_, link, linkSet, errors, sender, clock ▸ senderSet⟩
  have same : (((u.setLc l).setDs e).setLc s.lc).setDs s.ds = u := by
    rw [← lc, ← ds]
    rfl
  rw [same]
  exact all

theorem Ps.page_of_idle {x : Ps} (quiet : x.commit = none) (n p : Nat) :
    x.page n p = (List.range 256).map fun i => sparseGet 0xFF x.pages (256 * p + i) := Ps.bytes_of_quiet quiet n _ _

theorem Ps.verifies_of_quiet {x : Ps} (quiet : x.commit = none) (n : Nat) : x.verifies n = x.verifies 0 := by
  simp only [Ps.verifies, Ps.crc_of_quiet quiet, Ps.storedCrc_of_quiet quiet]

theorem applyRefusal_of_idle {s : State} (quiet : s.ps.commit = none) (format : s.ps.format = none) :
    applyRefusal s = if s.ps.verifies 0 then none else some .storeBad := by
  obtain ⟨good, hgood⟩ : ∃ b, b = s.ps.verifies 0 := ⟨_, rfl⟩
  have same := (Ps.verifies_of_quiet quiet s.free).trans hgood.symm
  rw [← hgood, applyRefusal, same, quiet, format]
  cases good <;> rfl

theorem exec_applyDefinitions {s : State} {r : RingNo} {tag : Nat} (up : s.up) (quiet : s.ps.commit = none) :
    (s.ps.verifies 0 = false → exec (.applyDefinitions r tag) s = .next (refuse r tag .applyDefinitions .storeBad s)) ∧
    (s.ps.verifies 0 = true → exec (.applyDefinitions r tag) s = .next (reply r tag .applyDefinitions .ok (volList.filter s.takesDefinition).length
      (volumeMask s.takesDefinition) (volumeMask fun v => !s.takesDefinition v && decide (s.ps.volumeDef 0 v ≠ (s.vol v).defn)) (applyAccept s))) := by
  have refusal := applyRefusal_of_idle quiet up.2
  have run : exec (.applyDefinitions r tag) s = .next (reqApplyDefinitions r tag s) := rfl
  refine ⟨fun bad => ?_, fun good => ?_⟩
  · rw [bad, if_neg Bool.false_ne_true] at refusal
    rw [run, reqApplyDefinitions, gated_up _ _ _ _ _ up]
    simp only [refusal, quiet, Option.isSome_none, Bool.false_eq_true, if_false]
  · rw [good, if_pos rfl] at refusal
    rw [run, reqApplyDefinitions, gated_up _ _ _ _ _ up]
    simp only [refusal]

theorem exec_format (s : State) (r : RingNo) (tag : Nat) : exec (.format r tag) s = .next (if s.strap = false then refuse r tag .format .serviceRequired s
    else if s.formatBusy then refuse r tag .format .busy s else reply r tag .format .accepted 0 0 0 (formatAccept r tag s)) :=
  congrArg Host.Outcome.next (gated_always s r tag .format (fun s => if s.strap = false then refuse r tag .format .serviceRequired s
    else if s.formatBusy then refuse r tag .format .busy s else reply r tag .format .accepted 0 0 0 (formatAccept r tag s)) rfl rfl)

theorem formatBusy_iff (s : State) : s.formatBusy = true ↔ s.ps.format ≠ none ∨ (∃ c, (s.restoreCtx c).phase ≠ .free) ∨ s.ds.active ≠ none ∨ (∃ c, (s.inCtx c).state ≠ .free) ∨
    ∃ v, (s.replVol v).reset ≠ none ∨ (s.snapVol v).retire ≠ [] ∨ (s.snapVol v).taking ≠ none := by
  have contexts : ∀ P : Ctx → Bool, ctxList.any P = true ↔ ∃ c, P c = true := fun P => by
    rw [List.any_eq_true]
    exact ⟨fun ⟨c, _, yes⟩ => ⟨c, yes⟩, fun ⟨c, yes⟩ => ⟨c, mem_ctxList c, yes⟩⟩
  have volumes : ∀ P : Vol → Bool, volList.any P = true ↔ ∃ v, P v = true := fun P => by
    rw [List.any_eq_true]
    exact ⟨fun ⟨v, _, yes⟩ => ⟨v, yes⟩, fun ⟨v, yes⟩ => ⟨v, List.mem_finRange v, yes⟩⟩
  simp only [State.formatBusy, Bool.or_eq_true, contexts, volumes, Option.isSome_iff_ne_none, decide_eq_true_eq, Bool.not_eq_true', ← Bool.not_eq_true, List.isEmpty_iff,
    exists_or, or_assoc]

/-! ### The end of a FORMAT (R202) -/

theorem exec_formatEnd {s : State} {j : FormatJob} {r : RingNo} {tag : Nat} (format : s.ps.format = some j) (dest : j.answer = some (r, tag)) :
    exec .formatEnd s = .next (answer r ⟨tag, 0x65, 0x02, if (leaveSafe (s.setPs { s.ps with format := none })).ps.safe then 1 else 0, j.records, j.snaps⟩
      (leaveSafe (s.setPs { s.ps with format := none }))) := by
  change execFormatEnd s = _
  simp only [execFormatEnd, format, dest, answerIf]
  rfl

theorem leaveSafe_of_idle {s : State} (safe : s.ps.safe = true) (quiet : s.ps.commit = none) : leaveSafe s = if s.ps.verifies 0 then
    (takeAllDefinitions s.free s).setPs { (takeAllDefinitions s.free s).ps with safe := false } else s := by
  rw [leaveSafe, if_pos safe, quiet, ← Ps.verifies_of_quiet quiet s.free]
  rfl

/-- Settles O59: what a page defines (`volumeDefOf_of_good`), what takes effect (`TakenAll`), and what FORMAT leaves (`cancelQueued_frame`, `formatAccounts_spec`). -/
theorem definitionsTakeEffectAndFormatEmpties : Obligations.DefinitionsTakeEffectAndFormatEmpties := by
  unfold Obligations.DefinitionsTakeEffectAndFormatEmpties
  refine ⟨fun b k bad good hk hbad hgood => ?_, fun s r tag page d takes up quiet ok hpage hd htakes => ⟨fun bad => ?_, fun good => ?_⟩,
    fun s r tag => ⟨fun clear => ?_, fun strap busy => ?_, fun strap fresh restores idle inbound vols w hw => ?_⟩,
    fun s => ⟨fun none => ?_, fun j r tag format dest => ⟨fun safe => ?_, fun safe quiet bad => ?_, fun page safe quiet good ok hpage => ?_⟩⟩⟩
  · subst hk hbad hgood
    have primary : field b 0 1 = 1 → roleOf (field b 0 1) = .primary := fun h => by rw [h]; rfl
    have replica : field b 0 1 = 2 → roleOf (field b 0 1) = .replica := fun h => by rw [h]; rfl
    have fine : field b 0 1 = 1 → ¬pageBad b → volumePageOk b = true := fun h ok => (volumePageOk_iff b).2 ⟨ok, .inl (by rw [primary h]; decide)⟩
    refine ⟨fun one two => volumeDefOf_of_unused (.inl ?_), fun one bad => volumeDefOf_of_unused (.inr fun ok => ((volumePageOk_iff b).1 ok).1 bad),
      fun two bad => volumeDefOf_of_unused (.inr fun ok => ?_), fun one ok peers => ?_, fun one ok peers => ?_, fun two ok limit margin => ?_⟩
    · rw [roleOf, if_neg one, if_neg two]
    · obtain ⟨fine, other⟩ := (volumePageOk_iff b).1 ok
      obtain ⟨limit, margin⟩ := other.resolve_left (not_not.2 (replica two))
      rcases bad with bad | high | high
      · exact fine bad
      · exact Nat.not_lt.2 limit high
      · exact Nat.not_lt.2 margin high
    · rw [volumeDefOf_of_good (by rw [primary one]; decide) (fine one ok), primary one, if_pos ⟨rfl, peers⟩, if_pos ⟨rfl, peers⟩]
      rfl
    · rw [volumeDefOf_of_good (by rw [primary one]; decide) (fine one ok), primary one, if_neg fun h => peers h.2, if_neg fun h => peers h.2]
      rfl
    · rw [volumeDefOf_of_good (by rw [replica two]; decide) ((volumePageOk_iff b).2 ⟨ok, .inr ⟨limit, margin⟩⟩), replica two]
      rfl
  · exact (exec_applyDefinitions up quiet).1 bad
  · have same : s.takesDefinition = takes := funext fun v => by
      rw [Bool.eq_iff_iff, htakes, State.takesDefinition, Bool.or_eq_true, Bool.and_eq_true, decide_eq_true_eq, decide_eq_true_eq, State.volumeEmpty_iff]
    have pages : ∀ k, s.ps.page 0 k = page k := fun k => by rw [hpage, Ps.page_of_idle quiet]
    have defs : ∀ v : Vol, s.ps.volumeDef 0 v = d v := fun v => by
      rw [hd]
      exact congrArg volumeDefOf (pages _)
    have all := takenAll_of ok.1 pages takes true
    have run := (exec_applyDefinitions (r := r) (tag := tag) up quiet).2 good
    rw [same] at run
    simp only [defs] at run
    have accept : applyAccept s = takeSettings s.ps 0 (takeLink true s.ps 0 (volList.foldl (fun t v => if takes v then takeDefinition v (s.ps.volumeDef 0 v) t else t) s)) := by
      rw [← same]
      rfl
    obtain ⟨t, ht⟩ : ∃ t, t = applyAccept s := ⟨_, rfl⟩
    rw [← accept, ← ht] at all
    rw [← ht] at run
    have frame := all.volumes.frame
    refine ⟨t, run, fun v yes => ?_, fun v no => ⟨?_, ?_, ?_, ?_⟩, fun i high => all.volumes.accounts.others i high, all.link, all.linkSet, fun i => ?_, fun v yes => ?_,
      all.sender, all.senderSet, ?_⟩
    · rw [hd]
      exact all.volumes.setBy yes
    · exact (all.volumes.vol v).trans (if_neg (by simp [no]))
    · exact (all.volumes.accounts.reserve v).trans (if_neg (by simp [no]))
    · exact (all.volumes.accounts.landing v).trans (if_neg (by simp [no]))
    · exact (all.volumes.repl v).trans (if_neg (by simp [no]))
    · rw [all.errors, and_iff_right rfl]
    · refine (all.volumes.repl v).trans (if_congr ?_ rfl rfl)
      rw [hd]
      simp [yes, VolumeDef.repools, or_assoc]
    · have parts : ∀ {α : Type} (f : State → α), f ((t.setLc s.lc).setDs s.ds) = f (((s.setEtu { s.etu with vols := t.etu.vols }).setDr
          { s.dr with vols := t.dr.vols }).setQu { s.qu with accounts := t.qu.accounts }) := fun f => congrArg f frame
      exact ⟨parts State.extents, parts State.su, parts (·.qu.timers), parts (·.qu.clock), parts State.ru, parts State.dm, parts (·.dr.ctxs), parts State.riu, parts State.mem, parts State.ps⟩
  · rw [exec_format, if_pos clear]
    rfl
  · rw [exec_format, if_neg (by simp [strap]), if_pos ((formatBusy_iff s).2 busy)]
    rfl
  · have free : s.formatBusy ≠ true := fun busy => by
      rcases (formatBusy_iff s).1 busy with h | ⟨c, h⟩ | h | ⟨c, h⟩ | ⟨v, h⟩
      · exact h fresh
      · exact h (restores c)
      · exact h idle
      · exact h (inbound c)
      · obtain ⟨reset, retire, taking⟩ := vols v
        rcases h with h | h | h
        · exact h reset
        · exact h retire
        · exact h taking
    have run : exec (.format r tag) s = .next (reply r tag .format .accepted 0 0 0 (formatAccept r tag s)) := by
      rw [exec_format, if_neg (by simp [strap]), if_neg free]
    have cancelled : cancelQueued s = w := hw.symm
    obtain ⟨z, m, u, frame⟩ := cancelQueued_frame s
    rw [cancelled] at frame
    obtain ⟨x, hx⟩ : ∃ x, x = ((w.setEtu ⟨[], s.etu.vols.map Volume.formatted⟩).setSu ⟨Vector.replicate 16 .empty⟩).setDr { s.dr with vols := Vector.replicate 16 .empty } :=
      ⟨_, rfl⟩
    obtain ⟨a, formatted, wf, all⟩ := formatAccounts_spec x
    have etu : w.etu = s.etu := by rw [frame]; rfl
    have dr : w.dr = s.dr := by rw [frame]; rfl
    have qu : w.qu = s.qu := by rw [frame]; rfl
    have ps : w.ps = s.ps := by rw [frame]; rfl
    have accept : formatAccept r tag s = (x.setQu { s.qu with accounts := a, timers := [] }).setPs
        { s.ps with format := some ⟨some (r, tag), s.extents.length, (volList.map fun v => (s.snapVol v).snaps.length).sum⟩ } := by
      have after : ((w.setEtu ⟨[], w.etu.vols.map Volume.formatted⟩).setSu ⟨Vector.replicate 16 .empty⟩).setDr
          { ((w.setEtu ⟨[], w.etu.vols.map Volume.formatted⟩).setSu ⟨Vector.replicate 16 .empty⟩).dr with vols := Vector.replicate 16 .empty } = x := by
        rw [hx, etu, State.setSu_dr, State.setEtu_dr, dr]
      simp only [formatAccept, cancelled, after, formatted]
      have quX : x.qu = s.qu := by rw [hx]; exact qu
      have psX : x.ps = s.ps := by rw [hx]; exact ps
      rw [quX, State.setQu_ps, psX]
    have vol : ∀ v, x.vol v = (s.vol v).formatted := fun v => by
      rw [hx]
      exact (Fin.getElem_fin ..).trans ((Vector.getElem_map ..).trans rfl)
    have held : ∀ v, x.heldDefn v = if (s.vol v).state = .undefined then .unused else (s.vol v).defn := fun v => by
      rw [State.heldDefn, vol]
      simp only [Volume.formatted]
      by_cases undefined : (s.vol v).state = .undefined <;> simp [undefined]
    obtain ⟨t, ht⟩ : ∃ t, t = formatAccept r tag s := ⟨_, rfl⟩
    rw [← ht] at run accept
    rw [hx] at accept
    have accounts : ∀ i, t.account i = sparseGet Account.none a i := fun i => by rw [accept]; rfl
    refine ⟨t, run, by rw [accept]; rfl, fun v => ⟨?_, ?_⟩, fun v => ?_, fun v => ⟨?_, ?_⟩, fun i high => ?_, by rw [accept]; rfl, by rw [accept]; rfl, by rw [accept]; rfl,
      by rw [accept]; rfl, by rw [accept]; rfl, ?_, ?_, ?_, ?_, ?_⟩
    · rw [accept]
      exact Vector.getElem_replicate _
    · rw [accept]
      exact Vector.getElem_replicate _
    · have same : t.vol v = x.vol v := by rw [accept, hx]; rfl
      rw [same, vol, Volume.formatted]
    · rw [accounts]
      refine (all.reserve v).trans ?_
      rw [if_pos rfl, held, VolumeDef.reserveAccount]
      by_cases undefined : (s.vol v).state = .undefined
      · rw [if_pos undefined]
        exact (if_pos (Or.inl undefined)).symm
      · rw [if_neg undefined]
        exact if_congr (or_iff_right undefined).symm rfl rfl
    · rw [accounts]
      refine (all.landing v).trans ?_
      rw [if_pos rfl, held, VolumeDef.landingAccount]
      by_cases undefined : (s.vol v).state = .undefined
      · rw [if_pos undefined]
        exact (if_neg fun h : (s.vol v).state ≠ .undefined ∧ (s.vol v).defn.role = .replica => h.1 undefined).symm
      · rw [if_neg undefined]
        exact if_congr (and_iff_right undefined).symm rfl rfl
    · rw [accounts]
      exact all.others i high
    all_goals
      rw [accept, frame]
      rfl
  · change execFormatEnd s = _
    rw [execFormatEnd, none]
  · have stays : leaveSafe (s.setPs { s.ps with format := none }) = s.setPs { s.ps with format := none } := if_neg (by rw [State.setPs_ps, safe]; decide)
    rw [exec_formatEnd format dest, stays, State.setPs_ps, safe, if_neg Bool.false_ne_true]
  · have stays : leaveSafe (s.setPs { s.ps with format := none }) = s.setPs { s.ps with format := none } := by
      rw [leaveSafe_of_idle (s := s.setPs { s.ps with format := none }) safe quiet]
      exact if_neg (by rw [State.setPs_ps, show ({ s.ps with format := none } : Ps).verifies 0 = s.ps.verifies 0 from rfl, bad]; decide)
    rw [exec_formatEnd format dest, stays, State.setPs_ps, safe, if_pos rfl]
  · obtain ⟨x, hx⟩ : ∃ x : Ps, x = { s.ps with format := none } := ⟨_, rfl⟩
    have quietX : x.commit = none := by rw [hx]; exact quiet
    have verifies : x.verifies 0 = true := by
      rw [hx]
      exact good
    have pages : ∀ k, x.page s.free k = page k := fun k => by
      rw [hpage, Ps.page_of_idle quietX, hx]
    have all := takenAll_of (s := s.setPs x) ok.1 pages (fun _ => true) false
    obtain ⟨t, ht⟩ : ∃ t, t = takeAllDefinitions s.free (s.setPs x) := ⟨_, rfl⟩
    have same : takeAllDefinitions s.free (s.setPs x) = takeSettings x s.free (takeLink false x s.free (volList.foldl (fun t v => if (fun _ => true) v then
        takeDefinition v (x.volumeDef s.free v) t else t) (s.setPs x))) := rfl
    rw [← same, ← ht] at all
    have left : leaveSafe (s.setPs x) = t.setPs { t.ps with safe := false } := by
      rw [leaveSafe_of_idle (s := s.setPs x) (by rw [hx]; exact safe) quietX, State.setPs_ps, verifies, if_pos rfl, ht]
      rfl
    have frame := all.volumes.frame
    have parts : ∀ {α : Type} (f : State → α), f ((t.setLc s.lc).setDs s.ds) = f (((s.setPs x).setEtu { s.etu with vols := t.etu.vols }).setDr
        { s.dr with vols := t.dr.vols } |>.setQu { s.qu with accounts := t.qu.accounts }) := fun f => congrArg f frame
    have ps : t.ps = x := parts State.ps
    refine ⟨t.setPs { t.ps with safe := false }, ?_, ?_, fun v => all.volumes.setBy rfl, fun i high => all.volumes.accounts.others i high, all.link, all.linkSet, fun i => ?_,
      all.sender, all.senderSet, fun v pool mark => ?_,
      parts State.extents, parts State.su, parts (·.qu.timers), parts (·.qu.clock), parts State.ru, parts State.dm, parts (·.dr.ctxs), parts State.riu, parts State.mem⟩
    · rw [exec_formatEnd format dest, ← hx, left, State.setPs_ps, if_neg Bool.false_ne_true]
    · rw [State.setPs_ps, ps, hx]
    · rw [← Bool.not_eq_true]
      exact fun error => Bool.false_ne_true ((all.errors i).1 error).1
    · refine (all.volumes.repl v).trans ?_
      change (if _ then { s.replVol v with pool := [], takeMark := 0 } else s.replVol v) = s.replVol v
      rw [← pool, ← mark, ite_self]

end Sys2Proof.Machine
end

section
/-! Cold start, and what the steps of a function reset leave of the snapshots (9.7, 10.7). -/
namespace Sys2Proof.Machine

/-! ### Cold start (R200) -/

theorem coldStart_leaves {s : State} {strap : Bool} {n : Nat} {x : Ps} {page : Nat → List Byte} (idle : s.dm.engine = none) (quiet : s.ps.commit = none)
    (hx : x = ⟨s.ps.pages, [], decide (sparseGet 0xFF s.ps.pages 38 = 0), none, true, none⟩)
    (hpage : page = fun n => (List.range 256).map fun i => sparseGet 0xFF s.ps.pages (256 * n + i)) :
    (s.ps.verifies 0 = false → exec (.coldStart strap n) s = .next { State.reset with
      pending := s.pending, mem := s.mem, strap := strap, free := s.free + 1, lc := { State.reset.lc with station := s.lc.station }, ps := x }) ∧
    (s.ps.verifies 0 = true → ∃ t, exec (.coldStart strap n) s = .next t ∧ t.ps = { x with safe := false } ∧ t.mem = s.mem ∧ t.pending = s.pending ∧ t.strap = strap ∧
      t.riu = .start ∧ t.ru = .start ∧ t.dm = .start ∧ t.dr = .start ∧ t.su = State.reset.su ∧ t.extents = [] ∧ t.qu.timers = [] ∧ t.qu.clock = 0 ∧ t.qu.examining = false ∧
      t.ds = .start t.ds.p t.ds.settings ∧ t.ds.setBy (page 21) 0 ∧
      t.lc = { State.reset.lc with station := s.lc.station, peers := t.lc.peers, localId := t.lc.localId, etherType := t.lc.etherType } ∧ t.lc.setBy page ∧
      (∀ i : Ctx, t.lc.peers[i].frameError = false) ∧ (∀ v, t.setBy v (volumeDefOf (page (1 + v.val)))) ∧ ∀ i, 32 ≤ i → t.account i = Account.none) := by
  have uncut : cutUnit n s = s := by simp only [cutUnit, idle]
  have start : Ps.start (s.ps.unpowered s.free) = x := by
    rw [hx, Ps.unpowered, quiet]
    rfl
  obtain ⟨b, hb⟩ : ∃ b : State, b = { State.reset with
      pending := s.pending, mem := s.mem, strap := strap, free := s.free + 1, lc := { State.reset.lc with station := s.lc.station }, ps := x } := ⟨_, rfl⟩
  have base : coldBase strap (cutUnit n s) = b := by rw [uncut, coldBase, start, hb]
  have psB : b.ps = x := by rw [hb]
  have quietX : x.commit = none := by rw [hx]
  have pagesX : x.pages = s.ps.pages := by rw [hx]
  have verifies : x.verifies 0 = s.ps.verifies 0 := by
    simp only [Ps.verifies, Ps.crc_of_quiet quietX, Ps.storedCrc_of_quiet quietX, Ps.crc_of_quiet quiet, Ps.storedCrc_of_quiet quiet, pagesX]
  have run : exec (.coldStart strap n) s = if s.ps.verifies 0 = true then .next (takeAllDefinitions 0 (b.setPs { x with safe := false })) else .next b := by
    change execColdStart strap n s = _
    simp only [execColdStart, base, psB, verifies]
  rw [← hb]
  refine ⟨fun bad => ?_, fun good => ?_⟩
  · rw [run, bad, if_neg Bool.false_ne_true]
  · rw [good, if_pos rfl] at run
    have pages : ∀ k, ({ x with safe := false } : Ps).page 0 k = page k := fun k => by
      rw [hpage, Ps.page_of_idle (x := { x with safe := false }) quietX]
      simp only [pagesX]
    have all := takenAll_of (s := b.setPs { x with safe := false }) (by rw [hb]; rfl) pages (fun _ => true) false
    obtain ⟨t, ht⟩ : ∃ t, t = takeAllDefinitions 0 (b.setPs { x with safe := false }) := ⟨_, rfl⟩
    have same : takeAllDefinitions 0 (b.setPs { x with safe := false }) = takeSettings { x with safe := false } 0 (takeLink false { x with safe := false } 0
        (volList.foldl (fun t v => if (fun _ => true) v then takeDefinition v (({ x with safe := false } : Ps).volumeDef 0 v) t else t) (b.setPs { x with safe := false }))) := rfl
    rw [← same, ← ht] at all
    rw [← ht] at run
    have frame := all.volumes.frame
    have parts : ∀ {α : Type} (f : State → α), f ((t.setLc b.lc).setDs b.ds) = f (((b.setPs { x with safe := false }).setEtu { b.etu with vols := t.etu.vols }).setDr
        { b.dr with vols := t.dr.vols } |>.setQu { b.qu with accounts := t.qu.accounts }) := fun f => congrArg f frame
    have repl : t.dr.vols = b.dr.vols := by
      refine Vector.ext fun i lt => ?_
      have at_i := all.volumes.repl ⟨i, lt⟩
      have empty : (b.setPs { x with safe := false }).replVol ⟨i, lt⟩ = .empty := by
        rw [hb]
        exact Vector.getElem_replicate _
      rw [empty] at at_i
      have same : t.dr.vols[i] = ReplVol.empty := at_i.trans (ite_self _)
      rw [same]
      exact empty.symm
    refine ⟨t, run, parts State.ps, (parts State.mem).trans ?_, (parts State.pending).trans ?_, (parts State.strap).trans ?_, (parts State.riu).trans ?_, (parts State.ru).trans ?_,
      (parts State.dm).trans ?_, (parts State.dr).trans ?_, (parts State.su).trans ?_, (parts State.extents).trans ?_, (parts (·.qu.timers)).trans ?_, (parts (·.qu.clock)).trans ?_,
      (parts (·.qu.examining)).trans ?_, all.sender.trans ?_, ?_, all.link.trans ?_, all.linkSet, fun i => ?_, fun v => all.volumes.setBy rfl,
      fun i high => (all.volumes.accounts.others i high).trans ?_⟩
    case refine_7 =>
      change ({ b.dr with vols := t.dr.vols } : Dr) = .start
      rw [repl, hb]
      rfl
    case refine_14 =>
      have set := all.senderSet
      rw [hb] at set
      exact set
    case refine_16 =>
      rw [← Bool.not_eq_true]
      exact fun error => Bool.false_ne_true ((all.errors i).1 error).1
    all_goals
      rw [hb]
      rfl

end Sys2Proof.Machine
end

section
/-! What the steps of a function reset leave of the snapshots (3.3, 3.6, 9.7). -/
namespace Sys2Proof.Machine

/-! ### Snapshots, but for what auto-trim does to them -/

/-- The snapshots of a volume without their states, which an auto-trim step may change. -/
def SnapVol.cores (x : SnapVol) : List Snapshot := x.snaps.map fun z => { z with active := true }

/-- `y` comes from `x` by a change `g` of the snapshots and by auto-trim steps. -/
structure SnapVol.stepped (g : List Snapshot → List Snapshot) (x y : SnapVol) : Prop where
  cores : y.cores = g x.cores
  queue : ∃ l, y.retire = x.retire ++ l ∧ ∀ e ∈ l, e.origin = .auto
  gate : y.gate = x.gate
  taking : y.taking = x.taking
  release : y.release = x.release

theorem SnapVol.stepped.refl (x : SnapVol) : x.stepped id x := ⟨rfl, ⟨[], (List.append_nil _).symm, nofun⟩, rfl, rfl, rfl⟩

theorem SnapVol.stepped.trans {g k : List Snapshot → List Snapshot} {x y z : SnapVol} (h : x.stepped g y) (h' : y.stepped k z) : x.stepped (k ∘ g) z := by
  obtain ⟨l, queue, auto⟩ := h.queue
  obtain ⟨m, queue', auto'⟩ := h'.queue
  refine ⟨by rw [h'.cores, h.cores]; rfl, ⟨l ++ m, by rw [queue', queue, List.append_assoc], fun e mem => (List.mem_append.1 mem).elim (auto e) (auto' e)⟩,
    h'.gate.trans h.gate, h'.taking.trans h.taking, h'.release.trans h.release⟩

theorem SnapVol.stepped_snaps (x : SnapVol) {l : List Snapshot} {g : List Snapshot → List Snapshot} (cores : l.map (fun z => { z with active := true }) = g x.cores) :
    x.stepped g { x with snaps := l } := ⟨cores, ⟨[], (List.append_nil _).symm, nofun⟩, rfl, rfl, rfl⟩

theorem autoTrimStep_stepped (v : Vol) (s : State) : ∃ z, autoTrimStep v s = s.setSnapVol v z ∧ (s.snapVol v).stepped id z := by
  cases wanted : s.autoTrimWanted v
  · exact ⟨_, autoTrimStep_of_unwanted wanted, rfl, ⟨[], (List.append_nil _).symm, nofun⟩, rfl, rfl, rfl⟩
  · cases found : (s.snapVol v).snaps.find? Snapshot.retirable with
    | none => exact ⟨_, autoTrimStep_of_stalls wanted found, rfl, ⟨[], (List.append_nil _).symm, nofun⟩, rfl, rfl, rfl⟩
    | some x =>
      refine ⟨_, autoTrimStep_of_retires wanted found, ?_, ⟨_, rfl, by simp⟩, rfl, rfl, rfl⟩
      simp only [SnapVol.cores, List.map_map, id]
      refine List.map_congr_left fun y _ => ?_
      simp only [Function.comp_apply]
      split <;> rfl

theorem leftUnheld_stepped (v : Vol) (n : Nat) (s : State) : ∃ z, leftUnheld v n s = s.setSnapVol v z ∧ (s.snapVol v).stepped id z := by
  have stays : ∃ z, s = s.setSnapVol v z ∧ (s.snapVol v).stepped id z := ⟨_, (s.setSnapVol_snapVol v).symm, .refl _⟩
  unfold leftUnheld
  split
  · split
    · unfold autoTrimAgain
      split
      · exact autoTrimStep_stepped v s
      · exact stays
    · exact stays
  · exact stays

/-- The release of a hold of the snapshots of an epoch. -/
def dropHold (epoch : Nat) (l : List Snapshot) : List Snapshot := l.map fun y => if y.epoch = epoch then { y with holds := y.holds - 1 } else y

/-- The release of REPL_TARGET. -/
def untarget (l : List Snapshot) : List Snapshot :=
  match l.find? (·.replTarget) with
  | some x => l.map fun y => if y.epoch = x.epoch then { y with replTarget := false } else y
  | none => l

theorem releaseRestoreHold_stepped (v : Vol) (epoch : Nat) (s : State) :
    ∃ z, releaseRestoreHold v epoch s = s.setSnapVol v z ∧ (s.snapVol v).stepped (dropHold epoch) z := by
  obtain ⟨z, frame, steps⟩ := leftUnheld_stepped v epoch (s.updateSnap v epoch fun y => { y with holds := y.holds - 1 })
  refine ⟨z, ?_, ?_⟩
  · rw [releaseRestoreHold, frame, State.updateSnap, State.setSnapVol_setSnapVol]
  · rw [State.updateSnap, State.snapVol_setSnapVol, if_pos rfl] at steps
    refine SnapVol.stepped.trans (g := dropHold epoch) ((s.snapVol v).stepped_snaps ?_) steps
    simp only [SnapVol.cores, dropHold, List.map_map]
    refine List.map_congr_left fun y _ => ?_
    simp only [Function.comp_apply]
    split <;> rfl

theorem find_cores (x : SnapVol) : (x.cores.find? (·.replTarget)) = (x.snaps.find? (·.replTarget)).map fun z => { z with active := true } := List.find?_map ..

theorem releaseTarget_stepped (v : Vol) (s : State) : ∃ z, releaseTarget v s = s.setSnapVol v z ∧ (s.snapVol v).stepped untarget z := by
  have found := find_cores (s.snapVol v)
  unfold releaseTarget
  split
  · rename_i x first
    obtain ⟨z, frame, steps⟩ := leftUnheld_stepped v x.epoch (s.updateSnap v x.epoch fun y => { y with replTarget := false })
    refine ⟨z, ?_, ?_⟩
    · rw [frame, State.updateSnap, State.setSnapVol_setSnapVol]
    · rw [State.updateSnap, State.snapVol_setSnapVol, if_pos rfl] at steps
      refine SnapVol.stepped.trans (g := untarget) ((s.snapVol v).stepped_snaps ?_) steps
      rw [first, Option.map_some] at found
      simp only [untarget, found]
      simp only [SnapVol.cores, List.map_map]
      refine List.map_congr_left fun y _ => ?_
      simp only [Function.comp_apply]
      split <;> rfl
  · rename_i none
    rw [none, Option.map_none] at found
    refine ⟨_, (s.setSnapVol_snapVol v).symm, ?_, ⟨[], (List.append_nil _).symm, nofun⟩, rfl, rfl, rfl⟩
    simp only [untarget, found]

/-! ### What the releases do to the fields -/

/-- A snapshot's fields but for its state and REPL_TARGET. -/
def Snapshot.key (z : Snapshot) : Nat × Nat × Nat × Bool × Nat := (z.epoch, z.label, z.createdAt, z.replBase, z.holds)

theorem keys_untarget (l : List Snapshot) : (untarget l).map Snapshot.key = l.map Snapshot.key := by
  unfold untarget
  split
  · rw [List.map_map]
    refine List.map_congr_left fun y _ => ?_
    simp only [Function.comp_apply]
    split <;> rfl
  · rfl

theorem untarget_of_none {l : List Snapshot} (none : ∀ z ∈ l, z.replTarget = false) : untarget l = l := by
  have no : l.find? (·.replTarget) = Option.none := List.find?_eq_none.2 fun z mem => by simp [none z mem]
  rw [untarget, no]

theorem eq_of_length_le_one {α : Type} {l : List α} (one : l.length ≤ 1) {a b : α} (memA : a ∈ l) (memB : b ∈ l) : a = b := by
  match l with
  | [] => exact absurd memA List.not_mem_nil
  | [c] => exact (List.mem_singleton.1 memA).trans (List.mem_singleton.1 memB).symm
  | _ :: _ :: _ => simp at one

/-- One REPL_TARGET at most is released at once. -/
theorem replTarget_untarget {l : List Snapshot} (one : (l.filter (·.replTarget)).length ≤ 1) : ∀ z ∈ untarget l, z.replTarget = false := by
  unfold untarget
  split
  · rename_i x found
    have is : x.replTarget = true := List.find?_some found
    intro z mem
    obtain ⟨y, memY, rfl⟩ := List.mem_map.1 mem
    by_cases same : y.epoch = x.epoch
    · rw [if_pos same]
    · rw [if_neg same]
      by_contra target
      have target : y.replTarget = true := by simpa using target
      exact same (congrArg Snapshot.epoch (eq_of_length_le_one one (List.mem_filter.2 ⟨memY, target⟩) (List.mem_filter.2 ⟨List.mem_of_find?_eq_some found, is⟩)))
  · rename_i none
    exact fun z mem => by simpa using List.find?_eq_none.1 none z mem

end Sys2Proof.Machine
end

section
/-! What a function reset leaves of the restore contexts (4.9, 9.7). -/
namespace Sys2Proof.Machine

/-! ### Records that are no longer FILLING (R74, R94) -/

/-- A record is one of the piece of a context's request that is under way. -/
def RestoreCtx.fills (x : RestoreCtx) (e : Extent) : Bool :=
  decide (x.phase ≠ .free ∧ x.volume = e.volume) && x.flight.any fun f => f.created && f.segs.any fun g => decide (g.first = e.first)

/-- A record after FILLING clears on it when `p` holds. -/
def Extent.unfilled (p : Extent → Bool) (e : Extent) : Extent := { e with filling := e.filling && !p e }

theorem clearFilling_eq (v : Vol) (segs : List Run) : ∀ s : State, segs.foldl (fun t g => t.updateExtent v g.first fun e => { e with filling := false }) s =
    s.setExtents (s.extents.map (Extent.unfilled fun e => decide (v = e.volume) && segs.any fun g => decide (g.first = e.first))) := by
  induction segs with
  | nil =>
    intro s
    have same : s.extents.map (Extent.unfilled fun e => decide (v = e.volume) && ([] : List Run).any fun g => decide (g.first = e.first)) = s.extents :=
      (List.map_congr_left fun e _ => by simp [Extent.unfilled]).trans (List.map_id _)
    rw [same]
    rfl
  | cons g segs ih =>
    intro s
    rw [List.foldl_cons, ih, updateExtent_extents, extents_setExtents, List.map_map]
    refine congrArg s.setExtents (List.map_congr_left fun e _ => ?_)
    simp only [Function.comp_apply, Extent.unfilled, List.any_cons]
    by_cases here : e.volume = v ∧ e.first = g.first
    · rw [if_pos here]
      simp [here.1, here.2]
    · rw [if_neg here]
      have other : (decide (v = e.volume) && decide (g.first = e.first)) = false := by
        rw [← Bool.not_eq_true, Bool.and_eq_true, decide_eq_true_eq, decide_eq_true_eq]
        exact fun ⟨h1, h2⟩ => here ⟨h1.symm, h2.symm⟩
      cases vol : decide (v = e.volume)
      · simp
      · rw [vol, Bool.true_and] at other
        simp [other]

theorem unfilled_unfilled (p q : Extent → Bool) (same : ∀ e : Extent, q (e.unfilled p) = q e) (e : Extent) : (e.unfilled p).unfilled q = e.unfilled fun e => p e || q e := by
  rw [Extent.unfilled, same]
  simp only [Extent.unfilled, Bool.not_or, Bool.and_assoc]

/-! ### A context's request ends (R94) -/

theorem State.setRestoreCtx_restoreCtx (s : State) (c : Ctx) : s.setRestoreCtx c (s.restoreCtx c) = s := by
  simp [State.setRestoreCtx, State.setRu, State.restoreCtx]

/-- What the reset of a context's request does to the snapshots of a volume. -/
def RestoreCtx.releases (x : RestoreCtx) (v : Vol) : List Snapshot → List Snapshot := if x.running = true ∧ x.volume = v then dropHold x.epoch else id

theorem resetRestore_spec (c : Ctx) (s : State) : ∃ y su, y.phase = .free ∧
    resetRestore c s = ((s.setExtents (s.extents.map (Extent.unfilled (s.restoreCtx c).fills))).setRestoreCtx c y).setSu su ∧
      ∀ v, (s.snapVol v).stepped ((s.restoreCtx c).releases v) (su.vols[v]) := by
  obtain ⟨x, hx⟩ : ∃ x, x = s.restoreCtx c := ⟨_, rfl⟩
  rw [← hx]
  by_cases free : x.phase = .free
  · have none : ∀ e, x.fills e = false := fun e => by simp [RestoreCtx.fills, free]
    have same : s.extents.map (Extent.unfilled x.fills) = s.extents := (List.map_congr_left fun e _ => by simp [Extent.unfilled, none]).trans (List.map_id _)
    refine ⟨x, s.su, free, ?_, fun v => ?_⟩
    · simp only [resetRestore, ← hx, if_pos free, same]
      rw [hx]
      exact (s.setRestoreCtx_restoreCtx c).symm
    · have idle : x.running = false := by simp [RestoreCtx.running, free]
      rw [RestoreCtx.releases, idle, if_neg fun h => Bool.false_ne_true h.1]
      exact .refl _
  · obtain ⟨segs, hsegs⟩ : ∃ segs, segs = match x.flight with
      | some f => if f.created then f.segs else []
      | none => [] := ⟨_, rfl⟩
    have filled : x.fills = fun e => decide (x.volume = e.volume) && segs.any fun g => decide (g.first = e.first) := by
      funext e
      rw [RestoreCtx.fills, hsegs]
      simp only [ne_eq, free, not_false_eq_true, true_and]
      refine congrArg _ ?_
      cases x.flight with
      | none => rfl
      | some f => cases h : f.created <;> simp [h]
    have cleared := clearFilling_eq x.volume segs s
    rw [← filled] at cleared
    have reset : resetRestore c s = if x.phase = .ending then (s.setExtents (s.extents.map (Extent.unfilled x.fills))).setRestoreCtx c .free
        else releaseRestoreHold x.volume x.epoch ((s.setExtents (s.extents.map (Extent.unfilled x.fills))).setRestoreCtx c .free) := by
      rw [← cleared, hsegs]
      simp only [resetRestore, ← hx, if_neg free] <;> rfl
    by_cases ending : x.phase = .ending
    · refine ⟨.free, s.su, rfl, ?_, fun v => ?_⟩
      · rw [reset, if_pos ending]
        rfl
      · have idle : x.running = false := by simp [RestoreCtx.running, ending]
        rw [RestoreCtx.releases, idle, if_neg fun h => Bool.false_ne_true h.1]
        exact .refl _
    · have running : x.running = true := by simp [RestoreCtx.running, ending, free]
      obtain ⟨z, released, steps⟩ := releaseRestoreHold_stepped x.volume x.epoch ((s.setExtents (s.extents.map (Extent.unfilled x.fills))).setRestoreCtx c .free)
      refine ⟨.free, { s.su with vols := s.su.vols.set x.volume z }, rfl, ?_, fun v => ?_⟩
      · rw [reset, if_neg ending, released]
        rfl
      · have vols : ∀ l : Vector SnapVol 16, (l.set x.volume z)[v] = if x.volume = v then z else l[v] := fun l => by
          simp only [Fin.getElem_fin, Vector.getElem_set, Fin.val_inj]
        rw [RestoreCtx.releases]
        by_cases here : x.volume = v
        · rw [if_pos ⟨running, here⟩]
          refine cast (congrArg (SnapVol.stepped _ _) ((vols _).trans (if_pos here)).symm) ?_
          rw [← here]
          exact steps
        · rw [if_neg fun h => here h.2]
          refine cast (congrArg (SnapVol.stepped _ _) ((vols _).trans (if_neg here)).symm) ?_
          exact .refl _

/-! ### Every context's request ends (R94) -/

/-- How many of the contexts of `l` held the snapshots of an epoch. -/
def State.holders (s : State) (l : List Ctx) (v : Vol) (epoch : Nat) : Nat :=
  (l.filter fun c => (s.restoreCtx c).running && decide ((s.restoreCtx c).volume = v) && decide ((s.restoreCtx c).epoch = epoch)).length

/-- The snapshots of a volume without those holds. -/
def dropHolds (n : Nat → Nat) (l : List Snapshot) : List Snapshot := l.map fun z => { z with holds := z.holds - n z.epoch }

theorem dropHolds_releases (n : Nat → Nat) (x : RestoreCtx) (v : Vol) (l : List Snapshot) : dropHolds n (x.releases v l) =
    dropHolds (fun e => (if x.running = true ∧ x.volume = v ∧ x.epoch = e then 1 else 0) + n e) l := by
  rw [RestoreCtx.releases]
  by_cases here : x.running = true ∧ x.volume = v
  · rw [if_pos here]
    simp only [dropHolds, dropHold, List.map_map]
    refine List.map_congr_left fun z _ => ?_
    simp only [Function.comp_apply, here, true_and, eq_comm (a := x.epoch)]
    split
    · simp only [Nat.sub_sub]
    · simp only [Nat.zero_add]
  · rw [if_neg here]
    refine List.map_congr_left fun z _ => ?_
    have none : ¬(x.running = true ∧ x.volume = v ∧ x.epoch = z.epoch) := fun h => here ⟨h.1, h.2.1⟩
    simp only [if_neg none, Nat.zero_add]

/-- What the reset of some contexts leaves. -/
structure RestoresReset (l : List Ctx) (s t : State) : Prop where
  frame : t = ((s.setExtents (s.extents.map (Extent.unfilled fun e => l.any fun c => (s.restoreCtx c).fills e))).setRu { s.ru with ctxs := t.ru.ctxs }).setSu t.su
  free : ∀ c ∈ l, (t.restoreCtx c).phase = .free
  others : ∀ c, c ∉ l → t.restoreCtx c = s.restoreCtx c
  snaps : ∀ v, (s.snapVol v).stepped (dropHolds (s.holders l v)) (t.snapVol v)

theorem restoresReset (l : List Ctx) : ∀ s : State, l.Nodup → RestoresReset l s (l.foldl (fun t c => resetRestore c t) s) := by
  induction l with
  | nil =>
    intro s _
    have same : s.extents.map (Extent.unfilled fun e => ([] : List Ctx).any fun c => (s.restoreCtx c).fills e) = s.extents :=
      (List.map_congr_left fun e _ => by simp [Extent.unfilled]).trans (List.map_id _)
    have none : ∀ v, dropHolds (s.holders [] v) = id := fun v => funext fun l => by
      simp [dropHolds, State.holders]
    exact ⟨by rw [same]; rfl, nofun, fun _ _ => rfl, fun v => by rw [none]; exact .refl _⟩
  | cons c l ih =>
    intro s nodup
    obtain ⟨apart, nodup⟩ := List.nodup_cons.1 nodup
    obtain ⟨y, su, phase, frame, steps⟩ := resetRestore_spec c s
    obtain ⟨u, hu⟩ : ∃ u, u = resetRestore c s := ⟨_, rfl⟩
    rw [← hu] at frame
    have ctx : ∀ d, u.restoreCtx d = if d = c then y else s.restoreCtx d := fun d => by
      rw [frame]
      refine (State.restoreCtx_setRestoreCtx (s.setExtents _) c d y).trans ?_
      simp only [eq_comm]
      rfl
    have rest := ih u nodup
    obtain ⟨t, ht⟩ : ∃ t, t = l.foldl (fun t c => resetRestore c t) u := ⟨_, rfl⟩
    rw [← ht] at rest
    have kept : ∀ d ∈ l, u.restoreCtx d = s.restoreCtx d := fun d mem => by rw [ctx, if_neg fun eq : d = c => apart (eq ▸ mem)]
    have whole : (c :: l).foldl (fun t c => resetRestore c t) s = t := by rw [List.foldl_cons, ← hu, ht]
    rw [whole]
    refine ⟨?_, fun d mem => ?_, fun d out => ?_, fun v => ?_⟩
    · have extents : u.extents.map (Extent.unfilled fun e => l.any fun d => (u.restoreCtx d).fills e) =
          s.extents.map (Extent.unfilled fun e => (c :: l).any fun d => (s.restoreCtx d).fills e) := by
        have cleared : u.extents = s.extents.map (Extent.unfilled (s.restoreCtx c).fills) := by rw [frame]; rfl
        have more : (fun e => l.any fun d => (u.restoreCtx d).fills e) = fun e => l.any fun d => (s.restoreCtx d).fills e := funext fun e => by
          rw [Bool.eq_iff_iff, List.any_eq_true, List.any_eq_true]
          exact exists_congr fun d => and_congr_right fun mem => by rw [kept d mem]
        rw [cleared, more, List.map_map]
        refine List.map_congr_left fun e _ => ?_
        exact unfilled_unfilled _ _ (fun _ => rfl) e
      have last := rest.frame
      rw [extents] at last
      conv_lhs => rw [last, frame]
      rfl
    · rcases List.mem_cons.1 mem with rfl | mem
      · rw [rest.others d apart, ctx, if_pos rfl, phase]
      · exact rest.free d mem
    · obtain ⟨ne, out⟩ := not_or.1 (mt List.mem_cons.2 out)
      rw [rest.others d out, ctx, if_neg ne]
    · have first : (s.snapVol v).stepped ((s.restoreCtx c).releases v) (u.snapVol v) := by
        rw [frame]
        exact steps v
      refine cast (congrArg (fun g => SnapVol.stepped g _ _) (funext fun k => ?_)) (first.trans (rest.snaps v))
      refine (dropHolds_releases _ _ v k).trans (congrArg (dropHolds · k) (funext fun e => ?_))
      have same : u.holders l v e = s.holders l v e := congrArg List.length (List.filter_congr fun d mem => by rw [kept d mem])
      rw [same, State.holders, State.holders, List.filter_cons]
      by_cases holds : (s.restoreCtx c).running = true ∧ (s.restoreCtx c).volume = v ∧ (s.restoreCtx c).epoch = e
      · rw [if_pos holds, if_pos (by simp [holds]), List.length_cons, Nat.add_comm]
      · rw [if_neg holds, if_neg (by simpa [and_assoc] using holds), Nat.zero_add]

end Sys2Proof.Machine
end

section
/-! What a function reset leaves of the sending and the receiving side (6.11, 7.11, 9.7). -/
namespace Sys2Proof.Machine

/-! ### Frames handed over one after another (R166, R168) -/

/-- The link after some control frames are handed over: those that find room join the control queue. -/
def Lc.handed (l : Lc) (fs : List OutFrame) : Lc :=
  fs.foldl (fun l f => if l.up && decide (l.control.length < Config.maxControl) then { l with control := l.control ++ [f] } else l) l

theorem Lc.handed_append (l : Lc) (fs gs : List OutFrame) : l.handed (fs ++ gs) = (l.handed fs).handed gs := List.foldl_append

theorem handControl_eq (f : OutFrame) (s : State) : handControl f s = s.setLc (s.lc.handed [f]) := by
  rw [handControl, Lc.handed, List.foldl_cons, List.foldl_nil]
  split <;> rfl

theorem Lc.handed_frame (l : Lc) (fs : List OutFrame) : l.handed fs = { l with control := (l.handed fs).control } := by
  induction fs generalizing l with
  | nil => rfl
  | cons f fs ih =>
    rw [Lc.handed, List.foldl_cons]
    split
    · exact ih { l with control := l.control ++ [f] }
    · exact ih l

theorem Lc.handed_of_down {l : Lc} (down : l.up = false) (fs : List OutFrame) : l.handed fs = l := by
  induction fs with
  | nil => rfl
  | cons f fs ih =>
    rw [Lc.handed, List.foldl_cons, down]
    exact ih

theorem Lc.handed_of_up {l : Lc} (up : l.up = true) (bound : l.control.length ≤ 16) (fs : List OutFrame) : (l.handed fs).control = (l.control ++ fs).take 16 := by
  have max : Config.maxControl = 16 := rfl
  induction fs generalizing l with
  | nil =>
    rw [List.append_nil, List.take_of_length_le bound]
    rfl
  | cons f fs ih =>
    have cond : (l.up && decide (l.control.length < Config.maxControl)) = true ↔ l.control.length < 16 := by
      rw [Bool.and_eq_true, and_iff_right up, decide_eq_true_eq, max]
    rw [Lc.handed, List.foldl_cons]
    by_cases room : l.control.length < 16
    · rw [if_pos (cond.2 room)]
      refine (ih (l := { l with control := l.control ++ [f] }) up (by rw [List.length_append]; exact room)).trans ?_
      rw [List.append_assoc]
      rfl
    · rw [if_neg (mt cond.1 room)]
      refine (ih up bound).trans ?_
      have full : l.control.length = 16 := by omega
      rw [List.take_left' full, List.take_left' full]

/-! ### The sending side (R134) -/

/-- The releases of REPL_TARGET of a volume when the queue is emptied, and when the active run ends. -/
def Ds.namedRuns (d : Ds) (v : Vol) : Nat := (d.queue.filter fun q => decide (q.volume = v) && !q.newSnapshot).length
def Ds.endingRun (d : Ds) (v : Vol) : Nat := if ∃ x ∈ d.active, x.volume = v ∧ x.state ≠ .ended then 1 else 0

theorem stepped_untarget_frame {s t : State} {v : Vol} {k : Vol → Nat} (steps : ∀ w, (s.snapVol w).stepped (untarget^[k w]) (t.snapVol w)) :
    ∃ z, releaseTarget v t = t.setSu z ∧ ∀ w, (s.snapVol w).stepped (untarget^[k w + if v = w then 1 else 0]) ((t.setSu z).snapVol w) := by
  obtain ⟨z, frame, step⟩ := releaseTarget_stepped v t
  refine ⟨_, frame, fun w => ?_⟩
  have read : (t.setSnapVol v z).snapVol w = if v = w then z else t.snapVol w := State.snapVol_setSnapVol ..
  change (s.snapVol w).stepped _ ((t.setSnapVol v z).snapVol w)
  rw [read]
  by_cases here : v = w
  · rw [if_pos here, if_pos here]
    have both := (steps w).trans (here ▸ step)
    rw [Function.iterate_succ']
    exact both
  · rw [if_neg here, if_neg here]
    exact steps w

theorem releaseAll_stepped (l : List QueuedRun) : ∀ {s t : State} {k : Vol → Nat}, (∀ w, (s.snapVol w).stepped (untarget^[k w]) (t.snapVol w)) →
    ∃ z, l.foldl (fun t x => releaseQueued x t) t = t.setSu z ∧
      ∀ w, (s.snapVol w).stepped (untarget^[k w + (l.filter fun q => decide (q.volume = w) && !q.newSnapshot).length]) ((t.setSu z).snapVol w) := by
  induction l with
  | nil => exact fun {s t k} steps => ⟨t.su, rfl, steps⟩
  | cons q l ih =>
    intro s t k steps
    rw [List.foldl_cons, releaseQueued]
    cases new : q.newSnapshot with
    | true =>
      rw [if_pos rfl]
      obtain ⟨z, frame, all⟩ := ih steps
      refine ⟨z, frame, fun w => ?_⟩
      simpa [List.filter_cons, new] using all w
    | false =>
      rw [if_neg Bool.false_ne_true]
      obtain ⟨z, frame, one⟩ := stepped_untarget_frame (v := q.volume) steps
      obtain ⟨z', more, all⟩ := ih one
      refine ⟨z', by rw [frame, more]; rfl, fun w => ?_⟩
      have count : k w + ((q :: l).filter fun q => decide (q.volume = w) && !q.newSnapshot).length =
          k w + (if q.volume = w then 1 else 0) + (l.filter fun q => decide (q.volume = w) && !q.newSnapshot).length := by
        by_cases here : q.volume = w
        · simp [new, here, Nat.add_assoc, Nat.add_comm 1]
        · simp [new, here]
      rw [count]
      exact all w

/-- The ABORT that the active run's end sends. -/
def State.endAbort (s : State) : List OutFrame :=
  match s.ds.active with
  | some x => if x.state = RunState.ended then [] else
      match s.peerFor x with
      | some p => [⟨p.address, .abort, .forward, x.runId, x.volume.val, p.remote, 0, 0x27, []⟩]
      | none => []
  | none => []

/-- The end of a function reset on the sending side: no run is active and the holding slot is empty. -/
def State.senderOff (t : State) : State := (t.setDs { t.ds with active := none, handover := [] }).setLc { t.lc with slot := none }

theorem resetSender_of_ended {s u : State} (released : s.ds.queue.foldl (fun t x => releaseQueued x t) (s.setDs { s.ds with queue := [], lookDue := false }) = u)
    (active : u.ds.active = s.ds.active) (ended : ∀ x, s.ds.active = some x → x.state = .ended) :
    resetSender s = u.senderOff ∧ s.endAbort = [] ∧ ∀ v, s.ds.endingRun v = 0 := by
  have ending : ∀ v, s.ds.endingRun v = 0 := fun v => if_neg fun ⟨x, mem, _, runs⟩ => runs (ended x mem)
  cases at_ : s.ds.active with
  | none =>
    rw [at_] at active
    exact ⟨by simp only [resetSender, released, active] <;> rfl, by simp only [State.endAbort, at_], ending⟩
  | some x =>
    rw [at_] at active
    exact ⟨by simp only [resetSender, released, active, ended x at_, if_true] <;> rfl, by simp only [State.endAbort, at_, ended x at_, if_true], ending⟩

theorem resetSender_of_running {s u : State} (released : s.ds.queue.foldl (fun t x => releaseQueued x t) (s.setDs { s.ds with queue := [], lookDue := false }) = u)
    {x : OutRun} (active : u.ds.active = some x) (runs : x.state ≠ .ended) : resetSender s = (endRunCore outboundCancelled 0 true u).senderOff := by
  simp only [resetSender, released, active, if_neg runs] <;> rfl

theorem handRunControl_cancelled {t : State} {x : OutRun} (active : t.ds.active = some x) (runs : x.state ≠ .ended) :
    handRunControl .abort 0 outboundCancelled [] t = t.setLc (t.lc.handed t.endAbort) := by
  simp only [handRunControl, State.endAbort, active, if_neg runs]
  cases t.peerFor x with
  | none => rfl
  | some p => exact handControl_eq _ _

/-- The cancelled end of the active run in a function reset, when its volume has no create on the gate and the mover is at its start. -/
theorem endRunCore_cancelled {u : State} {x : OutRun} (active : u.ds.active = some x) (runs : x.state ≠ .ended) {z : Su}
    (released : releaseTarget x.volume u = u.setSu z) (gate : ((u.setSu z).snapVol x.volume).gate = []) (mover : u.dm = .start) :
    (endRunCore outboundCancelled 0 true u).senderOff = ((u.setDs { u.ds with
      scanning := none, rest := none, assembly := .empty, closed := none, holding := none, outstanding := [], busyWait := false, active := none, handover := [] }).setSu z).setLc
        { u.lc.handed u.endAbort with slot := none } := by
  have core := endRunCore_of_failed active (reason := outboundCancelled) (by decide) 0 true
  have handed := handRunControl_cancelled (t := u.setSu z) active runs
  rw [if_pos rfl, released, handed, clearSender_eq, withdrawSender_of_no_gate (by exact gate)] at core
  have dm : ((u.setSu z).setLc ((u.setSu z).lc.handed (u.setSu z).endAbort)).dm.withoutShip = u.dm := by
    change u.dm.withoutShip = u.dm
    rw [mover]
    rfl
  rw [dm] at core
  rw [core]
  rfl

/-- What a function reset leaves of the sending side, when no create waits and the mover is at its start. -/
theorem resetSender_spec {s : State} (gates : ∀ v, (s.snapVol v).gate = []) (mover : s.dm = .start) : ∃ z d,
    resetSender s = ((s.setDs d).setSu z).setLc { s.lc.handed s.endAbort with slot := none } ∧
      d.queue = [] ∧ d.active = none ∧ d.handover = [] ∧ d.settings = s.ds.settings ∧ d.bucket = s.ds.bucket ∧
      ∀ v, (s.snapVol v).stepped (untarget^[s.ds.namedRuns v + s.ds.endingRun v]) (z.vols[v]) := by
  obtain ⟨z, frame, steps⟩ := releaseAll_stepped s.ds.queue (s := s) (t := s.setDs { s.ds with queue := [], lookDue := false }) (k := fun _ => 0) fun w => .refl _
  simp only [Nat.zero_add] at steps
  obtain ⟨u, hu⟩ : ∃ u, u = (s.setDs { s.ds with queue := [], lookDue := false }).setSu z := ⟨_, rfl⟩
  rw [← hu] at frame steps
  have activeU : u.ds.active = s.ds.active := by rw [hu]; rfl
  by_cases ended : ∀ x, s.ds.active = some x → x.state = .ended
  · obtain ⟨reset, abort, ending⟩ := resetSender_of_ended frame activeU ended
    refine ⟨z, { s.ds with queue := [], lookDue := false, active := none, handover := [] }, ?_, rfl, rfl, rfl, rfl, rfl, fun v => ?_⟩
    · rw [reset, abort, hu]
      rfl
    · have step := steps v
      rw [hu] at step
      rw [ending]
      exact step
  · obtain ⟨x, active, runs⟩ : ∃ x, s.ds.active = some x ∧ x.state ≠ .ended := by
      push Not at ended
      exact ended
    obtain ⟨z', released, all⟩ := stepped_untarget_frame (v := x.volume) steps
    have gate : ((u.setSu z').snapVol x.volume).gate = [] := ((all x.volume).gate).trans (gates x.volume)
    have core := endRunCore_cancelled (activeU.trans active) runs released gate (by rw [hu]; exact mover)
    refine ⟨z', { s.ds with
      queue := [], lookDue := false, scanning := none, rest := none, assembly := .empty, closed := none, holding := none, outstanding := [], busyWait := false, active := none, handover := [] },
      ?_, rfl, rfl, rfl, rfl, rfl, fun v => ?_⟩
    · rw [resetSender_of_running frame (activeU.trans active) runs, core]
      have abort : u.endAbort = s.endAbort := by rw [hu]; rfl
      rw [abort, hu]
      rfl
    · have ending : s.ds.endingRun v = if x.volume = v then 1 else 0 := by
        refine if_congr ⟨fun ⟨y, mem, vol, _⟩ => ?_, fun vol => ⟨x, active, vol, runs⟩⟩ rfl rfl
        rw [Option.mem_def, active, Option.some_inj] at mem
        rw [mem]
        exact vol
      rw [ending]
      exact all v

/-! ### The receiving side (R157) -/

theorem aborted_frame (reason : Nat) (c : Ctx) {s : State} (mover : s.dm = .start) : ∃ y, y.pool = (s.replVol (s.inCtx c).volume).pool ∧
    y.last = (s.replVol (s.inCtx c).volume).last ∧ aborted reason c s = (s.setReplVol (s.inCtx c).volume y).setInCtx c
      { s.inCtx c with state := .aborting, reason := some reason, slots := Vector.replicate 2 .clear, reply := none, idle := none, cursor := 0, walkDone := false } := by
  have dm : { s.dm with waiting := s.dm.waiting.filter fun u => !(decide (u.cls = .land) && decide (u.num = c)) } = s.dm := by rw [mover]; rfl
  have idle : ¬∃ u, s.dm.engine = some u ∧ u.cls = .land ∧ u.num = c := by
    rw [mover]
    exact fun ⟨u, engine, _⟩ => nomatch engine
  refine ⟨{ s.replVol (s.inCtx c).volume with takeMark := 0 }, rfl, rfl, ?_⟩
  rw [aborted, dm, if_neg idle]
  rfl

/-- What the abort of the OPEN contexts of a list leaves. -/
structure Aborted (l : List Ctx) (reason : Nat) (s t : State) : Prop where
  frame : t = (s.setDr t.dr).setLc (s.lc.handed ((l.filter fun c => decide ((s.inCtx c).state = .open)).map fun c => (s.inCtx c).frame .abort 0 reason))
  pools : ∀ v, (t.replVol v).pool = (s.replVol v).pool ∧ (t.replVol v).last = (s.replVol v).last
  ended : ∀ c ∈ l, (s.inCtx c).state = .open → (t.inCtx c).state = .aborting ∧ (t.inCtx c).reason = some reason ∧ (t.inCtx c).slots = Vector.replicate 2 .clear
  others : ∀ c, c ∉ l → t.inCtx c = s.inCtx c

theorem aborted_all (reason : Nat) (l : List Ctx) : ∀ {s : State}, s.dm = .start → l.Nodup →
    Aborted l reason s (l.foldl (fun t c => abortCtx reason true c t) s) := by
  induction l with
  | nil => exact fun _ _ => ⟨rfl, fun _ => ⟨rfl, rfl⟩, nofun, fun _ _ => rfl⟩
  | cons c l ih =>
    intro s mover nodup
    obtain ⟨apart, nodup⟩ := List.nodup_cons.1 nodup
    rw [List.foldl_cons]
    by_cases is : (s.inCtx c).state = .open
    · obtain ⟨y, pool, last, frame⟩ := aborted_frame reason c mover
      have one := abortCtx_of_open is reason true
      rw [if_pos rfl, frame, handControl_eq] at one
      obtain ⟨u, hu⟩ : ∃ u, u = abortCtx reason true c s := ⟨_, rfl⟩
      rw [← hu] at one ⊢
      have ctx : ∀ d, u.inCtx d = if c = d then { s.inCtx c with
          state := .aborting, reason := some reason, slots := Vector.replicate 2 .clear, reply := none, idle := none, cursor := 0, walkDone := false } else s.inCtx d := fun d => by
        rw [one, State.setLc_inCtx, State.inCtx_setInCtx]
        rfl
      have repl : ∀ v, u.replVol v = if (s.inCtx c).volume = v then y else s.replVol v := fun v => by
        rw [one]
        exact State.replVol_setReplVol ..
      have rest := ih (s := u) (by rw [one]; exact mover) nodup
      obtain ⟨t, ht⟩ : ∃ t, t = l.foldl (fun t c => abortCtx reason true c t) u := ⟨_, rfl⟩
      rw [← ht] at rest ⊢
      have kept : ∀ d ∈ l, u.inCtx d = s.inCtx d := fun d mem => by rw [ctx, if_neg fun eq : c = d => apart (eq ▸ mem)]
      have frames : (l.filter fun c => decide ((u.inCtx c).state = .open)).map (fun c => (u.inCtx c).frame .abort 0 reason) =
          (l.filter fun c => decide ((s.inCtx c).state = .open)).map fun c => (s.inCtx c).frame .abort 0 reason := by
        rw [List.filter_congr fun d mem => by rw [kept d mem]]
        exact List.map_congr_left fun d mem => by rw [kept d (List.mem_of_mem_filter mem)]
      refine ⟨?_, fun v => ?_, fun d mem opened => ?_, fun d out => ?_⟩
      · have lc : u.lc = s.lc.handed [(s.inCtx c).frame .abort 0 reason] := by rw [one]; rfl
        have list : ((c :: l).filter fun c => decide ((s.inCtx c).state = .open)).map (fun c => (s.inCtx c).frame .abort 0 reason) =
            [(s.inCtx c).frame .abort 0 reason] ++ (l.filter fun c => decide ((s.inCtx c).state = .open)).map fun c => (s.inCtx c).frame .abort 0 reason := by
          rw [List.filter_cons_of_pos (by exact decide_eq_true is)]
          rfl
        have next := rest.frame
        rw [frames, lc, ← Lc.handed_append, ← list] at next
        conv_lhs => rw [next, one]
        rfl
      · rw [(rest.pools v).1, (rest.pools v).2, repl]
        by_cases here : (s.inCtx c).volume = v
        · rw [if_pos here, ← here]
          exact ⟨pool, last⟩
        · rw [if_neg here]
          exact ⟨rfl, rfl⟩
      · rcases List.mem_cons.1 mem with rfl | mem
        · rw [rest.others d apart, ctx, if_pos rfl]
          exact ⟨rfl, rfl, rfl⟩
        · exact rest.ended d mem (by rw [kept d mem]; exact opened)
      · obtain ⟨ne, out⟩ := not_or.1 (mt List.mem_cons.2 out)
        rw [rest.others d out, ctx, if_neg (Ne.symm ne)]
    · rw [abortCtx_of_not_open is]
      have rest := ih mover nodup
      refine ⟨?_, rest.pools, fun d mem opened => ?_, fun d out => rest.others d fun mem => out (List.mem_cons_of_mem c mem)⟩
      · rw [List.filter_cons_of_neg (by simpa using is)]
        exact rest.frame
      · rcases List.mem_cons.1 mem with rfl | mem
        · exact absurd opened is
        · exact rest.ended d mem opened

end Sys2Proof.Machine
end

section
/-! A function reset as a whole (1.11, 2.15, 3.10, 4.9, 5.8, 6.11, 7.11, 9.7). -/
namespace Sys2Proof.Machine

/-! ### The receiving side (R157) -/

/-- The ABORTs that a function reset sends for the OPEN contexts. -/
def State.inboundAborts (s : State) : List OutFrame :=
  (ctxList.filter fun c => decide ((s.inCtx c).state = InState.open)).map fun c => (s.inCtx c).frame .abort 0 0x18

/-- What an ended LAND unit leaves: no OPEN context is another than before. -/
theorem landGone_spec (c : Ctx) (s : State) : ∃ d r, landGone c s = (s.setDr d).setRiu r ∧ r = { s.riu with notices := r.notices, overflow := r.overflow, lost := r.lost } ∧
    (∀ v, d.vols[v].pool = (s.replVol v).pool ∧ d.vols[v].last = (s.replVol v).last) ∧
    ∀ k, d.ctxs[k] = s.inCtx k ∨ d.ctxs[k].state ≠ .open ∧ (s.inCtx k).state ≠ .open := by
  obtain ⟨v, hv⟩ : ∃ v, v = (s.inCtx c).volume := ⟨_, rfl⟩
  have pools : ∀ w, ((s.setTakeMark v 0).replVol w).pool = (s.replVol w).pool ∧ ((s.setTakeMark v 0).replVol w).last = (s.replVol w).last := fun w => by
    have read : (s.setTakeMark v 0).replVol w = if v = w then { s.replVol v with takeMark := 0 } else s.replVol w := State.replVol_setReplVol ..
    rw [read]
    by_cases here : v = w
    · rw [if_pos here, here]
      exact ⟨rfl, rfl⟩
    · rw [if_neg here]
      exact ⟨rfl, rfl⟩
  by_cases over' : (s.inCtx c).state = .aborting ∧ (s.inCtx c).walkDone = true
  · have notices := noticesOnly_raise .inboundAborted ((s.setTakeMark v 0).inCtx c).volume.val (((s.setTakeMark v 0).inCtx c).reason.getD 0) (s.setTakeMark v 0)
    obtain ⟨u, hu⟩ : ∃ u, u = raise .inboundAborted ((s.setTakeMark v 0).inCtx c).volume.val (((s.setTakeMark v 0).inCtx c).reason.getD 0) (s.setTakeMark v 0) := ⟨_, rfl⟩
    rw [← hu] at notices
    have gone : landGone c s = u.setInCtx c .free := by rw [landGone, if_pos over', rollbackEnd, ← hv, ← hu]
    have ctxs : u.dr.ctxs = s.dr.ctxs := by rw [hu, raise_dr]; rfl
    have vols : u.dr.vols = (s.setTakeMark v 0).dr.vols := by rw [hu, raise_dr]
    refine ⟨(u.setInCtx c .free).dr, u.riu, ?_, ?_, fun w => ?_, fun k => ?_⟩
    · rw [gone]
      conv_lhs => rw [notices]
      conv_rhs => rw [notices]
      rfl
    · conv_lhs => rw [notices]
      rfl
    · change u.dr.vols[w].pool = _ ∧ u.dr.vols[w].last = _
      rw [vols]
      exact pools w
    · have read : (u.setInCtx c .free).inCtx k = if c = k then .free else u.inCtx k := State.inCtx_setInCtx ..
      have same : u.inCtx k = s.inCtx k := congrArg (fun l : Vector InCtx 4 => l[k]) ctxs
      change (u.setInCtx c .free).inCtx k = _ ∨ ((u.setInCtx c .free).inCtx k).state ≠ _ ∧ _
      rw [read, same]
      by_cases here : c = k
      · rw [if_pos here, ← here, over'.1]
        exact .inr ⟨by decide, by decide⟩
      · rw [if_neg here]
        exact .inl rfl
  · refine ⟨(s.setTakeMark v 0).dr, s.riu, ?_, rfl, pools, fun k => .inl rfl⟩
    rw [landGone, if_neg over', ← hv]
    rfl

theorem silenced_vols (vols : Vector ReplVol 16) (v : Vol) : (vols.map ReplVol.silenced)[v].pool = vols[v].pool ∧ (vols.map ReplVol.silenced)[v].last = vols[v].last := by
  rw [Fin.getElem_fin, Fin.getElem_fin, Vector.getElem_map]
  exact ⟨rfl, rfl⟩

/-- A LAND unit that held the engine is gone. -/
def State.landUnitGone (unit : Option MoverUnit) (s : State) : State := unit.elim s fun u => if u.cls = .land then landGone u.num s else s

/-- The REPLICA_RESETs lose their answers. -/
def State.resetsSilenced (t : State) : State := t.setDr { t.dr with vols := t.dr.vols.map ReplVol.silenced }

theorem resetReceiver_eq (unit : Option MoverUnit) (s : State) : resetReceiver unit s = (abortAll inboundFunctionReset true (s.landUnitGone unit)).resetsSilenced := by
  cases unit with
  | none => simp only [resetReceiver, State.landUnitGone, State.resetsSilenced, Option.elim_none]
  | some u => simp only [resetReceiver, State.landUnitGone, State.resetsSilenced, Option.elim_some]

theorem resetReceiver_spec (unit : Option MoverUnit) {s : State} (mover : s.dm = .start) : ∃ d r,
    resetReceiver unit s = ((s.setDr d).setRiu r).setLc (s.lc.handed s.inboundAborts) ∧
      r = { s.riu with notices := r.notices, overflow := r.overflow, lost := r.lost } ∧
      (∀ v, d.vols[v].pool = (s.replVol v).pool ∧ d.vols[v].last = (s.replVol v).last) ∧
      (unit = none → ∀ c, (s.inCtx c).state = .open → d.ctxs[c].state = .aborting ∧ d.ctxs[c].reason = some 0x18 ∧ d.ctxs[c].slots = Vector.replicate 2 .clear) := by
  obtain ⟨d, r, gone, riu, pools, ctxs, idle⟩ : ∃ d r, s.landUnitGone unit = (s.setDr d).setRiu r ∧
      r = { s.riu with notices := r.notices, overflow := r.overflow, lost := r.lost } ∧
      (∀ v, d.vols[v].pool = (s.replVol v).pool ∧ d.vols[v].last = (s.replVol v).last) ∧
      (∀ k, d.ctxs[k] = s.inCtx k ∨ d.ctxs[k].state ≠ .open ∧ (s.inCtx k).state ≠ .open) ∧ (unit = none → d = s.dr) := by
    cases unit with
    | none => exact ⟨s.dr, s.riu, rfl, rfl, fun _ => ⟨rfl, rfl⟩, fun _ => .inl rfl, fun _ => rfl⟩
    | some u =>
      by_cases land : u.cls = .land
      · obtain ⟨d, r, gone, riu, pools, ctxs⟩ := landGone_spec u.num s
        exact ⟨d, r, by rw [State.landUnitGone, Option.elim_some, if_pos land, gone], riu, pools, ctxs, nofun⟩
      · exact ⟨s.dr, s.riu, by rw [State.landUnitGone, Option.elim_some, if_neg land] <;> rfl, rfl, fun _ => ⟨rfl, rfl⟩, fun _ => .inl rfl, nofun⟩
  obtain ⟨u, hu⟩ : ∃ u, u = (s.setDr d).setRiu r := ⟨_, rfl⟩
  have all := aborted_all 0x18 ctxList (s := u) (by rw [hu]; exact mover) (by decide)
  obtain ⟨t, ht⟩ : ∃ t, t = ctxList.foldl (fun t c => abortCtx 0x18 true c t) u := ⟨_, rfl⟩
  rw [← ht] at all
  have reset : resetReceiver unit s = t.setDr { t.dr with vols := t.dr.vols.map ReplVol.silenced } := by
    have aborts : abortAll inboundFunctionReset true u = t := ht.symm
    rw [resetReceiver_eq, gone, ← hu, aborts, State.resetsSilenced]
  have ctx : ∀ k, u.inCtx k = d.ctxs[k] := fun k => by rw [hu]; rfl
  have frames : (ctxList.filter fun c => decide ((u.inCtx c).state = .open)).map (fun c => (u.inCtx c).frame .abort 0 0x18) = s.inboundAborts := by
    have opens : (ctxList.filter fun c => decide ((u.inCtx c).state = .open)) = ctxList.filter fun c => decide ((s.inCtx c).state = .open) :=
      List.filter_congr fun k _ => by
        rw [ctx]
        rcases ctxs k with same | ⟨now, before⟩
        · rw [same]
        · rw [decide_eq_false now, decide_eq_false before]
    rw [opens, State.inboundAborts]
    refine List.map_congr_left fun k mem => ?_
    have is : (s.inCtx k).state = .open := of_decide_eq_true (List.mem_filter.1 mem).2
    rw [ctx, (ctxs k).resolve_right fun h => h.2 is]
  have frame := all.frame
  rw [frames, hu] at frame
  refine ⟨{ t.dr with vols := t.dr.vols.map ReplVol.silenced }, r, ?_, riu, fun v => ?_, fun none c is => ?_⟩
  · rw [reset]
    conv_lhs => rw [frame]
    rfl
  · obtain ⟨pool, last⟩ := all.pools v
    have before : u.replVol v = d.vols[v] := by rw [hu]; rfl
    obtain ⟨pool', last'⟩ := silenced_vols t.dr.vols v
    rw [before] at pool last
    exact ⟨(pool'.trans pool).trans (pools v).1, (last'.trans last).trans (pools v).2⟩
  · have same : u.inCtx c = s.inCtx c := by rw [ctx, idle none]; rfl
    exact all.ended c (mem_ctxList c) (by rw [same]; exact is)

/-! ### The snapshots -/

theorem untarget_dropHolds_keys (k : Nat) (n : Nat → Nat) (l : List Snapshot) : ((untarget^[k] (dropHolds n l)).map Snapshot.key) = (dropHolds n l).map Snapshot.key := by
  induction k with
  | zero => rfl
  | succ k ih =>
    rw [Function.iterate_succ_apply', keys_untarget]
    exact ih

theorem replTarget_iterate {k : Nat} (pos : 0 < k) {l : List Snapshot} (one : (l.filter (·.replTarget)).length ≤ 1) : ∀ z ∈ untarget^[k] l, z.replTarget = false := by
  obtain ⟨m, rfl⟩ := Nat.exists_eq_succ_of_ne_zero pos.ne'
  induction m with
  | zero => exact replTarget_untarget one
  | succ m ih =>
    rw [Function.iterate_succ_apply', untarget_of_none (ih (Nat.succ_pos m))]
    exact ih (Nat.succ_pos m)

theorem filter_replTarget_dropHolds (n : Nat → Nat) (l : List Snapshot) : ((dropHolds n l).filter (·.replTarget)).length = (l.filter (·.replTarget)).length := by
  rw [dropHolds, List.filter_map, List.length_map]
  rfl

end Sys2Proof.Machine
end

section
/-! Cold start and function reset (R22, R46, R94, R134, R157, R189, R200). -/
namespace Sys2Proof.Machine

theorem map_cores {β : Type} (x : SnapVol) (f : Snapshot → β) (same : ∀ z : Snapshot, f { z with active := true } = f z) : x.cores.map f = x.snaps.map f := by
  rw [SnapVol.cores, List.map_map]
  exact List.map_congr_left fun z _ => same z

/-- The snapshots of a volume after a function reset that released `n` holds of each epoch, and REPL_TARGET `k` times. -/
theorem snaps_functionReset {x y : SnapVol} {n : Nat → Nat} {k : Nat} (h : x.functionReset.stepped (untarget^[k] ∘ dropHolds n) y) :
    y.snaps.map (fun z => (z.epoch, z.label, z.createdAt, z.replBase, z.holds)) = x.snaps.map (fun z => (z.epoch, z.label, z.createdAt, z.replBase, z.holds - n z.epoch)) ∧
    (0 < k → (x.snaps.filter (·.replTarget)).length ≤ 1 → ∀ z ∈ y.snaps, z.replTarget = false) ∧ (k = 0 → y.snaps.map (·.replTarget) = x.snaps.map (·.replTarget)) := by
  have cores : y.cores = untarget^[k] (dropHolds n x.cores) := h.cores
  refine ⟨?_, fun pos one z mem => ?_, fun zero => ?_⟩
  · calc y.snaps.map Snapshot.key = y.cores.map Snapshot.key := (map_cores y _ fun _ => rfl).symm
      _ = (dropHolds n x.cores).map Snapshot.key := by rw [cores, untarget_dropHolds_keys]
      _ = x.cores.map fun z => (z.epoch, z.label, z.createdAt, z.replBase, z.holds - n z.epoch) := by
        rw [dropHolds, List.map_map]
        rfl
      _ = _ := map_cores x _ fun _ => rfl
  · have count : (x.cores.filter (·.replTarget)).length = (x.snaps.filter (·.replTarget)).length := by
      rw [SnapVol.cores, List.filter_map, List.length_map]
      rfl
    have none := replTarget_iterate pos (l := dropHolds n x.cores) (by rw [filter_replTarget_dropHolds, count]; exact one)
    rw [← cores] at none
    exact none { z with active := true } (List.mem_map_of_mem mem)
  · rw [zero] at cores
    have flags : y.cores.map (·.replTarget) = x.cores.map (·.replTarget) := by
      rw [cores, Function.iterate_zero, id_eq, dropHolds, List.map_map]
      rfl
    rw [map_cores y _ fun _ => rfl, map_cores x _ fun _ => rfl] at flags
    exact flags

theorem releases_iff (s : State) (v : Vol) : 0 < s.ds.namedRuns v + s.ds.endingRun v ↔
    (∃ q ∈ s.ds.queue, q.volume = v ∧ q.newSnapshot = false) ∨ ∃ x ∈ s.ds.active, x.volume = v ∧ x.state ≠ .ended := by
  have named : 0 < s.ds.namedRuns v ↔ ∃ q ∈ s.ds.queue, q.volume = v ∧ q.newSnapshot = false := by
    rw [Ds.namedRuns, List.length_pos_iff_exists_mem]
    simp only [List.mem_filter, Bool.and_eq_true, decide_eq_true_eq, Bool.not_eq_true']
  have ending : 0 < s.ds.endingRun v ↔ ∃ x ∈ s.ds.active, x.volume = v ∧ x.state ≠ .ended := by
    rw [Ds.endingRun]
    by_cases runs : ∃ x ∈ s.ds.active, x.volume = v ∧ x.state ≠ .ended
    · rw [if_pos runs]
      exact iff_of_true Nat.one_pos runs
    · rw [if_neg runs]
      exact iff_of_false (Nat.lt_irrefl 0) runs
  rw [Nat.add_pos_iff_pos_or_pos, named, ending]

theorem cutUnit_frame (n : Nat) (s : State) : ∃ m, cutUnit n s = s.setMem m ∧ (s.dm.engine = none → m = s.mem) := by
  unfold cutUnit
  split
  · rename_i u engine
    obtain ⟨m, frame⟩ := moveAccesses_frame u.current n s
    exact ⟨m, frame, fun none => by rw [none] at engine; cases engine⟩
  · exact ⟨s.mem, rfl, fun _ => rfl⟩

/-- The part in a function reset before its contexts' requests end. -/
def State.resetBase (s : State) (m : List Host.Cell) : State :=
  ((((s.setMem m).setDm .start).setRiu .start).setSu ⟨s.su.vols.map SnapVol.functionReset⟩).setRu { s.ru with gateOrder := [] }

theorem snapVol_resetBase (s : State) (m : List Host.Cell) (v : Vol) : (s.resetBase m).snapVol v = (s.snapVol v).functionReset := by
  change (s.su.vols.map SnapVol.functionReset)[v] = _
  rw [Fin.getElem_fin, Vector.getElem_map]
  rfl

/-- What a function reset leaves, block by block. -/
structure FunctionReset (s t : State) : Prop where
  frame : ∃ m su ctxs ds dr riu, t = (((((((((s.setMem m).setDm .start).setSu su).setRu ⟨ctxs, []⟩).setDs ds).setDr dr).setRiu riu).setExtents
    (s.extents.map (Extent.unfilled fun e => ctxList.any fun c => (s.restoreCtx c).fills e))).setLc
      { s.lc.handed (s.endAbort ++ s.inboundAborts) with slot := none }).setPs s.ps.silenced
  riu : t.riu.rings = Riu.start.rings ∧ t.riu.scans = Riu.start.scans
  free : ∀ c, (t.restoreCtx c).phase = .free
  ds : t.ds.queue = [] ∧ t.ds.active = none ∧ t.ds.handover = [] ∧ t.ds.settings = s.ds.settings ∧ t.ds.bucket = s.ds.bucket
  pools : ∀ v, (t.replVol v).pool = (s.replVol v).pool ∧ (t.replVol v).last = (s.replVol v).last
  uncut : s.dm.engine = none → t.mem = s.mem
  aborting : s.dm.engine = none → ∀ c, (s.inCtx c).state = .open → (t.inCtx c).state = .aborting ∧ (t.inCtx c).reason = some 0x18 ∧ (t.inCtx c).slots = Vector.replicate 2 .clear
  snaps : ∀ v, (s.snapVol v).functionReset.stepped (untarget^[s.ds.namedRuns v + s.ds.endingRun v] ∘ dropHolds (s.holders ctxList v)) (t.snapVol v)

theorem Lc.handed_slot (l : Lc) (fs gs : List OutFrame) : Lc.handed { l.handed fs with slot := none } gs = { l.handed (fs ++ gs) with slot := none } := by
  rw [Lc.handed_append]
  generalize l.handed fs = k
  induction gs generalizing k with
  | nil => rfl
  | cons g gs ih =>
    rw [Lc.handed, List.foldl_cons]
    conv_rhs => rw [Lc.handed, List.foldl_cons]
    by_cases room : (k.up && decide (k.control.length < Config.maxControl)) = true
    · rw [if_pos room, if_pos (by exact room)]
      exact ih { k with control := k.control ++ [g] }
    · rw [if_neg room, if_neg (by exact room)]
      exact ih k

/-- The part while its contexts' requests end, and the whole of a function reset from there. -/
theorem functionResetState_eq {n : Nat} {s : State} {m : List Host.Cell} (cut : cutUnit n s = s.setMem m) : functionResetState n s =
    (resetReceiver s.dm.engine (resetSender (ctxList.foldl (fun t c => resetRestore c t) (s.resetBase m)))).setPs
      (resetReceiver s.dm.engine (resetSender (ctxList.foldl (fun t c => resetRestore c t) (s.resetBase m)))).ps.silenced := by
  have base : ∀ x, x = s.setMem m → ((x.setDm .start).setRiu .start).setSu { ((x.setDm .start).setRiu .start).su with
      vols := ((x.setDm .start).setRiu .start).su.vols.map SnapVol.functionReset } = (((s.setMem m).setDm .start).setRiu .start).setSu ⟨s.su.vols.map SnapVol.functionReset⟩ :=
    fun x h => by
      rw [h]
      rfl
  simp only [functionResetState, base _ cut]
  rfl

theorem functionReset_leaves (n : Nat) (s : State) : FunctionReset s (functionResetState n s) := by
  obtain ⟨m, cut, same⟩ := cutUnit_frame n s
  obtain ⟨b, hb⟩ : ∃ b, b = s.resetBase m := ⟨_, rfl⟩
  have restores := restoresReset ctxList b (by decide)
  obtain ⟨u, hu⟩ : ∃ u, u = ctxList.foldl (fun t c => resetRestore c t) b := ⟨_, rfl⟩
  rw [← hu] at restores
  have snapsB : ∀ v, b.snapVol v = (s.snapVol v).functionReset := fun v => by rw [hb, snapVol_resetBase]
  have frameU := restores.frame
  have moverU : u.dm = .start := by rw [frameU, hb]; rfl
  have gates : ∀ v, (u.snapVol v).gate = [] := fun v => by
    rw [(restores.snaps v).gate, snapsB]
    rfl
  have dsU : u.ds = s.ds := by rw [frameU, hb]; rfl
  have lcU : u.lc = s.lc := by rw [frameU, hb]; rfl
  obtain ⟨z, d, sender, queue, active, handover, settings, bucket, steps⟩ := resetSender_spec gates moverU
  obtain ⟨w, hw⟩ : ∃ w, w = resetSender u := ⟨_, rfl⟩
  rw [← hw] at sender
  obtain ⟨dr, r, receiver, riu, pools, aborting⟩ := resetReceiver_spec s.dm.engine (s := w) (by rw [sender]; exact moverU)
  have drW : w.dr = s.dr := by rw [sender, frameU, hb]; rfl
  have riuW : w.riu = .start := by rw [sender, frameU, hb]; rfl
  have abortE : u.endAbort = s.endAbort := by rw [frameU, hb]; rfl
  have abortI : w.inboundAborts = s.inboundAborts := by rw [sender, frameU, hb]; rfl
  have lcW : w.lc = { s.lc.handed s.endAbort with slot := none } := by rw [sender, lcU, abortE]; rfl
  have state : functionResetState n s = (((w.setDr dr).setRiu r).setLc { s.lc.handed (s.endAbort ++ s.inboundAborts) with slot := none }).setPs s.ps.silenced := by
    have ps : w.ps = s.ps := by rw [sender, frameU, hb]; rfl
    have four : resetReceiver s.dm.engine (resetSender (ctxList.foldl (fun t c => resetRestore c t) (s.resetBase m))) = ((w.setDr dr).setRiu r).setLc { s.lc.handed (s.endAbort ++ s.inboundAborts) with slot := none } := by
      rw [← hb, ← hu, ← hw, receiver, lcW, abortI, Lc.handed_slot]
    rw [functionResetState_eq cut, four, ← ps]
    rfl
  obtain ⟨t, ht⟩ : ∃ t, t = functionResetState n s := ⟨_, rfl⟩
  rw [← ht] at state ⊢
  have mem : t.mem = m := by rw [state, sender, frameU, hb]; rfl
  have dsT : t.ds = d := by rw [state, sender]; rfl
  have drT : t.dr = dr := by rw [state]; rfl
  have riuT : t.riu = r := by rw [state]; rfl
  have inCtxW : ∀ c, w.inCtx c = s.inCtx c := fun c => by rw [State.inCtx, drW]; rfl
  have poolsT : ∀ v, (t.replVol v).pool = (s.replVol v).pool ∧ (t.replVol v).last = (s.replVol v).last := fun v => by
    have here : w.replVol v = s.replVol v := by rw [State.replVol, drW]; rfl
    rw [← here, State.replVol, drT]
    exact pools v
  refine ⟨⟨m, z, u.ru.ctxs, d, dr, r, ?_⟩, ?_, fun c => ?_, ?_, poolsT, fun idle => by rw [mem, same idle], fun idle c is => ?_, fun v => ?_⟩
  · rw [state, sender, frameU, hb]
    rfl
  · rw [riuT, riu, riuW]
    exact ⟨rfl, rfl⟩
  · have here : t.restoreCtx c = u.restoreCtx c := by rw [state, sender]; rfl
    rw [here]
    exact restores.free c (mem_ctxList c)
  · rw [dsT, queue, active, handover, settings, bucket, dsU]
    exact ⟨rfl, rfl, rfl, rfl, rfl⟩
  · rw [← inCtxW] at is
    rw [State.inCtx, drT]
    exact aborting idle c is
  · have here : t.snapVol v = z.vols[v] := by rw [state, sender]; rfl
    have holders : b.holders ctxList v = s.holders ctxList v := by rw [hb]; rfl
    have all := (restores.snaps v).trans (steps v)
    rw [snapsB, holders, dsU] at all
    rw [here]
    exact all

end Sys2Proof.Machine
end

section
/-! The two resets: the statement (R22, R46, R71, R94, R134, R157, R189, R200). -/
namespace Sys2Proof.Machine

/-- A record stays FILLING through the end of the contexts' requests only when it is none of their pieces'. -/
theorem filling_unfilled {s : State} (fills : ∀ e ∈ s.extents, e.filling = true → ∃ c : Ctx, (s.restoreCtx c).phase ≠ .free ∧ (s.restoreCtx c).volume = e.volume ∧
    ∃ f ∈ (s.restoreCtx c).flight, f.created = true ∧ e.run ∈ f.segs) :
    ∀ e ∈ s.extents.map (Extent.unfilled fun e => ctxList.any fun c => (s.restoreCtx c).fills e), e.filling = false := by
  intro e mem
  obtain ⟨e', mem', rfl⟩ := List.mem_map.1 mem
  cases is : e'.filling with
  | false => simp only [Extent.unfilled, is, Bool.false_and]
  | true =>
    obtain ⟨c, busy, vol, f, flight, created, seg⟩ := fills e' mem' is
    have clears : (ctxList.any fun c => (s.restoreCtx c).fills e') = true := by
      refine List.any_eq_true.2 ⟨c, mem_ctxList c, ?_⟩
      rw [RestoreCtx.fills, decide_eq_true ⟨busy, vol⟩, Bool.true_and, Option.any_eq_true]
      refine ⟨f, flight, ?_⟩
      rw [created, Bool.true_and]
      exact List.any_eq_true.2 ⟨e'.run, seg, decide_eq_true rfl⟩
    simp only [Extent.unfilled, clears, Bool.not_true, Bool.and_false]

/-- Settles O60, a cold start from the definitions that its store gives, and a function reset block by block. -/
theorem coldStartAndFunctionReset : Obligations.ColdStartAndFunctionReset := by
  unfold Obligations.ColdStartAndFunctionReset
  refine ⟨fun s strap n x page idle quiet hx hpage => coldStart_leaves idle quiet hx hpage, fun s n => ?_⟩
  have left := functionReset_leaves n s
  obtain ⟨t, ht⟩ : ∃ t, t = functionResetState n s := ⟨_, rfl⟩
  rw [← ht] at left
  obtain ⟨m, su, ctxs, ds, dr, riu, frame⟩ := left.frame
  obtain ⟨rings, scans⟩ := left.riu
  obtain ⟨queue, active, handover, settings, bucket⟩ := left.ds
  have extents : t.extents = s.extents.map (Extent.unfilled fun e => ctxList.any fun c => (s.restoreCtx c).fills e) := by rw [frame]; rfl
  have lc : t.lc = { s.lc.handed (s.endAbort ++ s.inboundAborts) with slot := none } := by rw [frame]; rfl
  have handed := s.lc.handed_frame (s.endAbort ++ s.inboundAborts)
  rw [handed] at lc
  have control : t.lc.control = (s.lc.handed (s.endAbort ++ s.inboundAborts)).control := by rw [lc]
  have ps : t.ps = s.ps.silenced := by rw [frame]; rfl
  have run : exec (.functionReset n) s = .next t := by rw [ht]; rfl
  refine ⟨t, run, fun r => ⟨?_, ?_⟩, by rw [frame]; rfl, left.free, by rw [frame]; rfl, queue, active, handover, by rw [lc], settings, bucket,
    by rw [lc], by rw [lc], by rw [lc], by rw [lc], fun v => ?_, extents, fun fills => extents ▸ filling_unfilled fills, by rw [frame]; rfl, by rw [frame]; rfl, left.pools,
    fun idle => ⟨left.uncut idle, left.aborting idle⟩, fun v => ?_, fun down => ?_, fun up bound => ?_, by rw [ps]; rfl, by rw [ps]; rfl, by rw [ps]; rfl, by rw [ps]; rfl,
    fun c mem => ?_, fun j mem => ?_, by rw [frame]; rfl, by rw [frame]; rfl⟩
  · rw [State.ring, rings]
    simp [Riu.start]
  · rw [State.scanOf, scans]
    simp [Riu.start]
  · have step := left.snaps v
    exact ⟨step.gate, step.taking, step.release⟩
  · have step := left.snaps v
    obtain ⟨keys, cleared, kept⟩ := snaps_functionReset step
    refine ⟨keys, fun released one => cleared ((releases_iff s v).2 released) one, fun none => kept ?_, ?_⟩
    · exact Nat.eq_zero_of_not_pos (mt (releases_iff s v).1 none)
    · exact step.queue
  · rw [control, Lc.handed_of_down down]
  · rw [control, Lc.handed_of_up up bound, ← List.append_assoc]
    rfl
  · rw [ps] at mem
    obtain ⟨c', _, rfl⟩ := Option.map_eq_some_iff.1 mem
    rfl
  · rw [ps] at mem
    obtain ⟨j', _, rfl⟩ := Option.map_eq_some_iff.1 mem
    rfl

end Sys2Proof.Machine
end

section
/-! Completion errors of the engine's unit and of RING-class accesses (5.6, 9.2). -/
namespace Sys2Proof.Machine

/-! ### A mover class is faulted (R103, R105) -/

/-- The record of the failing access, and how much the segment had written. -/
theorem faultOf_read {s : State} {u : MoverUnit} {n written : Nat} {v : Vol} {rs : List Run} {a : Nat} (source : u.current.source = .aperture v rs)
    (reads : (s.accesses v rs)[n]? = some a) (ship : u.cls = .ship → u.handed ≤ 4096 * n ∧ 4096 * n < u.handed + 8192) :
    u.faultOf s (.read n written) = some (⟨true, a, .read, .volume v, false⟩, min written n) := by
  simp only [MoverUnit.faultOf, Segment.reads, source, reads, MoveEnd.volume]
  exact if_neg fun h => h.2 (ship h.1)

theorem faultOf_confirm {s : State} {u : MoverUnit} {v : Vol} {l : List Run} {r : Run} (dest : u.current.dest = .aperture v (l ++ [r])) :
    u.faultOf s .confirm = some (⟨true, s.blockAddr v (r.stop - 1), .confirm, .volume v, false⟩, (u.current.writes s).length) := by
  simp only [MoverUnit.faultOf, Segment.confirmAddress, dest, MoveEnd.volume, List.getLast?_append, List.getLast?_singleton, Option.some_or, Option.map_some]

/-- The part when a class has been faulted and its requesters are told. -/
def State.classFaulted (s : State) (u : MoverUnit) (f : FaultRec) (k : Nat) : State :=
  raise .moverFault u.cls.code 0 ((moveAccesses u.current k s).setDm { s.dm with
    engine := none, waiting := s.dm.waiting.filter (fun w => decide (w.cls ≠ u.cls)), faults := s.dm.faults.set u.cls.index f })

theorem exec_moverAccessFault {s : State} {u : MoverUnit} {acc : UnitAccess} {f : FaultRec} {k : Nat} (engine : s.dm.engine = some u)
    (fault : u.faultOf s acc = some (f, k)) : exec (.moverAccessFault acc) s = .next (grantNext (tellFault u (s.classFaulted u f k))) := by
  have run : exec (.moverAccessFault acc) s = .next (faultClass u f (moveAccesses u.current k s)) := by
    change execMoverAccessFault acc s = _
    simp only [execMoverAccessFault, engine, fault]
  obtain ⟨m, moved⟩ := moveAccesses_frame u.current k s
  rw [run, State.classFaulted, moved]
  rfl

section
variable (s : State) (u : MoverUnit) (f : FaultRec) (k : Nat)

theorem classFaulted_dr : (s.classFaulted u f k).dr = s.dr := by
  obtain ⟨m, moved⟩ := moveAccesses_frame u.current k s
  rw [State.classFaulted, moved, raise_dr]
  rfl
theorem classFaulted_ru : (s.classFaulted u f k).ru = s.ru := by
  obtain ⟨m, moved⟩ := moveAccesses_frame u.current k s
  rw [State.classFaulted, moved, raise_ru]
  rfl
theorem classFaulted_qu : (s.classFaulted u f k).qu = s.qu := by
  obtain ⟨m, moved⟩ := moveAccesses_frame u.current k s
  rw [State.classFaulted, moved, raise_qu]
  rfl
theorem classFaulted_etu : (s.classFaulted u f k).etu = s.etu := by
  obtain ⟨m, moved⟩ := moveAccesses_frame u.current k s
  rw [State.classFaulted, moved, raise_etu]
  rfl
end

theorem removeAll_eq (v : Vol) (segs : List Run) : ∀ s : State, segs.foldl (fun t g => t.removeExtent v g.first) s =
    s.setExtents (s.extents.filter fun e => !(decide (e.volume = v) && segs.any fun y => decide (e.first = y.first))) := by
  induction segs with
  | nil =>
    intro s
    have all : (s.extents.filter fun e => !(decide (e.volume = v) && ([] : List Run).any fun y => decide (e.first = y.first))) = s.extents :=
      List.filter_eq_self.2 fun e _ => by simp
    rw [all]
    rfl
  | cons g segs ih =>
    intro s
    rw [List.foldl_cons, ih]
    have both : ((s.removeExtent v g.first).extents.filter fun e => !(decide (e.volume = v) && segs.any fun y => decide (e.first = y.first))) =
        s.extents.filter fun e => !(decide (e.volume = v) && (g :: segs).any fun y => decide (e.first = y.first)) := by
      refine (List.filter_filter).trans (List.filter_congr fun e _ => ?_)
      rw [Extent.at, List.any_cons]
      cases decide (e.volume = v) <;> cases decide (e.first = g.first) <;> simp
    rw [both]
    rfl

/-- A piece whose records are made is undone (R87). -/
theorem undoPiece_eq {c : Ctx} {f : Flight} {s : State} {x : RestoreCtx} (ctx : s.restoreCtx c = x) (owner : (s.account x.owner).kind = .user)
    (group : ∀ i, x.group = some i → (s.account i).kind = .group) {back : Nat → Account × List NoticeKind}
    (backs : ∀ i, back i = rateUser s.qu.clock { s.account i with
      usage := (s.account i).usage - s.chargeOf x.volume f.piece.len, records := (s.account i).records - f.segs.length }) :
    ∃ m, ((s.setExtents (s.extents.filter fun e => !(decide (e.volume = x.volume) && f.segs.any fun y => decide (e.first = y.first)))).setRestoreCtx c
        { x with claim := x.claim ++ f.segs, flight := none }).accountsOnly m (ownerThenGroup x.owner x.group back) ∧
      (∀ i, m.account i = if i = x.owner ∨ x.group = some i then (back i).1 else s.account i) ∧ undoPiece c f s = gateLook x.volume m := by
  obtain ⟨t, ht⟩ : ∃ t, t = (s.setExtents (s.extents.filter fun e => !(decide (e.volume = x.volume) && f.segs.any fun y => decide (e.first = y.first)))).setRestoreCtx c
        { x with claim := x.claim ++ f.segs, flight := none } := ⟨_, rfl⟩
  have account : ∀ i, t.account i = s.account i := fun i => by rw [ht]; rfl
  obtain ⟨only, reads⟩ := refundOwnerGroup_records t (s.chargeOf x.volume f.piece.len) f.segs.length (owner := x.owner) (group := x.group) (by rw [account]; exact owner)
    fun i is => by rw [account]; exact group i is
  have clock : t.qu.clock = s.qu.clock := by rw [ht]; rfl
  have same : (fun i => rateUser t.qu.clock { t.account i with
      usage := (t.account i).usage - s.chargeOf x.volume f.piece.len, records := (t.account i).records - f.segs.length }) = back := funext fun i => by
    rw [backs, account, clock]
  rw [same] at only
  rw [← ht]
  refine ⟨_, only, fun i => ?_, ?_⟩
  · rw [reads i, ← congrFun same i, account]
  · rw [undoPiece, ctx, removeAll_eq, ht]

theorem endRestore_eq (c : Ctx) (s : State) {x : RestoreCtx} {claim : List Run} {flight : Option Flight}
    (ctx : s.restoreCtx c = { x with claim := claim, flight := flight }) : endRestore c .fault 0 s = endWith c
      ⟨x.tag, if x.probe then 0x31 else 0x30, 0x0B, 0, x.copied + 4294967296 * x.zeroed, runsLen x.targets - x.copied - x.zeroed⟩ s := by
  rw [endRestore, restoreAnswer, ctx]
  rfl

theorem faultRestore_of_unmade {c : Ctx} {s : State} (unmade : ∀ f ∈ (s.restoreCtx c).flight, f.created = false) : faultRestore c s = endRestore c .fault 0 s := by
  cases flight : (s.restoreCtx c).flight with
  | none => simp only [faultRestore, flight]
  | some f => simp only [faultRestore, flight, unmade f flight, Bool.false_eq_true, if_false]

theorem faultRestore_of_made {c : Ctx} {s : State} {f : Flight} (flight : (s.restoreCtx c).flight = some f) (created : f.created = true) :
    faultRestore c s = endRestore c .fault 0 (undoPiece c f s) := by
  simp only [faultRestore, flight, created, if_true]

theorem faultRestores_eq (s : State) : faultRestores s = [0, 1, 2, 3].foldl (fun (t : State) (c : Ctx) =>
    if (t.restoreCtx c).phase ≠ .free ∧ (t.restoreCtx c).phase ≠ .ending ∧ (t.restoreCtx c).probe = false then faultRestore c t else t) s := by
  rw [faultRestores, ctxList]
  refine congrArg (fun g => List.foldl g s [0, 1, 2, 3]) (funext fun t => funext fun c => if_congr ?_ rfl rfl)
  rw [Bool.and_eq_true, running_iff, Bool.not_eq_true', and_assoc]

/-! ### A RING-class access (R106, R177) -/

theorem ring_recordRingFault (r : RingNo) (a : Nat) (s : State) : (recordRingFault a s).ring r = s.ring r := by
  unfold recordRingFault
  have notices := noticesOnly_raise .moverFault MoverClass.ring.code 0
    (s.setFaultRec .ring (if (s.faultRec .ring).fault then { s.faultRec .ring with further := true } else ⟨true, addr64 a, .host, .host, false⟩))
  rw [notices]
  rfl

theorem ringFault_of_running {r : RingNo} {s : State} (running : (s.ring r).state = .enabled ∨ (s.ring r).state = .stalled) (noneWaits : (s.ring r).waiting = []) (a : Nat) :
    ringFault r a s = (recordRingFault a s).setRing r { s.ring r with state := .faulted, cause := .access, holder := [] } := by
  have ring := ring_recordRingFault r a s
  rw [ringFault, faultRing_of_running (by rw [ring]; exact running) (by rw [ring]; exact noneWaits), ring]

theorem ringFault_of_quiet {r : RingNo} {s : State} (quiet : (s.ring r).state = .disabled ∨ (s.ring r).state = .faulted) (a : Nat) :
    ringFault r a s = recordRingFault a s := by
  rw [ringFault, faultRing_of_quiet (by rw [ring_recordRingFault]; exact quiet)]

theorem transferOf_setRing (q : Request) (r : RingNo) (g : Ring) (s : State) : transferOf q (s.setRing r g) = transferOf q s := by
  cases q <;> rfl

theorem bufferFault_of_transfer {r : RingNo} {q : Request} {s : State} {a n moved : Nat} {bs : List Byte} (transfer : transferOf q s = some (a, n, bs)) (partly : moved < n) :
    bufferFault r q moved s = ringFault r (a + moved) (s.writeBytes a (bs.take moved)) := by
  simp only [bufferFault, transfer, if_pos partly]

theorem exec_ringAccessFault (a : RingAccess) (s : State) : exec (.ringAccessFault a) s = execRingAccessFault a s := by
  rfl

theorem exec_bufferAtHead_fault {r : RingNo} {q : Request} {s : State} {a n moved : Nat} {bs : List Byte} (may : s.mayTake r = true)
    (head : readRequest (s.headRecord r) = some q) (transfer : transferOf q s = some (a, n, bs)) (partly : moved < n) :
    exec (.ringAccessFault (.bufferAtHead r moved)) s = .next (ringFault r (a + moved) ((s.setRing r (s.ring r).taken).writeBytes a (bs.take moved))) := by
  rw [exec_ringAccessFault]
  simp only [execRingAccessFault, may, head, transfer, if_pos partly, if_true]
  rw [bufferFault_of_transfer ((transferOf_setRing ..).trans transfer) partly]

theorem exec_scanOut_fault {r : RingNo} {s : State} {x : Scan} {bs : List Byte} {key moved : Nat} (scan : s.scanOf r = some x) (more : x.count < x.max)
    (next : s.scanNext x.volume x.what x.key = some (bs, key)) (partly : moved < bs.length) :
    exec (.ringAccessFault (.scanOut r moved)) s = .next (ringFault r (x.place + moved) ((s.writeBytes x.place (bs.take moved)).setScan r none)) := by
  rw [exec_ringAccessFault]
  simp only [execRingAccessFault, exportFault, scan, Scan.visits, if_pos more, next, if_pos partly]

theorem exec_takeReleased_fault {v : Vol} {s : State} {t : Taking} {moved : Nat} (taking : (s.snapVol v).taking = some t)
    (partly : moved < (((s.snapVol v).release.take t.count).flatMap runBytes).length) :
    exec (.ringAccessFault (.takeReleased v moved)) s = .next (ringFault t.ring (t.buffer + moved)
      ((s.writeBytes t.buffer ((((s.snapVol v).release.take t.count).flatMap runBytes).take moved)).setSnapVol v { s.snapVol v with taking := none })) := by
  rw [exec_ringAccessFault]
  simp only [execRingAccessFault, takeFault, taking, if_pos partly]

theorem exec_probeWrite_fault {c : Ctx} {s : State} {x : RestoreCtx} {p : Piece} {rest : List Piece} {moved : Nat} (ctx : x = s.restoreCtx c) (plan : x.plan = p :: rest)
    (runs : x.running = true) (probe : x.probe = true) (noStep : x.stepDue = false) (noAccept : x.acceptedDue = false) (partly : moved < 24) :
    exec (.ringAccessFault (.probeWrite c moved)) s = .next (ringFault x.ring (x.buffer + 24 * x.written + moved)
      (freeContext c (endCtx c (s.writeBytes (x.buffer + 24 * x.written) ((pieceBytes p).take moved))))) := by
  rw [exec_ringAccessFault]
  simp only [execRingAccessFault, probeFault, ← ctx, plan, runs, probe, noStep, noAccept, decide_eq_true partly, Bool.not_false, Bool.and_self, if_true]

/-! ### The transfers of the requests (R14, R40, R75, R145, R196) -/

section
variable {s : State} (up : s.up)
include up

theorem transferOf_queryAccount {p : QueryAccountParams} (number : p.account ≤ 262143) :
    transferOf (.queryAccount p) s = some (p.buffer, 32, accountBytes p.account (s.account p.account)) := by
  have form : accountOk p.account = true := decide_eq_true number
  simp only [transferOf, form, gateRefusal_up s _ up]

theorem transferOf_queryExtent {p : QueryExtentParams} {v : Vol} {e : Extent} (vol : p.volume = v.val) (defined : (s.vol v).state ≠ .undefined)
    (found : s.recordHolding v p.block = some e) : transferOf (.queryExtent p) s = some (p.buffer, 64, extentBytes e) := by
  simp only [transferOf, queryExtentFound, vol, volumeOk_val, toVol_val, if_neg defined, found, gateRefusal_up s _ up]

theorem transferOf_storeRead {p : StoreReadParams} (page : p.page ≤ 64) (quiet : ∀ c, s.ps.commit = some c → c.page ≠ p.page) : transferOf (.storeRead p) s =
    some (p.buffer, 256, (List.range 256).map fun i => if p.page = 64 then s.ps.staged i else s.ps.byte (256 * p.page + i)) := by
  have idle : s.ps.commit.map Commit.page ≠ some p.page := fun h => by
    obtain ⟨c, commit, is⟩ := Option.map_eq_some_iff.1 h
    exact quiet c commit is
  have seen : ∀ i ∈ List.range 256, s.ps.seen 0 (256 * p.page + i) = s.ps.byte (256 * p.page + i) := fun i mem => by
    have bound := List.mem_range.1 mem
    cases commit : s.ps.commit with
    | none => simp only [Ps.seen, commit]
    | some c =>
      have other : (256 * p.page + i) / 256 ≠ c.page := fun h => quiet c commit (by omega)
      simp only [Ps.seen, commit, if_neg other]
  simp only [transferOf, storeReadFound, decide_eq_true page, gateRefusal_up s _ up, if_neg idle]
  by_cases staging : p.page = 64
  · simp only [if_pos staging]
  · simp only [if_neg staging, Ps.page, Ps.bytes]
    rw [List.map_congr_left seen]

theorem transferOf_restore {p : RestoreParams} (form : formOk (.restore p) = true) : transferOf (.restore p) s = some (p.buffer, 16 * p.runs, []) := by
  have ok : restoreOk p = true := form
  simp only [transferOf, ok, gateRefusal_up s _ up]

theorem transferOf_giveRuns {p : GiveRunsParams} {v : Vol} (form : formOk (.giveRuns p) = true) (vol : p.volume = v.val) (defined : (s.vol v).state ≠ .undefined)
    (role : (s.vol v).defn.role ≠ .primary) : transferOf (.giveRuns p) s = some (p.buffer, 8 * p.count, []) := by
  have ok : giveRunsOk p = true := form
  have checks : firstFailure (s.replicaChecks (toVol p.volume)) = none := by
    rw [vol, toVol_val, State.replicaChecks, decide_eq_false defined, decide_eq_false role]
    rfl
  simp only [transferOf, ok, gateRefusal_up s _ up, checks]

end

/-! ### FAULT_CLEAR (R108) -/

theorem ofCode_code (k : MoverClass) : MoverClass.ofCode k.code = some k := by
  cases k <;> rfl

theorem exec_faultClear {s : State} (notSafe : s.ps.safe = false) (r : RingNo) (tag : Nat) (k : MoverClass) : exec (.faultClear r tag k.code) s =
    .next (if s.faulted k then answer r ⟨tag, 0x39, 0x00, 1, 0, 0⟩ (clearFault k s) else answer r ⟨tag, 0x39, 0x00, 0, 0, 0⟩ s) := by
  have passes : s.gateRefusal (.faultClear k.code) true = none := by simp [State.gateRefusal, notSafe, formatAdmits]
  change Host.Outcome.next (reqFaultClear r tag k.code s) = _
  simp only [reqFaultClear, ofCode_code, Option.isSome_some, gated, passes]
  split <;> rfl

end Sys2Proof.Machine
end

section
/-! Completion errors: the statement (5.6, 5.7, 9.2). -/
namespace Sys2Proof.Machine

theorem restoreCtx_accountsOnly {s u : State} {ns : List (NoticeKind × Nat)} (only : s.accountsOnly u ns) (c : Ctx) : u.restoreCtx c = s.restoreCtx c := by
  have ru : u.ru = s.ru := by
    rw [only.1]
    exact (noticesOnly_raising ns s).ru
  rw [State.restoreCtx, State.restoreCtx, ru]

/-- A completion error of the engine's unit, by the class of the unit. -/
theorem mover_faulted {s : State} {u : MoverUnit} {acc : UnitAccess} {f : FaultRec} {k : Nat} (engine : s.dm.engine = some u) (fault : u.faultOf s acc = some (f, k))
    {t : State} (ht : t = s.classFaulted u f k) :
    (u.cls = .ship → exec (.moverAccessFault acc) s = .next (grantNext (endRun 0x26 0 true t))) ∧
    (u.cls = .land → ∀ x w, x = s.inCtx u.num → w = t.setReplVol x.volume { t.replVol x.volume with takeMark := 0 } →
      exec (.moverAccessFault acc) s = .next (grantNext ([0, 1, 2, 3].foldl (fun y d => abortCtx 0x16 true d y)
        (if x.state = .aborting ∧ x.walkDone = true then (raise .inboundAborted x.volume.val (x.reason.getD 0) w).setInCtx u.num .free else w)))) ∧
    (u.cls = .restore → ∀ x f, x = s.restoreCtx u.num → x.flight = some f → f.created = true → (s.account x.owner).kind = .user →
      (∀ i, x.group = some i → (s.account i).kind = .group) → ∀ q, q = f.piece.len * (s.vol x.volume).defn.blockKiB →
      ∀ back : Nat → Account × List NoticeKind, (∀ i, back i = rateUser s.qu.clock { s.account i with
        usage := (s.account i).usage - q, records := (s.account i).records - f.segs.length }) →
      ∃ m, ((t.setExtents (s.extents.filter fun e => !(decide (e.volume = x.volume) && f.segs.any fun y => decide (e.first = y.first)))).setRestoreCtx u.num
          { x with claim := x.claim ++ f.segs, flight := none }).accountsOnly m (ownerThenGroup x.owner x.group back) ∧
        (∀ i, m.account i = if i = x.owner ∨ x.group = some i then (back i).1 else s.account i) ∧
        exec (.moverAccessFault acc) s = .next (grantNext (faultRestores (endWith u.num
          ⟨x.tag, if x.probe then 0x31 else 0x30, 0x0B, 0, x.copied + 4294967296 * x.zeroed, runsLen x.targets - x.copied - x.zeroed⟩
          (gateLook x.volume m))))) := by
  have run := exec_moverAccessFault engine fault
  rw [← ht] at run
  rw [run]
  refine ⟨fun cls => ?_, fun cls x w hx hw => ?_, fun cls x f hx flight created owner group q hq back backs => ?_⟩
  · simp only [tellFault, cls]
    rfl
  · have dr : t.dr = s.dr := by rw [ht, classFaulted_dr]
    have ctx : t.inCtx u.num = x := by rw [hx, State.inCtx, State.inCtx, dr]
    have gone : landGone u.num t = if x.state = .aborting ∧ x.walkDone = true then (raise .inboundAborted x.volume.val (x.reason.getD 0) w).setInCtx u.num .free else w := by
      have ctxW : (t.setTakeMark x.volume 0).inCtx u.num = x := ctx
      rw [landGone, ctx, rollbackEnd, ctxW, hw]
      rfl
    simp only [tellFault, cls, gone]
    rfl
  · have ctx : t.restoreCtx u.num = x := by
      have ru : t.ru = s.ru := by rw [ht, classFaulted_ru]
      rw [hx, State.restoreCtx, State.restoreCtx, ru]
    have qu : t.qu = s.qu := by rw [ht, classFaulted_qu]
    have etu : t.etu = s.etu := by rw [ht, classFaulted_etu]
    have account : ∀ i, t.account i = s.account i := fun i => by rw [State.account, State.account, qu]
    have charge : t.chargeOf x.volume f.piece.len = q := by rw [hq, State.chargeOf, State.vol, State.vol, etu]
    obtain ⟨m, only, reads, undone⟩ := undoPiece_eq (f := f) ctx (by rw [account]; exact owner) (fun i is => by rw [account]; exact group i is) (back := back)
      fun i => by rw [charge, account, qu, backs]
    have extents : t.extents = s.extents := by rw [State.extents, State.extents, etu]
    rw [extents] at only
    have made := faultRestore_of_made (c := u.num) (s := t) (ctx.symm ▸ flight) created
    refine ⟨m, only, fun i => (reads i).trans (by rw [account]), ?_⟩
    have after : (undoPiece u.num f t).restoreCtx u.num = { x with claim := x.claim ++ f.segs, flight := none } := by
      rw [undone, restoreCtx_gateLook, restoreCtx_accountsOnly only, State.restoreCtx_setRestoreCtx, if_pos rfl]
    have told : tellFault u t = faultRestores (faultRestore u.num t) := by simp only [tellFault, cls]
    rw [told, made, endRestore_eq u.num _ after, undone]

/-- Settles O44, class by class and access by access; the answers of a running ring's waiting operations are none here. -/
theorem completionErrorsAreRecorded : Obligations.CompletionErrorsAreRecorded := by
  unfold Obligations.CompletionErrorsAreRecorded
  refine ⟨fun s u acc g v a k kind t engine hg access ht => ?_, fun s => ⟨faultRestores_eq s, fun c x hx unmade => ?_⟩, fun s r a t ht => ⟨fun running noneWaits => ?_, fun quiet => ?_⟩,
    fun s r g hg => ⟨fun may => ?_, fun place room => ?_, fun q a n bs moved transfer partly => ⟨?_, fun may head => ?_⟩, fun x bs key moved scan more next partly => ?_⟩,
    fun s up => ⟨fun p => transferOf_queryAccount up, fun p v e => transferOf_queryExtent up, fun p => transferOf_storeRead up, fun p => transferOf_restore up,
      fun p v => transferOf_giveRuns up⟩,
    fun s v t bs moved taking hbs partly => ?_, fun s c x p rest moved hx plan busy going probe noStep noAccept partly => ?_, fun s r tag k up => ⟨fun clear => ?_, fun set => ?_⟩⟩
  · have current : u.current = g := hg.symm
    rw [← current] at access ht
    rcases access with ⟨n, written, rs, rfl, source, reads, rfl, rfl, ship⟩ | ⟨l, r, rfl, dest, rfl, rfl, rfl⟩
    · exact mover_faulted engine (faultOf_read source reads ship) ht
    · exact mover_faulted engine (faultOf_confirm dest) ht
  · rw [faultRestore_of_unmade (by rw [← hx]; exact unmade)]
    exact endRestore_eq c s (claim := x.claim) (flight := x.flight) hx.symm
  · rw [ht]
    exact ringFault_of_running running noneWaits a
  · rw [ht]
    exact ringFault_of_quiet quiet a
  · rw [hg, exec_ringAccessFault]
    simp only [execRingAccessFault, may, if_true]
  · rw [hg] at room ⊢
    refine ⟨(List.range 32).map (Config.freeByte s.free), by simp, ?_⟩
    rw [exec_ringAccessFault]
    simp only [execRingAccessFault, if_pos room, answerLost]
  · exact congrArg Host.Outcome.next (bufferFault_of_transfer transfer partly)
  · rw [hg] at head ⊢
    exact exec_bufferAtHead_fault may head transfer partly
  · exact exec_scanOut_fault scan more next partly
  · rw [hbs] at partly ⊢
    exact exec_takeReleased_fault taking partly
  · exact exec_probeWrite_fault hx plan ((running_iff x).2 ⟨busy, going⟩) probe noStep noAccept partly
  · rw [exec_faultClear up, if_neg (by rw [State.faulted, clear]; exact Bool.false_ne_true)]
  · refine ⟨_, rfl, ?_⟩
    rw [exec_faultClear up, if_pos (by exact set)]
    cases k <;> rfl

end Sys2Proof.Machine
end

section
/-! The laws of the volumes and snapshots (O9). They say that a run whose target is not known waits OFFERING on its create, but not that its OFFER has not been sent, which is what keeps its peer's
ACCEPT away. In a state where such a run has sent its OFFER, the ACCEPT takes it to SHIPPING, while its create still waits on the gate. -/

namespace Sys2Proof.Machine

/-- An ONLINE volume of role PRIMARY. -/
def primaryVolume : Volume := ⟨.online, { VolumeDef.unused with role := .primary }, some 1, none, none⟩

/-- A gate on which the sender's create waits. -/
def senderGate : SnapVol := { SnapVol.empty with gate := [.sender 5] }

/-- An OFFERING run of volume 0 whose target is not known yet, and whose OFFER has been sent all the same. -/
def offeredRun : OutRun where
  runId := 1
  volume := 0
  ring := 0
  tag := 0
  label := 5
  newSnapshot := true
  full := true
  base := 0
  target := none
  peer := some ⟨7, 9, 0⟩
  state := .offering
  adopted := false
  resends := 0
  exchange := none
  offerSent := true
  digest := 0
  nextSeq := 1
  counts := ⟨0, 0, 0, 0⟩
  batchResends := 0
  ending := none

/-- The peer's ACCEPT of the run. -/
def acceptFrame : EthFrame := ⟨true, 0, 7, 0, frameBytes 9 ⟨0, .accept, .backward, 1, 0, 0, 0, 0, []⟩⟩

/-- The run waits on its create, and its peer's ACCEPT arrives. -/
def offeredEarly : State :=
  { State.reset with
    pending := [.accept acceptFrame]
    etu := { State.reset.etu with vols := State.reset.etu.vols.set 0 primaryVolume }
    su := ⟨State.reset.su.vols.set 0 senderGate⟩
    ds := { State.reset.ds with active := some offeredRun }
    lc := { State.reset.lc with up := true, peers := State.reset.lc.peers.set 0 ⟨7, 9, true, false⟩ }
    ps := { State.reset.ps with safe := false } }

theorem offeredEarly_vol (v : Vol) : offeredEarly.vol v = if v = 0 then primaryVolume else .undefined := by
  revert v
  decide

theorem offeredEarly_snapVol (v : Vol) : offeredEarly.snapVol v = if v = 0 then senderGate else .empty := by
  revert v
  decide

theorem offeredEarly_linked : offeredEarly.linked where
  dues r := by
    have none : (offeredEarly.ring r).waiting = [] := congrArg Ring.waiting (reset_ring r)
    rw [none]
    exact ⟨nofun, .nil⟩
  flights := reset_linked.flights
  slots := reset_linked.slots
  units := reset_linked.units
  ship := ⟨reset_linked.ship.1, nofun⟩
  sender := by simp [Ds.lawful, Ds.atRest, Ds.stateOk, Ds.batches, offeredEarly, offeredRun, State.reset, Ds.start]

theorem offeredEarly_active : offeredEarly.ds.active = some offeredRun := rfl

theorem offeredEarly_snapsLawful : offeredEarly.snapsLawful where
  volumes v := by
    rw [offeredEarly_vol, offeredEarly_snapVol]
    split
    · simp [volumeOkWith, primaryVolume, senderGate, SnapVol.empty, Volume.isOpen, VolumeDef.unused, GateCreate.ofSender]
    · exact reset_vol v ▸ reset_snapVol v ▸ reset_snapsLawful.volumes v
  snapshots v := by
    rw [offeredEarly_vol, offeredEarly_snapVol]
    split
    · simp [snapshotsOk, primaryVolume, senderGate, SnapVol.empty, SnapVol.reserved, Config.maxSnapshots]
    · exact reset_vol v ▸ reset_snapVol v ▸ reset_snapsLawful.snapshots v
  retire v := by
    rw [offeredEarly_snapVol]
    split
    · simp [retireOk, senderGate, SnapVol.empty]
    · exact reset_snapVol v ▸ reset_snapsLawful.retire v
  holds := by
    have noSnaps : ∀ v, (offeredEarly.snapVol v).snaps = [] := fun v => by rw [offeredEarly_snapVol]; split <;> rfl
    refine ⟨fun v z mem => ?_, fun c runs => ?_, nofun, fun x mem _ => ?_⟩
    · rw [noSnaps] at mem
      exact nomatch mem
    · have free : offeredEarly.restoreCtx c = .free := reset_restoreCtx c
      rw [free] at runs
      cases runs
    · obtain rfl : offeredRun = x := Option.some_inj.1 mem
      exact ⟨.inl rfl, rfl, nofun⟩
  creates := by
    refine ⟨fun v g mem _ => ⟨offeredRun, rfl, ?_, rfl, rfl⟩, fun x mem _ _ => ?_⟩
    · rw [offeredEarly_snapVol] at mem
      split at mem
      · rename_i zero
        exact zero.symm
      · exact nomatch mem
    · obtain rfl : offeredRun = x := Option.some_inj.1 mem
      exact ⟨.sender 5, List.mem_singleton_self _, rfl⟩
  inbound := by
    refine ⟨fun c _ _ busy => absurd (congrArg InCtx.state (reset_inCtx c)) busy, fun c busy => absurd (congrArg InCtx.state (reset_inCtx c)) busy, fun c is => ?_, fun v place => ?_, fun v reset => absurd (congrArg ReplVol.reset (reset_replVol v)) reset⟩
    · have free : (offeredEarly.inCtx c).state = .free := congrArg InCtx.state (reset_inCtx c)
      rw [is] at free
      cases free
    · have none : (offeredEarly.snapVol v).commitPlace = none := by rw [offeredEarly_snapVol]; split <;> rfl
      exact absurd none place
  safe is := by cases is

/-- The ACCEPT takes the run to SHIPPING, and its create stays on the gate. -/
theorem step_offeredEarly : ∃ t, step offeredEarly = .next t ∧ t.ds.active = some { offeredRun with state := .shipping } ∧ (t.snapVol 0).gate = [.sender 5] :=
  ⟨_, rfl, rfl, rfl⟩

/-- Refutes O9: an ACCEPT leaves the create of a run that is no longer OFFERING on the gate. -/
theorem not_stepKeepsSnapshotLaws : ¬ Obligations.StepKeepsSnapshotLaws := by
  unfold Obligations.StepKeepsSnapshotLaws
  intro keeps
  obtain ⟨t, stepped, active, gate⟩ := step_offeredEarly
  have lawful := keeps offeredEarly t reset_ok.riu offeredEarly_linked offeredEarly_snapsLawful stepped
  obtain ⟨x, mem, _, offering, _⟩ := lawful.creates.1 0 (.sender 5) (by rw [gate]; exact List.mem_singleton_self _) rfl
  rw [Option.mem_def, active, Option.some_inj] at mem
  rw [← mem] at offering
  cases offering

end Sys2Proof.Machine
end

section
/-! The waiting laws (O8). They do not say that a producer which waits on a release list is a scan that is under way: that is among the laws of the epochs and marks. In a state where a commit scan
waits of a context that is FREE, its retry moves the cursor of that context, which then holds something. -/

namespace Sys2Proof.Machine

/-- A record of one block of volume 0. -/
def strayRecord : Extent := ⟨0, 0, 1, 1, 0, 32, none, 1, none, false, none, none⟩

/-- The commit scan of the FREE context 0 waits on the release list of volume 0, and the writes of a TAKE_RELEASED complete. -/
def strayProducer : State :=
  { State.reset with
    pending := [.takeReleased (.writesComplete 0)]
    etu := { State.reset.etu with extents := [strayRecord] }
    su := ⟨State.reset.su.vols.set 0 { SnapVol.empty with producers := [.commit 0], taking := some ⟨0, 0, 0, 0⟩ }⟩ }

theorem strayProducer_linked : strayProducer.linked :=
  ⟨reset_linked.dues, reset_linked.flights, reset_linked.slots, reset_linked.units, reset_linked.ship, reset_linked.sender⟩

/-- The scan retries, and the cursor of its context moves. -/
theorem step_strayProducer : ∃ t, step strayProducer = .next t ∧ t.dr.ctxs[(0 : Ctx)] = { InCtx.free with cursor := 1 } :=
  ⟨_, rfl, rfl⟩

/-- Refutes O8: the retry leaves a FREE context that holds a cursor. -/
theorem not_stepKeepsWaitingLaws : ¬ Obligations.StepKeepsWaitingLaws := by
  unfold Obligations.StepKeepsWaitingLaws
  intro keeps
  obtain ⟨t, stepped, ctx⟩ := step_strayProducer
  have lawful := keeps strayProducer t reset_ok.riu strayProducer_linked stepped
  have free := (lawful.slots 0).1 (by rw [ctx]; rfl)
  rw [ctx] at free
  exact absurd (congrArg InCtx.cursor free) Nat.one_ne_zero

end Sys2Proof.Machine
end

section
/-! The laws of the blocks (O10). They and the laws before them do not say that a producer which waits on a release list stands at a record that it has to remove: that is among the laws of the epochs
and marks. In a state where a rollback scan waits at the FILLING record of a piece in flight, its retry removes the record, and the piece stands on nothing. -/

namespace Sys2Proof.Machine

/-- The record of a piece in flight. -/
def pieceRecord : Extent := ⟨0, 0, 1, 1, 0, 32, none, 2, none, true, none, none⟩

/-- A RESTORE of volume 0 whose one piece is in flight. -/
def pieceContext : RestoreCtx := { RestoreCtx.free with
  phase := .copying, epoch := 1, count := 1, tgtObject := 1, owner := 32, targets := [⟨0, 1⟩], pos := 1, searchPos := 1, flight := some ⟨⟨none, 0, 1⟩, [⟨0, 1⟩], true⟩ }

/-- The snapshot that the RESTORE reads; a rollback scan waits on the release list, and the writes of a TAKE_RELEASED are under way. -/
def pieceSnapshots : SnapVol := { SnapVol.empty with
  snaps := [⟨1, 1, 0, true, false, false, 1⟩], producers := [.rollback 0], taking := some ⟨0, 0, 0, 0⟩ }

/-- The unit of the piece. -/
def zeroUnit : MoverUnit := ⟨.restore, 0, ⟨.zero, .aperture 0 [⟨0, 1⟩], 1⟩, .nothing, false, 0, 0, 0, false⟩

/-- The writes of the TAKE_RELEASED complete. -/
def strayRollback : State :=
  { State.reset with
    pending := [.takeReleased (.writesComplete 0)]
    etu := ⟨[pieceRecord], State.reset.etu.vols.set 0 { primaryVolume with epoch := some 2 }⟩
    su := ⟨State.reset.su.vols.set 0 pieceSnapshots⟩
    ru := ⟨State.reset.ru.ctxs.set 0 pieceContext, []⟩
    dm := { State.reset.dm with engine := some zeroUnit }
    ps := { State.reset.ps with safe := false } }

theorem strayRollback_vol (v : Vol) : strayRollback.vol v = if v = 0 then { primaryVolume with epoch := some 2 } else .undefined := by
  revert v
  decide

theorem strayRollback_snapVol (v : Vol) : strayRollback.snapVol v = if v = 0 then pieceSnapshots else .empty := by
  revert v
  decide

theorem strayRollback_restoreCtx (c : Ctx) : strayRollback.restoreCtx c = if c = 0 then pieceContext else .free := by
  revert c
  decide

theorem strayRollback_inCtx (c : Ctx) : strayRollback.inCtx c = .free := reset_inCtx c

theorem strayRollback_units : strayRollback.dm.units = [zeroUnit] := rfl

theorem strayRollback_linked : strayRollback.linked where
  dues r := by
    have none : (strayRollback.ring r).waiting = [] := congrArg Ring.waiting (reset_ring r)
    rw [none]
    exact ⟨nofun, .nil⟩
  flights := by
    have ctx : ∀ c : Ctx, strayRollback.ru.ctxs[c] = if c = 0 then pieceContext else .free := strayRollback_restoreCtx
    refine ⟨fun c free => ?_, fun c flies => ?_, .nil, fun c => ?_⟩
    · rw [ctx] at free ⊢
      split at free
      · cases free
      · rename_i other
        rw [if_neg other]
    · rw [ctx] at flies ⊢
      split at flies
      · rename_i first
        rw [if_pos first]
        exact ⟨rfl, rfl, rfl⟩
      · exact absurd rfl flies
    · rw [ctx]
      split <;> simp [strayRollback, pieceContext, RestoreCtx.free]
  slots := reset_linked.slots
  units := by
    have faults : ∀ k, strayRollback.faulted k = false := fun k => congrArg FaultRec.fault (reset_faultRec k)
    simp only [State.unitsOk, strayRollback_units, strayRollback_restoreCtx, strayRollback_inCtx, InCtx.free_slot, faults]
    refine ⟨by simp [zeroUnit], by simp, by simp [zeroUnit, pieceContext], fun c f flies made => ?_, by simp [zeroUnit], by simp [Slot.clear], by simp [InCtx.free]⟩
    split at flies
    · rename_i first
      exact ⟨zeroUnit, List.mem_singleton_self _, by rw [first]; rfl⟩
    · cases flies
  ship := ⟨by rw [strayRollback_units]; simp [zeroUnit], nofun⟩
  sender := reset_linked.sender

theorem strayRollback_snapsLawful : strayRollback.snapsLawful where
  volumes v := by
    rw [strayRollback_vol, strayRollback_snapVol]
    split
    · simp [volumeOkWith, primaryVolume, pieceSnapshots, SnapVol.empty, Volume.isOpen, VolumeDef.unused]
    · exact reset_vol v ▸ reset_snapVol v ▸ reset_snapsLawful.volumes v
  snapshots v := by
    rw [strayRollback_vol, strayRollback_snapVol]
    split
    · simp [snapshotsOk, primaryVolume, pieceSnapshots, SnapVol.empty, SnapVol.reserved, Config.maxSnapshots]
    · exact reset_vol v ▸ reset_snapVol v ▸ reset_snapsLawful.snapshots v
  retire v := by
    rw [strayRollback_snapVol]
    split
    · simp [retireOk, pieceSnapshots, SnapVol.empty]
    · exact reset_snapVol v ▸ reset_snapsLawful.retire v
  holds := by
    refine ⟨fun v z mem => ?_, fun c runs => ?_, nofun, nofun⟩
    · rw [strayRollback_snapVol] at mem
      split at mem
      · rename_i zero
        obtain rfl := List.mem_singleton.1 mem
        rw [zero]
        exact ⟨by decide, nofun⟩
      · exact nomatch mem
    · rw [strayRollback_restoreCtx] at runs ⊢
      split at runs
      · rename_i first
        rw [if_pos first]
        exact ⟨.inl rfl, rfl, _, List.mem_singleton_self _, rfl⟩
      · cases runs
  creates := by
    refine ⟨fun v g mem => ?_, nofun⟩
    rw [strayRollback_snapVol] at mem
    split at mem <;> exact nomatch mem
  inbound := by
    have free : ∀ c, (strayRollback.inCtx c).state = .free := fun c => congrArg InCtx.state (strayRollback_inCtx c)
    refine ⟨fun c _ _ busy => absurd (free c) busy, fun c busy => absurd (free c) busy, fun c is => ?_, fun v place => ?_,
      fun v reset => absurd (congrArg ReplVol.reset (reset_replVol v)) reset⟩
    · rw [free] at is
      cases is
    · have none : (strayRollback.snapVol v).commitPlace = none := by rw [strayRollback_snapVol]; split <;> rfl
      exact absurd none place
  safe is := by cases is

theorem strayRollback_runsOf (v : Vol) : strayRollback.runsOf v = if v = 0 then [⟨0, 1⟩] else [] := by
  revert v
  decide

theorem strayRollback_blocksLawful : strayRollback.blocksLawful where
  order := List.pairwise_singleton ..
  exclusive v := by
    rw [strayRollback_runsOf]
    split <;> simp [apart]
  restores c runs _ := by
    rw [strayRollback_restoreCtx] at runs ⊢
    split at runs
    · rename_i first
      rw [if_pos first]
      refine ⟨by simp [pieceContext], List.pairwise_singleton .., nofun, fun f flies => ?_⟩
      obtain rfl := Option.some_inj.1 flies
      exact ⟨rfl, by decide, List.pairwise_singleton .., nofun, fun _ g mem => ⟨pieceRecord, List.mem_singleton_self _, rfl, (List.mem_singleton.1 mem).symm, rfl⟩⟩
    · cases runs
  flightsApart c d other _ f flies g flies' := by
    rw [strayRollback_restoreCtx] at flies flies'
    split at flies
    · split at flies'
      · rename_i first second
        exact absurd (first.trans second.symm) other
      · cases flies'
    · cases flies
  filling e mem _ := by
    obtain rfl := List.mem_singleton.1 mem
    exact ⟨rfl, rfl, 0, rfl, _, rfl, rfl, List.mem_singleton_self _⟩
  gates v gate := by
    have none : (strayRollback.snapVol v).gate = [] := by rw [strayRollback_snapVol]; split <;> rfl
    exact absurd none gate
  slots := reset_blocksLawful.slots
  landing := reset_blocksLawful.landing
  marks v mark := absurd (congrArg ReplVol.takeMark (reset_replVol v)) mark

/-- The scan retries, and the piece's record leaves the table. -/
theorem step_strayRollback : ∃ t, step strayRollback = .next t ∧ t.restoreCtx 0 = pieceContext ∧ t.extents = [] :=
  ⟨_, rfl, rfl, rfl⟩

/-- Refutes O10: the retry takes the record from under a piece in flight. -/
theorem not_stepKeepsBlockLaws : ¬ Obligations.StepKeepsBlockLaws := by
  unfold Obligations.StepKeepsBlockLaws
  intro keeps
  obtain ⟨t, stepped, ctx, extents⟩ := step_strayRollback
  have lawful := keeps strayRollback t reset_ok.riu strayRollback_linked strayRollback_snapsLawful strayRollback_blocksLawful stepped
  have restore := lawful.restores 0 (by rw [ctx]; rfl) (by rw [ctx]; rfl)
  rw [ctx] at restore
  obtain ⟨_, _, _, flights⟩ := restore
  obtain ⟨_, _, _, _, made⟩ := flights _ rfl
  obtain ⟨e, mem, _⟩ := made rfl ⟨0, 1⟩ (List.mem_singleton_self _)
  rw [extents] at mem
  exact nomatch mem

end Sys2Proof.Machine
end

section
/-! The invariant of the epochs and marks. `State.settled` asks, record by record, what `State.epochsLawful` and `State.trimsLawful` ask, and of the volumes, contexts and pieces in flight what the
operations need to keep it in the middle of a command. -/
namespace Sys2Proof.Machine

/-! ### What the invariant covers -/

/-- Whether the invariant speaks of what the trim scans have left behind them, and the producer of a volume, if any, that is just removing or holding the record at a place: what is said of
it is left out. -/
structure Scope where
  trims : Bool
  retrying : Option (Vol × Producer)
  place : Nat

/-- The commit scan of a context is just holding the record. -/
def Scope.holding (b : Scope) (c : Ctx) (e : Extent) : Prop := b.retrying = some (e.volume, .commit c) ∧ e.first = b.place

/-! ### The laws of one record -/

/-- A record goes with its volume's record (R1, R7, R18): `State.recordOk` and `State.epochsOk`. -/
def Extent.fits (e : Extent) (x : Volume) : Prop :=
  (x.state ≠ .undefined ∧ (x.defn.role = .replica ↔ e.source.isSome = true) ∧ (e.mark ≠ none → x.defn.role = .replica) ∧ ∀ d ∈ e.death, e.birth < d) ∧
    (∀ n ∈ x.epoch, (e.mark.map Mark.kind ≠ some .provBirth → e.birth ≤ n) ∧ (e.mark = none → ∀ d ∈ e.death, d ≤ n)) ∧
      (x.state = .defined → ∃ m ∈ x.seen, e.birth ≤ m ∧ ∀ d ∈ e.death, d ≤ m)

/-- A HELD record is spanned by a snapshot (R60). -/
def Extent.spanned (e : Extent) (y : SnapVol) : Prop := e.death ≠ none → ∃ z ∈ y.snaps, e.spans z.epoch

/-- The trim scan has not left the record behind with the snapshot it trims as the only one that spans it: `State.trimOk`. -/
def Extent.passed (e : Extent) (y : SnapVol) : Prop :=
  ∀ t ∈ y.retire.head?, ∀ n ∈ y.trim.place, e.death ≠ none → e.spans t.epoch → e.first < n → ∃ z ∈ y.snaps, z.epoch ≠ t.epoch ∧ e.spans z.epoch

/-- A mark is that of a context's run (R136): `State.markOk`. A commit scan may be holding the record. -/
def InCtx.marks (x : InCtx) (holding : Prop) (e : Extent) (m : Mark) : Prop :=
  x.state ≠ .free ∧ x.volume = e.volume ∧ x.runId = m.runId ∧
    (e.death ≠ none → m.kind = .provDeath ∧ x.state = .committing ∧ (e.first < x.cursor ∨ holding)) ∧
    (x.state = .aborting → x.walkDone = false ∧ x.cursor ≤ e.first)

/-- A record that stands where a piece in flight has made its records is LIVE and unmarked (R74). -/
def RestoreCtx.mayUndo (x : RestoreCtx) (e : Extent) : Prop :=
  ∀ f ∈ x.flight, f.created = true → x.volume = e.volume → ∀ g ∈ f.segs, e.first = g.first → e.death = none ∧ e.mark = none

/-- The laws of a record of a state. -/
structure State.admits (b : Scope) (s : State) (e : Extent) : Prop where
  fits : e.fits (s.vol e.volume)
  spanned : e.spanned (s.snapVol e.volume)
  passed : b.trims = true → e.passed (s.snapVol e.volume)
  marks : ∀ m ∈ e.mark, ∃ c, (s.inCtx c).marks (b.holding c e) e m
  within : ∀ c, (s.inCtx c).state ≠ .free → (s.inCtx c).volume = e.volume → e.within (s.inCtx c).target
  undo : ∀ c, (s.restoreCtx c).mayUndo e

/-! ### The laws of a volume -/

/-- A trim scan that waits is a waiting producer, and waits at a HELD record (R59, R66). -/
def SnapVol.waits (y : SnapVol) (still : Prop) (rs : List Extent) : Prop :=
  y.retire ≠ [] → ∀ n, y.trim = .waiting n → .trim ∈ y.producers ∧ (still → ∃ e ∈ rs, e.first = n ∧ e.death ≠ none)

/-- What a volume's record and its snapshots must be for a snapshot to be made or retired (R7, R50, R56). -/
structure Volume.steady (x : Volume) (y : SnapVol) : Prop where
  idle : y.retire = [] → y.trim = .idle
  retiring : ∀ z ∈ y.snaps, z.active = true → ∀ r ∈ y.retire, r.epoch ≠ z.epoch
  below : ∀ n ∈ x.epoch, (∀ z ∈ y.snaps, z.epoch < n) ∧ ∀ r ∈ y.retire, r.epoch < n
  gate : y.gate ≠ [] → x.isOpen
  dated : x.isOpen → x.epoch.isSome = true

/-! ### The invariant -/

structure State.settled (b : Scope) (s : State) : Prop where
  records : ∀ e ∈ s.extents, s.admits b e
  waits : ∀ v, (s.snapVol v).waits (b.retrying ≠ some (v, .trim)) (s.records v)
  producers : ∀ v, (s.snapVol v).producers.Nodup ∧ ∀ p ∈ (s.snapVol v).producers, b.retrying ≠ some (v, p) → s.producerOk v p
  births : ∀ c, (s.inCtx c).state ≠ .free → ∀ i : Fin 2, (s.inCtx c).slots[i].birthsOk (s.inCtx c).target
  volumes : ∀ v, (s.vol v).steady (s.snapVol v)
  inbound : ∀ c, (s.inCtx c).state ≠ .free → (s.vol (s.inCtx c).volume).isOpen ∧ (s.vol (s.inCtx c).volume).defn.role = .replica
  alone : ∀ c d, c ≠ d → (s.inCtx c).state ≠ .free → (s.inCtx d).state ≠ .free → (s.inCtx c).volume ≠ (s.inCtx d).volume
  flights : ∀ c, ∀ f ∈ (s.restoreCtx c).flight, f.created = true →
    (s.vol (s.restoreCtx c).volume).isOpen ∧ (s.vol (s.restoreCtx c).volume).defn.role = .primary

/-! ### The laws and the invariant -/

theorem mem_records {s : State} {v : Vol} {e : Extent} : e ∈ s.records v ↔ e ∈ s.extents ∧ e.volume = v := by
  rw [State.records, List.mem_filter, decide_eq_true_iff]

section
variable {b : Bool} {s : State}

theorem State.settled.epochsLawful (p : s.settled ⟨b, none, 0⟩) : s.epochsLawful where
  records e mem := (p.records e mem).fits
  held e mem := (p.records e mem).spanned
  trims v retiring n waiting := by
    obtain ⟨producer, record⟩ := p.waits v retiring n waiting
    exact ⟨producer, record nofun⟩
  marks e mem m mark := by
    obtain ⟨c, taken, volume, runId, held, walks⟩ := (p.records e mem).marks m mark
    refine ⟨c, taken, volume, runId, fun dead => ?_, walks⟩
    obtain ⟨kind, state, cursor | ⟨holding, -⟩⟩ := held dead
    · exact ⟨kind, state, cursor⟩
    · exact nomatch holding
  inbound c taken := ⟨fun e mem => (p.records e (mem_records.1 mem).1).within c taken (mem_records.1 mem).2.symm, p.births c taken⟩
  producers v := ⟨(p.producers v).1, fun q mem => (p.producers v).2 q mem nofun⟩

theorem State.settled.trimsLawful (p : s.settled ⟨true, none, 0⟩) : s.trimsLawful := by
  intro v t front n place e mem
  obtain ⟨inTable, rfl⟩ := mem_records.1 mem
  exact (p.records e inTable).passed rfl t front n place

/-- In the table's order no two records stand at one block of a volume. -/
theorem Etu.ordered.unique {x : Etu} (order : x.ordered) {a c : Extent} (ha : a ∈ x.extents) (hc : c ∈ x.extents) (volume : a.volume = c.volume)
    (first : a.first = c.first) : a = c :=
  List.Pairwise.forall_of_forall_of_flip (R := fun a c : Extent => a.volume = c.volume → a.first = c.first → a = c) (fun _ _ _ _ => rfl)
    (order.imp fun before volume first => by rw [volume, first] at before; simp at before)
    (order.imp fun before volume first => by rw [volume, first] at before; simp at before) ha hc volume first

theorem State.settled_of_laws (linked : s.linked) (snaps : s.snapsLawful) (blocks : s.blocksLawful) (epochs : s.epochsLawful)
    (trims : b = true → s.trimsLawful) : s.settled ⟨b, none, 0⟩ where
  records e mem := {
    fits := epochs.records e mem
    spanned := epochs.held e mem
    passed := fun also t front n place => trims also e.volume t front n place e (mem_records.2 ⟨mem, rfl⟩)
    marks := fun m mark => by
      obtain ⟨c, taken, volume, runId, held, walks⟩ := epochs.marks e mem m mark
      refine ⟨c, taken, volume, runId, fun dead => ?_, walks⟩
      obtain ⟨kind, state, cursor⟩ := held dead
      exact ⟨kind, state, .inl cursor⟩
    within := fun c taken volume => (epochs.inbound c taken).1 e (mem_records.2 ⟨mem, volume.symm⟩)
    undo := fun c f flying made volume g inFlight first => by
      obtain ⟨-, running, -⟩ := linked.flights
      obtain ⟨runs, restores, -⟩ := running c (by rw [show s.ru.ctxs[c].flight = some f from flying]; exact Option.some_ne_none f)
      obtain ⟨-, -, -, segments⟩ := blocks.restores c runs restores
      obtain ⟨d, inTable, sameVolume, run, filling⟩ := (segments f flying).2.2.2.2 made g inFlight
      have same : e = d := blocks.order.unique mem inTable (volume.symm.trans sameVolume.symm) (first.trans (congrArg Run.first run).symm)
      subst same
      obtain ⟨death, primary, -⟩ := blocks.filling e mem filling
      refine ⟨death, Decidable.not_not.1 fun marked => ?_⟩
      have replica := (epochs.records e mem).1.2.2.1 marked
      exact nomatch primary.symm.trans replica }
  waits v retiring n waiting := by
    obtain ⟨producer, record⟩ := epochs.trims v retiring n waiting
    exact ⟨producer, fun _ => record⟩
  producers v := ⟨(epochs.producers v).1, fun q mem _ => (epochs.producers v).2 q mem⟩
  births c taken := (epochs.inbound c taken).2
  volumes v := by
    obtain ⟨-, retiring, queued, idle, -⟩ := snaps.retire v
    obtain ⟨-, -, -, below, -⟩ := snaps.snapshots v
    obtain ⟨-, -, dated, gate, -⟩ := snaps.volumes v
    refine ⟨idle.2, fun z mem active r entry same => ?_, fun n current => ⟨below n current, fun r entry => ?_⟩, fun waits => (gate waits).1, dated.2⟩
    · have retired := (retiring z mem).2 (List.mem_map.2 ⟨r, entry, same⟩)
      exact Bool.noConfusion (active.symm.trans retired)
    · obtain ⟨z, mem, same⟩ := queued r entry
      exact same ▸ below n current z mem
  inbound c taken := by
    obtain ⟨opened, replica, -⟩ := snaps.inbound.2.1 c taken
    exact ⟨opened, replica⟩
  alone := snaps.inbound.1
  flights c f flying _ := by
    obtain ⟨-, running, -⟩ := linked.flights
    obtain ⟨runs, -, -⟩ := running c (by rw [show s.ru.ctxs[c].flight = some f from flying]; exact Option.some_ne_none f)
    obtain ⟨opened, primary, -⟩ := snaps.holds.2.1 c runs
    exact ⟨opened, primary⟩

end
end Sys2Proof.Machine
end

section
/-! What keeps the invariant of the epochs and marks: a calm change of the rest of the state, with records that are like those before or that the state admits. -/
namespace Sys2Proof.Machine

/-! ### Records alike -/

/-- Two records agree in what the laws of the epochs and marks speak of. -/
structure Extent.like (d e : Extent) : Prop where
  volume : e.volume = d.volume
  first : e.first = d.first
  birth : e.birth = d.birth
  death : e.death = d.death
  mark : e.mark = d.mark
  source : e.source.isSome = d.source.isSome

theorem Extent.like.refl (e : Extent) : e.like e := ⟨rfl, rfl, rfl, rfl, rfl, rfl⟩

theorem Extent.like.spans {d e : Extent} (l : d.like e) (n : Nat) : e.spans n ↔ d.spans n := by rw [Extent.spans, Extent.spans, l.birth, l.death]

/-! ### Calm changes -/

theorem Volume.calm.refl (x : Volume) : x.calm x := ⟨rfl, rfl, rfl, .inl rfl⟩
theorem SnapVol.calm.refl (y : SnapVol) : y.calm y := ⟨rfl, rfl, rfl, rfl, id⟩
theorem RestoreCtx.calm.refl (x : RestoreCtx) : x.calm x := RestoreCtx.calm_of_flight rfl rfl
theorem InCtx.calm.refl (x : InCtx) : x.calm x := ⟨rfl, rfl, rfl, rfl, rfl, rfl, id⟩

theorem Volume.calm.isOpen {x y : Volume} (c : x.calm y) (opened : x.isOpen) : y.isOpen := by
  obtain same | both := c.state
  · unfold Volume.isOpen at opened ⊢
    rwa [same]
  · exact both.2

theorem Volume.calm.isOpen_of {x y : Volume} (c : x.calm y) (opened : y.isOpen) : x.isOpen := by
  obtain same | both := c.state
  · unfold Volume.isOpen at opened ⊢
    rwa [same] at opened
  · exact both.1

theorem Volume.isOpen.state {x : Volume} (opened : x.isOpen) : x.state ≠ .undefined ∧ x.state ≠ .defined := by
  obtain online | sealedState := opened
  · simp [online]
  · simp [sealedState]

/-- What a REPLICA_RESET has left to append. -/
def ResetJob.left (j : ResetJob) : Bool × List Run := (j.emptied, j.outgoing)

/-- Each volume and context has changed calmly, and each REPLICA_RESET has as much left to append. -/
structure State.calm (s t : State) : Prop where
  vols : ∀ v, (s.vol v).calm (t.vol v)
  snaps : ∀ v, (s.snapVol v).calm (t.snapVol v)
  restores : ∀ c, (s.restoreCtx c).calm (t.restoreCtx c)
  ctxs : ∀ c, (s.inCtx c).calm (t.inCtx c)
  resets : ∀ v, (t.replVol v).reset.map ResetJob.left = (s.replVol v).reset.map ResetJob.left

/-- Only blocks that have no volume, context or REPLICA_RESET differ. -/
theorem State.calm.of_same {s t : State} (etu : t.etu.vols = s.etu.vols) (su : t.su = s.su) (ru : t.ru.ctxs = s.ru.ctxs) (dr : t.dr = s.dr) : s.calm t where
  vols v := by rw [State.vol, State.vol, etu]; exact .refl _
  snaps v := by rw [State.snapVol, State.snapVol, su]; exact .refl _
  restores c := by rw [State.restoreCtx, State.restoreCtx, ru]; exact .refl _
  ctxs c := by rw [State.inCtx, State.inCtx, dr]; exact .refl _
  resets v := by rw [State.replVol, State.replVol, dr]

theorem exists_standing {l m : List Snapshot} (same : m.map Snapshot.standing = l.map Snapshot.standing) {z : Snapshot} (mem : z ∈ l) :
    ∃ w ∈ m, w.epoch = z.epoch ∧ w.active = z.active := by
  have key : z.standing ∈ m.map Snapshot.standing := same ▸ List.mem_map_of_mem mem
  obtain ⟨w, mem, eq⟩ := List.mem_map.1 key
  exact ⟨w, mem, congrArg Prod.fst eq, congrArg Prod.snd eq⟩

theorem exists_entry {l m : List RetireEntry} (same : m.map RetireEntry.epoch = l.map RetireEntry.epoch) {r : RetireEntry} (mem : r ∈ l) :
    ∃ q ∈ m, q.epoch = r.epoch := List.mem_map.1 (same ▸ List.mem_map_of_mem mem)

theorem eq_nil_of_map {α β : Type} {f : α → β} {l m : List α} (same : m.map f = l.map f) (empty : l = []) : m = [] := by
  rw [empty, List.map_nil] at same
  exact List.map_eq_nil_iff.1 same

section
variable {d e : Extent} {x y : Volume} {a c : SnapVol}

theorem Extent.fits.calm (f : d.fits x) (l : d.like e) (k : x.calm y) : e.fits y := by
  obtain ⟨⟨undefined, sourced, marked, lives⟩, current, seen⟩ := f
  refine ⟨⟨?_, ?_, ?_, ?_⟩, ?_, fun defined => ?_⟩
  · obtain same | both := k.state
    · rwa [same]
    · exact both.2.state.1
  · rwa [k.defn, l.source]
  · rwa [k.defn, l.mark]
  · rwa [l.birth, l.death]
  · rwa [k.epoch, l.birth, l.death, l.mark]
  · rw [k.seen, l.birth, l.death]
    obtain same | both := k.state
    · exact seen (same ▸ defined)
    · exact absurd defined both.2.state.2

theorem Extent.spanned.calm (f : d.spanned a) (l : d.like e) (k : a.calm c) : e.spanned c := by
  intro dead
  obtain ⟨z, mem, spans⟩ := f (l.death ▸ dead)
  obtain ⟨w, mem, epoch, -⟩ := exists_standing k.snaps mem
  exact ⟨w, mem, (l.spans _).2 (epoch ▸ spans)⟩

theorem Extent.passed.calm (f : d.passed a) (l : d.like e) (k : a.calm c) : e.passed c := by
  intro t front n place dead spans before
  have heads : c.retire.head?.map RetireEntry.epoch = a.retire.head?.map RetireEntry.epoch := by rw [← List.head?_map, ← List.head?_map, k.retire]
  rw [Option.mem_def.1 front, Option.map_some] at heads
  obtain ⟨r, front, same⟩ := Option.map_eq_some_iff.1 heads.symm
  obtain ⟨z, mem, other, spans⟩ := f r front n (k.trim ▸ place) (l.death ▸ dead) (same ▸ (l.spans _).1 spans) (l.first ▸ before)
  obtain ⟨w, mem, epoch, -⟩ := exists_standing k.snaps mem
  exact ⟨w, mem, by rwa [epoch, ← same], (l.spans _).2 (epoch ▸ spans)⟩

theorem InCtx.marks.calm {x y : InCtx} {m : Mark} {holding : Prop} (f : x.marks holding d m) (l : d.like e) (k : x.calm y) : y.marks holding e m := by
  obtain ⟨taken, volume, runId, held, walks⟩ := f
  exact ⟨k.state ▸ taken, by rw [k.volume, volume, l.volume], k.runId.trans runId, by rwa [l.death, k.state, k.cursor, l.first],
    by rwa [k.state, k.walkDone, k.cursor, l.first]⟩

theorem RestoreCtx.mayUndo.calm {x y : RestoreCtx} (f : x.mayUndo d) (l : d.like e) (k : x.calm y) : y.mayUndo e := by
  intro g flying made volume r inFlight first
  obtain ⟨sameVolume, flew⟩ := k g flying made
  rw [l.death, l.mark]
  exact f g flew made (by rw [← sameVolume, volume, l.volume]) r inFlight (l.first ▸ first)

theorem Volume.steady.calm (f : x.steady a) (k : x.calm y) (kk : a.calm c) : y.steady c where
  idle none := kk.trim.trans (f.idle (eq_nil_of_map kk.retire.symm none))
  retiring z mem active r entry same := by
    obtain ⟨w, inList, epoch, activity⟩ := exists_standing kk.snaps.symm mem
    obtain ⟨q, queued, entryEpoch⟩ := exists_entry kk.retire.symm entry
    exact f.retiring w inList (activity.trans active) q queued (entryEpoch.trans (same.trans epoch.symm))
  below n current := by
    obtain ⟨snaps, entries⟩ := f.below n (k.epoch ▸ current)
    refine ⟨fun z mem => ?_, fun r entry => ?_⟩
    · obtain ⟨w, inList, epoch, -⟩ := exists_standing kk.snaps.symm mem
      exact epoch ▸ snaps w inList
    · obtain ⟨q, queued, epoch⟩ := exists_entry kk.retire.symm entry
      exact epoch ▸ entries q queued
  gate waiting := k.isOpen (f.gate fun none => waiting (kk.gate none))
  dated opened := k.epoch ▸ f.dated (k.isOpen_of opened)

end

section
variable {b : Scope} {s t : State}

theorem State.admits.calm {d e : Extent} (p : s.admits b d) (l : d.like e) (k : s.calm t) : t.admits b e where
  fits := l.volume ▸ p.fits.calm l (k.vols _)
  spanned := l.volume ▸ p.spanned.calm l (k.snaps _)
  passed also := l.volume ▸ (p.passed also).calm l (k.snaps _)
  marks m mem := by
    obtain ⟨c, marks⟩ := p.marks m (l.mark ▸ mem)
    exact ⟨c, by rw [Scope.holding, l.volume, l.first]; exact marks.calm l (k.ctxs c)⟩
  within c taken volume := by
    rw [(k.ctxs c).state] at taken
    rw [(k.ctxs c).volume, l.volume] at volume
    rw [(k.ctxs c).target, Extent.within, l.birth, l.death]
    exact p.within c taken volume
  undo c := (p.undo c).calm l (k.restores c)

/-- A trim scan waits at the record. -/
def State.trimAt (b : Scope) (s : State) (e : Extent) : Prop :=
  b.retrying ≠ some (e.volume, .trim) ∧ e.death ≠ none ∧ (s.snapVol e.volume).trim = .waiting e.first

/-- The commit or rollback scan of a context waits at the record. -/
def State.scanAt (b : Scope) (s : State) (e : Extent) (c : Ctx) : Prop :=
  e.mark ≠ none ∧ (s.inCtx c).state ≠ .free ∧ (s.inCtx c).volume = e.volume ∧ (s.inCtx c).cursor = e.first ∧
    ∃ q ∈ (s.snapVol e.volume).producers, (q = .commit c ∨ q = .rollback c) ∧ b.retrying ≠ some (e.volume, q)

/-- The records `l` have, where a producer waits, what it waits for. -/
structure State.keeps (b : Scope) (s : State) (l : List Extent) : Prop where
  held : ∀ d ∈ s.extents, s.trimAt b d → ∃ e ∈ l, e.volume = d.volume ∧ e.first = d.first ∧ e.death ≠ none
  marked : ∀ d ∈ s.extents, ∀ c, s.scanAt b d c → ∃ e ∈ l, e.volume = d.volume ∧ e.first = d.first ∧ e.mark = d.mark

/-- A producer waits at the record. -/
def State.awaits (b : Scope) (s : State) (e : Extent) : Prop := s.trimAt b e ∨ ∃ c, s.scanAt b e c

theorem State.keeps_of_like {l : List Extent} (kept : ∀ d ∈ s.extents, s.awaits b d → ∃ e ∈ l, d.like e) : s.keeps b l where
  held d mem waits := by
    obtain ⟨e, new, like⟩ := kept d mem (.inl waits)
    exact ⟨e, new, like.volume, like.first, like.death ▸ waits.2.1⟩
  marked d mem c scans := by
    obtain ⟨e, new, like⟩ := kept d mem (.inr ⟨c, scans⟩)
    exact ⟨e, new, like.volume, like.first, like.mark⟩

theorem State.keeps_of_subset {l : List Extent} (kept : ∀ d ∈ s.extents, d ∈ l) : s.keeps b l :=
  keeps_of_like fun d mem _ => ⟨d, kept d mem, .refl d⟩

/-- The record that a commit or rollback scan waits at. -/
theorem State.keeps.scan {l : List Extent} (kept : s.keeps b l) {v : Vol} {c : Ctx} {q : Producer} {m : Mark} (mem : q ∈ (s.snapVol v).producers)
    (of_c : q = .commit c ∨ q = .rollback c) (active : b.retrying ≠ some (v, q)) (taken : (s.inCtx c).state ≠ .free) (volume : (s.inCtx c).volume = v)
    (record : ∃ d ∈ s.records v, d.first = (s.inCtx c).cursor ∧ d.mark = some m) : ∃ e ∈ l, e.volume = v ∧ e.first = (s.inCtx c).cursor ∧ e.mark = some m := by
  obtain ⟨d, inList, first, mark⟩ := record
  obtain ⟨inTable, rfl⟩ := mem_records.1 inList
  obtain ⟨e, new, sameVolume, sameFirst, sameMark⟩ := kept.marked d inTable c ⟨by simp [mark], taken, volume, first.symm, q, mem, of_c, active⟩
  exact ⟨e, new, sameVolume, sameFirst.trans first, sameMark.trans mark⟩

/-- The producers that wait go on to stand at their records. -/
theorem State.settled.producerOk (p : s.settled b) (k : s.calm t) (kept : s.keeps b t.extents) {v : Vol} {q : Producer}
    (mem : q ∈ (s.snapVol v).producers) (active : b.retrying ≠ some (v, q)) : t.producerOk v q := by
  have ok := (p.producers v).2 q mem active
  cases q with
  | trim =>
    obtain ⟨d, -, waiting⟩ := ok
    have retiring : (s.snapVol v).retire ≠ [] := fun none => nomatch waiting.symm.trans ((p.volumes v).idle none)
    obtain ⟨-, record⟩ := p.waits v retiring _ waiting
    obtain ⟨d, inList, first, dead⟩ := record active
    obtain ⟨inTable, rfl⟩ := mem_records.1 inList
    obtain ⟨e, new, volume, sameFirst, -⟩ := kept.held d inTable ⟨active, dead, by rw [waiting, first]⟩
    refine ⟨e, mem_records.2 ⟨new, volume⟩, ?_⟩
    rw [(k.snaps _).trim, waiting, sameFirst, first]
  | commit c =>
    obtain ⟨committing, volume, record⟩ := ok
    obtain ⟨e, new, recordVolume, first, mark⟩ := kept.scan mem (.inl rfl) active (by simp [committing]) volume record
    exact ⟨(k.ctxs c).state.trans committing, (k.ctxs c).volume.trans volume, e, mem_records.2 ⟨new, recordVolume⟩,
      by rw [first, (k.ctxs c).cursor], by rw [mark, (k.ctxs c).runId]⟩
  | rollback c =>
    obtain ⟨aborting, volume, record⟩ := ok
    obtain ⟨e, new, recordVolume, first, mark⟩ := kept.scan mem (.inr rfl) active (by simp [aborting]) volume record
    exact ⟨(k.ctxs c).state.trans aborting, (k.ctxs c).volume.trans volume, e, mem_records.2 ⟨new, recordVolume⟩,
      by rw [first, (k.ctxs c).cursor], by rw [mark, (k.ctxs c).runId]⟩
  | reset =>
    obtain ⟨j, job, emptied, outgoing⟩ := ok
    have left := k.resets v
    rw [Option.mem_def.1 job, Option.map_some] at left
    obtain ⟨i, job, same⟩ := Option.map_eq_some_iff.1 left
    exact ⟨i, job, (congrArg Prod.fst same).trans emptied, by rw [show i.outgoing = j.outgoing from congrArg Prod.snd same]; exact outgoing⟩

/-- The invariant goes on through a calm change, when each record is like one before or admitted, and each producer that waits has its record. -/
theorem State.settled.calm (p : s.settled b) (k : s.calm t) (new : ∀ e ∈ t.extents, (∃ d ∈ s.extents, d.like e) ∨ s.admits b e)
    (kept : s.keeps b t.extents) : t.settled b where
  records e mem := by
    obtain ⟨d, inTable, l⟩ | admitted := new e mem
    · exact (p.records d inTable).calm l k
    · exact admitted.calm (.refl e) k
  waits v retiring n waiting := by
    rw [(k.snaps v).trim] at waiting
    obtain ⟨producer, record⟩ := p.waits v (fun none => retiring (eq_nil_of_map (k.snaps v).retire none)) n waiting
    refine ⟨(k.snaps v).producers ▸ producer, fun active => ?_⟩
    obtain ⟨d, inList, first, dead⟩ := record active
    obtain ⟨inTable, rfl⟩ := mem_records.1 inList
    obtain ⟨e, new, volume, sameFirst, dead⟩ := kept.held d inTable ⟨active, dead, by rw [waiting, first]⟩
    exact ⟨e, mem_records.2 ⟨new, volume⟩, sameFirst.trans first, dead⟩
  producers v := by
    rw [(k.snaps v).producers]
    exact ⟨(p.producers v).1, fun q mem active => p.producerOk k kept mem active⟩
  births c taken := (k.ctxs c).births (p.births c ((k.ctxs c).state ▸ taken))
  volumes v := (p.volumes v).calm (k.vols v) (k.snaps v)
  inbound c taken := by
    obtain ⟨opened, replica⟩ := p.inbound c ((k.ctxs c).state ▸ taken)
    rw [(k.ctxs c).volume]
    exact ⟨(k.vols _).isOpen opened, by rw [(k.vols _).defn]; exact replica⟩
  alone c d differ taken also := by
    rw [(k.ctxs c).volume, (k.ctxs d).volume]
    exact p.alone c d differ ((k.ctxs c).state ▸ taken) ((k.ctxs d).state ▸ also)
  flights c f flying made := by
    obtain ⟨volume, flew⟩ := k.restores c f flying made
    obtain ⟨opened, primary⟩ := p.flights c f flew made
    rw [volume]
    exact ⟨(k.vols _).isOpen opened, by rw [(k.vols _).defn]; exact primary⟩

theorem State.settled.calm_of_same (p : s.settled b) (k : s.calm t) (same : t.extents = s.extents) : t.settled b :=
  p.calm k (fun e mem => .inl ⟨e, same ▸ mem, .refl e⟩) (keeps_of_subset fun _ mem => same ▸ mem)

end
end Sys2Proof.Machine
end

section
/-! What keeps the invariant of the epochs and marks: the change of one volume and of one inbound context, the landing of records and their deletions; so the quiet updates keep it. -/
namespace Sys2Proof.Machine

/-! ### One volume -/

/-- Two states differ in the records of one volume and of its snapshots alone, as far as the invariant goes. -/
structure State.only (s t : State) (v : Vol) : Prop where
  extents : t.extents = s.extents
  vols : ∀ w, w ≠ v → t.vol w = s.vol w
  snaps : ∀ w, w ≠ v → t.snapVol w = s.snapVol w
  restores : ∀ c, t.restoreCtx c = s.restoreCtx c
  ctxs : ∀ c, t.inCtx c = s.inCtx c
  resets : ∀ w, (t.replVol w).reset = (s.replVol w).reset

theorem State.only_setVol (s : State) (v : Vol) (x : Volume) : s.only (s.setVol v x) v :=
  ⟨rfl, fun _ other => (State.vol_setVol ..).trans (if_neg other.symm), fun _ _ => rfl, fun _ => rfl, fun _ => rfl, fun _ => rfl⟩

theorem State.only_setSnapVol (s : State) (v : Vol) (x : SnapVol) : s.only (s.setSnapVol v x) v :=
  ⟨rfl, fun _ _ => rfl, fun _ other => (State.snapVol_setSnapVol ..).trans (if_neg other.symm), fun _ => rfl, fun _ => rfl, fun _ => rfl⟩

theorem State.only.trans {s t u : State} {v : Vol} (h : s.only t v) (k : t.only u v) : s.only u v :=
  ⟨k.extents.trans h.extents, fun w o => (k.vols w o).trans (h.vols w o), fun w o => (k.snaps w o).trans (h.snaps w o),
    fun c => (k.restores c).trans (h.restores c), fun c => (k.ctxs c).trans (h.ctxs c), fun w => (k.resets w).trans (h.resets w)⟩

section
variable {b : Scope} {s t : State} {v : Vol}

theorem State.only.records (o : s.only t v) (w : Vol) : t.records w = s.records w := by rw [State.records, State.records, o.extents]

/-- A producer other than a trim scan goes on to stand at its record, and a trim scan while it waits at the same place. -/
theorem State.only.producerOk (o : s.only t v) {w : Vol} {q : Producer} (trim : q = .trim → (t.snapVol w).trim = (s.snapVol w).trim)
    (ok : s.producerOk w q) : t.producerOk w q := by
  cases q with
  | trim => rwa [State.producerOk, o.records, trim rfl]
  | commit c => rwa [State.producerOk, o.records, o.ctxs]
  | rollback c => rwa [State.producerOk, o.records, o.ctxs]
  | reset => rwa [State.producerOk, o.resets]

/-- The invariant goes on when one volume changes to one that has its laws. -/
theorem State.settled.volume (p : s.settled b) (o : s.only t v)
    (records : ∀ e ∈ s.extents, e.volume = v → e.fits (t.vol v) ∧ e.spanned (t.snapVol v) ∧ (b.trims = true → e.passed (t.snapVol v)))
    (waits : (t.snapVol v).waits (b.retrying ≠ some (v, .trim)) (s.records v))
    (producers : (t.snapVol v).producers.Nodup ∧ ∀ q ∈ (t.snapVol v).producers, b.retrying ≠ some (v, q) → t.producerOk v q)
    (steady : (t.vol v).steady (t.snapVol v))
    (opens : (s.vol v).isOpen → (t.vol v).isOpen ∧ (t.vol v).defn.role = (s.vol v).defn.role) : t.settled b where
  records e mem := by
    have before := p.records e (o.extents ▸ mem)
    have here : e.fits (t.vol e.volume) ∧ e.spanned (t.snapVol e.volume) ∧ (b.trims = true → e.passed (t.snapVol e.volume)) := by
      by_cases at_v : e.volume = v
      · exact at_v ▸ records e (o.extents ▸ mem) at_v
      · rw [o.vols _ at_v, o.snaps _ at_v]
        exact ⟨before.fits, before.spanned, before.passed⟩
    obtain ⟨fits, spanned, passed⟩ := here
    exact ⟨fits, spanned, passed, fun m mem => by simpa only [o.ctxs] using before.marks m mem, fun c => by simpa only [o.ctxs] using before.within c,
      fun c => by simpa only [o.restores] using before.undo c⟩
  waits w := by
    rw [o.records]
    by_cases at_v : w = v
    · exact at_v ▸ waits
    · rw [o.snaps w at_v]
      exact p.waits w
  producers w := by
    by_cases at_v : w = v
    · exact at_v ▸ producers
    · rw [o.snaps w at_v]
      exact ⟨(p.producers w).1, fun q mem active => o.producerOk (fun _ => by rw [o.snaps w at_v]) ((p.producers w).2 q mem active)⟩
  births c := by simpa only [o.ctxs] using p.births c
  volumes w := by
    by_cases at_v : w = v
    · exact at_v ▸ steady
    · rw [o.vols w at_v, o.snaps w at_v]
      exact p.volumes w
  inbound c taken := by
    rw [o.ctxs] at taken ⊢
    obtain ⟨opened, replica⟩ := p.inbound c taken
    by_cases at_v : (s.inCtx c).volume = v
    · rw [at_v] at opened replica ⊢
      exact ⟨(opens opened).1, (opens opened).2.trans replica⟩
    · rw [o.vols _ at_v]
      exact ⟨opened, replica⟩
  alone c d := by simpa only [o.ctxs] using p.alone c d
  flights c f flying made := by
    rw [o.restores] at flying ⊢
    obtain ⟨opened, primary⟩ := p.flights c f flying made
    by_cases at_v : (s.restoreCtx c).volume = v
    · rw [at_v] at opened primary ⊢
      exact ⟨(opens opened).1, (opens opened).2.trans primary⟩
    · rw [o.vols _ at_v]
      exact ⟨opened, primary⟩

/-! ### Snapshots made and retired -/

theorem Extent.spanned.mono {e : Extent} {x y : SnapVol} (f : e.spanned x) (more : ∀ z ∈ x.snaps, ∃ w ∈ y.snaps, w.epoch = z.epoch) : e.spanned y := by
  intro dead
  obtain ⟨z, mem, spans⟩ := f dead
  obtain ⟨w, mem, epoch⟩ := more z mem
  exact ⟨w, mem, epoch ▸ spans⟩

theorem Extent.passed.mono {e : Extent} {x y : SnapVol} (f : e.passed x) (more : ∀ z ∈ x.snaps, ∃ w ∈ y.snaps, w.epoch = z.epoch)
    (front : y.retire.head? = x.retire.head?) (trim : y.trim = x.trim) : e.passed y := by
  intro t mem n place dead spans before
  obtain ⟨z, mem, other, spans⟩ := f t (front ▸ mem) n (trim ▸ place) dead spans before
  obtain ⟨w, mem, epoch⟩ := more z mem
  exact ⟨w, mem, epoch ▸ other, epoch ▸ spans⟩

/-- A scan at block 0 has left no record behind. -/
theorem Extent.passed_of_start {e : Extent} {y : SnapVol} (start : ∀ n ∈ y.trim.place, n = 0) : e.passed y :=
  fun _ _ n place _ _ before => absurd (start n place ▸ before) (Nat.not_lt_zero _)

theorem State.settled.joinGate (p : s.settled b) {g : GateCreate} (opened : (s.vol v).isOpen) : (joinGate v g s).settled b := by
  have o : s.only (Machine.joinGate v g s) v := s.only_setSnapVol v _
  have here : (Machine.joinGate v g s).snapVol v = { s.snapVol v with gate := (s.snapVol v).gate ++ [g] } := (State.snapVol_setSnapVol ..).trans (if_pos rfl)
  refine p.volume o (fun e mem at_v => ?_) ?_ ?_ ?_ fun opened => ⟨opened, rfl⟩
  · have before := p.records e mem
    rw [here]
    exact at_v ▸ ⟨before.fits, before.spanned, before.passed⟩
  · rw [here]; exact p.waits v
  · have trim : ((Machine.joinGate v g s).snapVol v).trim = (s.snapVol v).trim := by rw [here]
    rw [show ((Machine.joinGate v g s).snapVol v).producers = (s.snapVol v).producers by rw [here]]
    exact ⟨(p.producers v).1, fun q mem active => o.producerOk (fun _ => trim) ((p.producers v).2 q mem active)⟩
  · obtain ⟨idle, retiring, below, -, dated⟩ := p.volumes v
    rw [here]
    exact ⟨idle, retiring, below, fun _ => opened, dated⟩

/-- A snapshot made at the current epoch lies below the next one, and above every entry of the retire queue. -/
theorem State.settled.addSnapshot (p : s.settled b) {l : Nat} {base : Bool} (opened : (s.vol v).isOpen) :
    ((s.setSnapVol v { s.snapVol v with snaps := (s.snapVol v).snaps ++ [⟨(s.vol v).epoch.getD 0, l, s.qu.clock, true, false, base, 0⟩] }).setVol v
      { s.vol v with epoch := some ((s.vol v).epoch.getD 0 + 1) }).settled b := by
  obtain ⟨n, current⟩ := Option.isSome_iff_exists.1 ((p.volumes v).dated opened)
  rw [current, Option.getD_some]
  generalize ht : (s.setSnapVol v _).setVol v _ = t
  have o : s.only t v := ht ▸ (s.only_setSnapVol v _).trans (State.only_setVol ..)
  have vol : t.vol v = { s.vol v with epoch := some (n + 1) } := ht ▸ (State.vol_setVol ..).trans (if_pos rfl)
  have snap : t.snapVol v = { s.snapVol v with snaps := (s.snapVol v).snaps ++ [⟨n, l, s.qu.clock, true, false, base, 0⟩] } :=
    ht ▸ (State.snapVol_setSnapVol ..).trans (if_pos rfl)
  obtain ⟨idle, retiring, below, gate, dated⟩ := p.volumes v
  obtain ⟨snapsBelow, entriesBelow⟩ := below n current
  refine p.volume o (fun e mem at_v => ?_) ?_ ?_ ?_ fun opened => ?_
  · have before := p.records e mem
    obtain ⟨⟨form, epochs, seen⟩, spanned, passed⟩ := And.intro before.fits (And.intro before.spanned before.passed)
    rw [at_v] at form epochs seen spanned passed
    have more : ∀ z ∈ (s.snapVol v).snaps, ∃ w ∈ (t.snapVol v).snaps, w.epoch = z.epoch := fun z mem => ⟨z, by rw [snap]; exact List.mem_append_left _ mem, rfl⟩
    refine ⟨?_, spanned.mono more, fun also => (passed also).mono more (by rw [snap]) (by rw [snap])⟩
    rw [vol]
    refine ⟨form, fun m next => ?_, seen⟩
    obtain rfl : n + 1 = m := Option.some.inj next
    exact ⟨fun made => ((epochs n current).1 made).trans (Nat.le_succ n), fun unmarked d dead => ((epochs n current).2 unmarked d dead).trans (Nat.le_succ n)⟩
  · rw [snap]; exact p.waits v
  · rw [show (t.snapVol v).producers = (s.snapVol v).producers by rw [snap]]
    exact ⟨(p.producers v).1, fun q mem active => o.producerOk (fun _ => by rw [snap]) ((p.producers v).2 q mem active)⟩
  · rw [vol, snap]
    refine ⟨idle, fun z mem active r entry => ?_, fun m next => ?_, gate, fun _ => rfl⟩
    · obtain mem | mem := List.mem_append.1 mem
      · exact retiring z mem active r entry
      · obtain rfl := List.mem_singleton.1 mem
        exact Nat.ne_of_lt (entriesBelow r entry)
    · obtain rfl : n + 1 = m := Option.some.inj next
      refine ⟨fun z mem => ?_, fun r entry => (entriesBelow r entry).trans (Nat.lt_succ_self n)⟩
      obtain mem | mem := List.mem_append.1 mem
      · exact (snapsBelow z mem).trans (Nat.lt_succ_self n)
      · obtain rfl := List.mem_singleton.1 mem
        exact Nat.lt_succ_self n
  · rw [vol]; exact ⟨opened, rfl⟩

theorem State.settled.retireSnapshot (p : s.settled b) {n : Nat} {origin : RetireOrigin} (present : ∃ z ∈ (s.snapVol v).snaps, z.epoch = n) :
    (retireSnapshot v n origin s).settled b := by
  generalize ht : Machine.retireSnapshot v n origin s = t
  have o : s.only t v := ht ▸ (s.only_setSnapVol v _).trans (State.only_setSnapVol ..)
  have vol : t.vol v = s.vol v := ht ▸ rfl
  have snap : t.snapVol v = { s.snapVol v with
      snaps := (s.snapVol v).snaps.map fun y => if y.epoch = n then { y with active := false } else y
      retire := (s.snapVol v).retire ++ [⟨n, origin, 0, 0⟩]
      trim := if (s.snapVol v).retire.isEmpty then .scanning 0 else (s.snapVol v).trim } := by
    subst ht
    simp only [Machine.retireSnapshot, State.updateSnap, State.snapVol_setSnapVol, if_pos]
  obtain ⟨idle, retiring, below, gate, dated⟩ := p.volumes v
  have more : ∀ z ∈ (s.snapVol v).snaps, ∃ w ∈ (t.snapVol v).snaps, w.epoch = z.epoch := by
    intro z mem
    rw [snap]
    refine ⟨_, List.mem_map_of_mem mem, ?_⟩
    split <;> rfl
  refine p.volume o (fun e mem at_v => ?_) ?_ ?_ ?_ fun opened => ?_
  · have before := p.records e mem
    refine ⟨vol ▸ at_v ▸ before.fits, (at_v ▸ before.spanned).mono more, fun also => ?_⟩
    by_cases empty : (s.snapVol v).retire = []
    · refine Extent.passed_of_start fun m place => ?_
      rw [snap, empty] at place
      exact (Option.some.inj place).symm
    · refine (at_v ▸ before.passed also).mono more ?_ ?_
      · rw [snap, List.head?_append_of_ne_nil _ empty]
      · rw [snap]; exact if_neg fun e => empty (List.isEmpty_iff.1 e)
  · rw [snap]
    intro _ m waiting
    have nonempty : (s.snapVol v).retire ≠ [] := fun empty => by simp [empty] at waiting
    exact p.waits v nonempty m (by simpa [nonempty] using waiting)
  · rw [show (t.snapVol v).producers = (s.snapVol v).producers by rw [snap]]
    refine ⟨(p.producers v).1, fun q mem active => ?_⟩
    have ok := (p.producers v).2 q mem active
    refine o.producerOk (fun trim => ?_) ok
    obtain ⟨d, -, waiting⟩ : s.producerOk v .trim := trim ▸ ok
    have nonempty : (s.snapVol v).retire ≠ [] := fun none => nomatch waiting.symm.trans (idle none)
    rw [snap]; exact if_neg fun e => nonempty (List.isEmpty_iff.1 e)
  · rw [vol, snap]
    refine ⟨fun none => absurd none (by simp), fun z mem active r entry same => ?_, fun m current => ?_, gate, dated⟩
    · obtain ⟨w, inList, eq⟩ := List.mem_map.1 mem
      split at eq
      · subst eq; exact nomatch active
      · next differ =>
        subst eq
        obtain entry | entry := List.mem_append.1 entry
        · exact retiring w inList active r entry same
        · rw [List.mem_singleton.1 entry] at same
          exact differ same.symm
    · obtain ⟨snaps, entries⟩ := below m current
      refine ⟨fun z mem => ?_, fun r entry => ?_⟩
      · obtain ⟨w, inList, eq⟩ := List.mem_map.1 mem
        have := snaps w inList
        split at eq <;> (subst eq; exact this)
      · obtain entry | entry := List.mem_append.1 entry
        · exact entries r entry
        · obtain ⟨z, mem, rfl⟩ := present
          rw [List.mem_singleton.1 entry]
          exact snaps z mem
  · rw [vol]; exact ⟨opened, rfl⟩

end
end Sys2Proof.Machine
end

section
/-! What keeps the invariant of the epochs and marks: the change of one inbound context, the landing of records and their deletions. With it the quiet updates keep the invariant. -/
namespace Sys2Proof.Machine

/-! ### One inbound context -/

/-- What an inbound context must be for the other contexts, its volume and its records (R135, R138, R141). -/
structure State.seats (s : State) (c : Ctx) (x : InCtx) : Prop where
  alone : ∀ d, c ≠ d → (s.inCtx d).state ≠ .free → x.volume ≠ (s.inCtx d).volume
  inbound : (s.vol x.volume).isOpen ∧ (s.vol x.volume).defn.role = .replica
  within : ∀ e ∈ s.extents, x.volume = e.volume → e.within x.target
  births : ∀ i : Fin 2, x.slots[i].birthsOk x.target

section
variable {b : Scope} {s : State} {c : Ctx} {x : InCtx}

/-- A context that goes on with its run keeps its place. -/
theorem State.settled.seats (p : s.settled b) (taken : (s.inCtx c).state ≠ .free) (volume : x.volume = (s.inCtx c).volume) (target : x.target = (s.inCtx c).target)
    (births : ∀ i : Fin 2, x.slots[i].birthsOk x.target) : s.seats c x where
  alone d other also := volume ▸ p.alone c d other taken also
  inbound := volume ▸ p.inbound c taken
  within e mem at_v := target ▸ (p.records e mem).within c taken (volume ▸ at_v)
  births := births

theorem State.settled.setInCtx (p : s.settled b) (seats : x.state ≠ .free → s.seats c x)
    (marks : ∀ e ∈ s.extents, ∀ m ∈ e.mark,
      (s.inCtx c).marks (b.holding c e) e m → x.marks (b.holding c e) e m)
    (producers : ∀ v, ∀ q ∈ (s.snapVol v).producers, b.retrying ≠ some (v, q) → q = .commit c ∨ q = .rollback c → (s.setInCtx c x).producerOk v q) : (s.setInCtx c x).settled b where
  records e mem := by
    obtain ⟨fits, spanned, passed, marked, within, undo⟩ := p.records e mem
    refine ⟨fits, spanned, passed, fun m mark => ?_, fun d taken volume => ?_, undo⟩
    · obtain ⟨d, marked⟩ := marked m mark
      refine ⟨d, ?_⟩
      rw [State.inCtx_setInCtx]
      split
      · next here => subst here; exact marks e mem m mark marked
      · exact marked
    · rw [State.inCtx_setInCtx] at taken volume ⊢
      split at taken
      · next here =>
        rw [if_pos here] at volume ⊢
        exact (seats taken).within e mem volume
      · next there =>
        rw [if_neg there] at volume ⊢
        exact within d taken volume
  waits := p.waits
  producers v := by
    refine ⟨(p.producers v).1, fun q mem active => ?_⟩
    by_cases here : q = .commit c ∨ q = .rollback c
    · exact producers v q mem active here
    · have ok := (p.producers v).2 q mem active
      obtain ⟨notCommit, notRollback⟩ := not_or.1 here
      cases q with
      | trim => exact ok
      | reset => exact ok
      | commit d => rwa [State.producerOk, State.inCtx_setInCtx, if_neg fun same : c = d => notCommit (same ▸ rfl)]
      | rollback d => rwa [State.producerOk, State.inCtx_setInCtx, if_neg fun same : c = d => notRollback (same ▸ rfl)]
  births d taken := by
    rw [State.inCtx_setInCtx] at taken ⊢
    split at taken
    · next here => rw [if_pos here]; exact (seats taken).births
    · next there => rw [if_neg there]; exact p.births d taken
  volumes := p.volumes
  inbound d taken := by
    rw [State.inCtx_setInCtx] at taken ⊢
    split at taken
    · next here => rw [if_pos here]; exact (seats taken).inbound
    · next there => rw [if_neg there]; exact p.inbound d taken
  alone d f differ taken also := by
    rw [State.inCtx_setInCtx] at taken also ⊢
    rw [State.inCtx_setInCtx]
    by_cases d_here : c = d
    · subst d_here
      rw [if_neg differ] at also ⊢
      rw [if_pos rfl] at taken ⊢
      exact (seats taken).alone f differ also
    · rw [if_neg d_here] at taken ⊢
      by_cases f_here : c = f
      · rw [if_pos f_here] at also ⊢
        exact ((seats also).alone d d_here taken).symm
      · rw [if_neg f_here] at also ⊢
        exact p.alone d f differ taken also
  flights := p.flights

/-- Of a context in an earlier state no producer waits. -/
theorem State.settled.no_producer (p : s.settled b) (commit : (s.inCtx c).state ≠ .committing) (rollback : (s.inCtx c).state ≠ .aborting) {v : Vol} {q : Producer}
    (mem : q ∈ (s.snapVol v).producers) (active : b.retrying ≠ some (v, q)) : ¬(q = .commit c ∨ q = .rollback c) := by
  have ok := (p.producers v).2 q mem active
  rintro (rfl | rfl)
  · exact commit ok.1
  · exact rollback ok.1

/-- A record that an OPEN context's run marks is LIVE. -/
theorem InCtx.marks.live {e : Extent} {m : Mark} {holding : Prop} (f : x.marks holding e m) (state : x.state = .open) : e.death = none :=
  Decidable.not_not.1 fun dead => nomatch state.symm.trans (f.2.2.2.1 dead).2.1

theorem State.settled.abortRun (p : s.settled b) {n : Nat} (state : (s.inCtx c).state = .open) : (s.setInCtx c ((s.inCtx c).aborted n)).settled b := by
  have taken : (s.inCtx c).state ≠ .free := by simp [state]
  refine p.setInCtx (fun _ => p.seats taken rfl rfl fun i => ?_) (fun e _ m _ f => ?_) fun v q mem active here => ?_
  · simp [InCtx.aborted, Slot.clear, Slot.birthsOk]
  · have live := f.live state
    obtain ⟨-, volume, runId, -, -⟩ := f
    exact ⟨nofun, volume, runId, fun dead => absurd live dead, fun _ => ⟨rfl, Nat.zero_le _⟩⟩
  · exact absurd here (p.no_producer (by simp [state]) (by simp [state]) mem active)

theorem State.settled.commitRun (p : s.settled b) (state : (s.inCtx c).state = .open) : (s.setInCtx c (s.inCtx c).committed).settled b := by
  have taken : (s.inCtx c).state ≠ .free := by simp [state]
  refine p.setInCtx (fun _ => p.seats taken rfl rfl (p.births c taken)) (fun e _ m _ f => ?_) fun v q mem active here => ?_
  · have live := f.live state
    obtain ⟨-, volume, runId, -, -⟩ := f
    exact ⟨nofun, volume, runId, fun dead => absurd live dead, nofun⟩
  · exact absurd here (p.no_producer (by simp [state]) (by simp [state]) mem active)

/-- A rollback that has ended its walk has left no record that its run has marked, and waits for nothing. -/
theorem State.settled.rolledBack (p : s.settled b) (state : (s.inCtx c).state = .aborting) (done : (s.inCtx c).walkDone = true) :
    (s.setInCtx c .free).settled b := by
  have none : ∀ e m holding, ¬(s.inCtx c).marks holding e m := fun e m _ f => nomatch done.symm.trans (f.2.2.2.2 state).1
  refine p.setInCtx (fun taken => absurd rfl taken) (fun e _ m _ f => absurd f (none e m _)) fun v q mem active here => ?_
  have ok := (p.producers v).2 q mem active
  obtain rfl | rfl := here
  · exact nomatch state.symm.trans ok.1
  · obtain ⟨-, volume, e, inList, -, mark⟩ := ok
    obtain ⟨inTable, recordVolume⟩ := mem_records.1 inList
    obtain ⟨d, marks⟩ := (p.records e inTable).marks _ mark
    by_cases same : c = d
    · subst same
      exact absurd marks (none _ _ _)
    · exact absurd (volume.trans (recordVolume.symm.trans marks.2.1.symm)) (p.alone c d same (by simp [state]) marks.1)

/-! ### Records that join and leave the table -/

theorem mem_insertExtent {d e : Extent} {l : List Extent} : d ∈ insertExtent e l ↔ d = e ∨ d ∈ l := by
  induction l with
  | nil => simp [insertExtent]
  | cons x xs ih =>
    unfold insertExtent
    split
    · exact List.mem_cons
    · rw [List.mem_cons, ih, List.mem_cons]
      tauto

theorem mem_addExtents {d : Extent} (es : List Extent) : ∀ s : State, d ∈ (es.foldl (fun t e => t.addExtent e) s).extents ↔ d ∈ es ∨ d ∈ s.extents := by
  induction es with
  | nil => simp
  | cons e es ih =>
    intro s
    have one : d ∈ (s.addExtent e).extents ↔ d = e ∨ d ∈ s.extents := mem_insertExtent
    rw [List.foldl_cons, ih, List.mem_cons, one]
    tauto

/-- The extent table changes to records that are like those before or admitted, and keeps those that a producer waits at. -/
theorem State.settled.setExtents (p : s.settled b) {l : List Extent} (new : ∀ e ∈ l, (∃ d ∈ s.extents, d.like e) ∨ s.admits b e)
    (kept : s.keeps b l) : (s.setExtents l).settled b :=
  p.calm (t := s.setExtents l) (.of_same rfl rfl rfl rfl) new kept

theorem State.calm_addExtents (s : State) (es : List Extent) : s.calm (es.foldl (fun t e => t.addExtent e) s) := by
  obtain ⟨etu, su, ru, dr⟩ := List.foldlRecOn (op := fun (t : State) e => t.addExtent e)
    (motive := fun t : State => t.etu.vols = s.etu.vols ∧ t.su = s.su ∧ t.ru.ctxs = s.ru.ctxs ∧ t.dr = s.dr) es
    ⟨rfl, rfl, rfl, rfl⟩ fun _ same _ _ => same
  exact .of_same etu su ru dr

theorem State.settled.addExtents (p : s.settled b) (es : List Extent) (new : ∀ e ∈ es, s.admits b e) : (es.foldl (fun t e => t.addExtent e) s).settled b := by
  refine p.calm (s.calm_addExtents es) (fun e mem => ?_) (State.keeps_of_subset fun d mem => (mem_addExtents es s).2 (.inr mem))
  · obtain mem | mem := (mem_addExtents es s).1 mem
    · exact .inr (new e mem)
    · exact .inl ⟨e, mem, .refl e⟩

/-! ### Landing -/

/-- The records that a payload entry becomes are its run's, born as the entry says (R147). -/
structure Extent.landed (e : Extent) (v : Vol) (runId birth : Nat) : Prop where
  volume : e.volume = v
  birth : e.birth = birth
  live : e.death = none
  mark : e.mark = some ⟨runId, .provBirth⟩
  source : e.source.isSome = true

theorem mem_landedRecords {v : Vol} {runId : Nat} {y : PayloadEntry} {e : Extent} {rs : List Run} :
    ∀ {k : Nat}, e ∈ landedRecords v runId y k rs → e.landed v runId y.birth := by
  induction rs with
  | nil => exact fun mem => nomatch mem
  | cons r rs ih =>
    intro k mem
    obtain rfl | mem := List.mem_cons.1 mem
    · exact ⟨rfl, rfl, rfl, rfl, rfl⟩
    · exact ih mem

theorem mem_slotRecords {v : Vol} {runId : Nat} {y : Slot} {e : Extent} (mem : e ∈ y.records v runId) : ∃ a ∈ y.entries, e.landed v runId a.birth := by
  obtain ⟨⟨a, taken⟩, zipped, mem⟩ := List.mem_flatMap.1 mem
  exact ⟨a, (List.of_mem_zip zipped).1, mem_landedRecords mem⟩

/-- On the volume of an inbound run no piece of a RESTORE is in flight with its records made. -/
theorem State.settled.mayUndo_of_replica (p : s.settled b) {e : Extent} (replica : (s.vol e.volume).defn.role = .replica) (d : Ctx) : (s.restoreCtx d).mayUndo e := by
  intro f flying made volume
  have primary := (p.flights d f flying made).2
  rw [volume] at primary
  exact nomatch primary.symm.trans replica

/-- A LIVE record of an OPEN context's volume, born by its run's target, with its run's mark or, born by the current epoch, none. -/
theorem State.settled.admits_live (p : s.settled b) {e : Extent} (state : (s.inCtx c).state = .open) (volume : e.volume = (s.inCtx c).volume) (live : e.death = none)
    (source : e.source.isSome = true) (mark : ∀ m ∈ e.mark, m.runId = (s.inCtx c).runId)
    (birth : e.mark.map Mark.kind ≠ some .provBirth → ∀ n ∈ (s.vol e.volume).epoch, e.birth ≤ n) (target : e.birth ≤ (s.inCtx c).target) : s.admits b e := by
  have taken : (s.inCtx c).state ≠ .free := by simp [state]
  obtain ⟨opened, replica⟩ := p.inbound c taken
  rw [← volume] at opened replica
  refine ⟨⟨⟨opened.state.1, ?_, fun _ => replica, by simp [live]⟩, fun n current => ⟨fun made => birth made n current, by simp [live]⟩, fun defined => absurd defined opened.state.2⟩,
    fun dead => absurd live dead, fun _ _ _ _ _ dead => absurd live dead, fun m marked => ⟨c, taken, volume.symm, (mark m marked).symm, fun dead => absurd live dead,
      by simp [state]⟩, fun d also same => ?_, p.mayUndo_of_replica replica⟩
  · simp [replica, source]
  · by_cases here : c = d
    · subst here
      exact ⟨target, by simp [live]⟩
    · exact absurd (volume.symm.trans same.symm) (p.alone c d here taken also)

theorem State.settled.land (p : s.settled b) {i : Fin 2} (state : (s.inCtx c).state = .open) :
    ((s.landingRecords c i).foldl (fun t e => t.addExtent e) s).settled b := by
  refine p.addExtents _ fun e mem => ?_
  obtain ⟨a, entry, volume, birth, live, mark, source⟩ := mem_slotRecords mem
  refine p.admits_live state volume live source (fun m marked => ?_) (fun made => absurd (by rw [mark]; rfl) made) ?_
  · rw [mark] at marked
    exact (Option.some.inj marked) ▸ rfl
  · exact birth ▸ p.births c (by simp [state]) i a entry

/-! ### Deletions -/

/-- The parts that a deletion makes of a record keep its volume and birth, and have a source and at most the run's mark (R148). -/
theorem mem_deletionParts {runId : Nat} {d : Run} {a e : Extent} (mem : e ∈ deletionParts runId d a) :
    e.volume = a.volume ∧ e.birth = a.birth ∧ e.death = a.death ∧ e.source.isSome = a.source.isSome ∧ (e.mark = a.mark ∨ e.mark = some ⟨runId, .provDeath⟩) := by
  have part : ∀ k n, (a.part k n).volume = a.volume ∧ (a.part k n).birth = a.birth ∧ (a.part k n).death = a.death ∧ (a.part k n).source.isSome = a.source.isSome ∧
      (a.part k n).mark = a.mark := fun k n => ⟨rfl, rfl, rfl, by simp [Extent.part], rfl⟩
  unfold deletionParts at mem
  simp only [List.mem_append, List.mem_singleton] at mem
  obtain (mem | rfl) | mem := mem
  · split at mem
    · rw [List.mem_singleton.1 mem]
      obtain ⟨volume, birth, death, source, mark⟩ := part 0 (d.first - a.source.getD 0)
      exact ⟨volume, birth, death, source, .inl mark⟩
    · exact nomatch mem
  · exact ⟨rfl, rfl, rfl, (part _ 0).2.2.2.1, .inr rfl⟩
  · split at mem
    · rw [List.mem_singleton.1 mem]
      exact ⟨rfl, rfl, rfl, (part _ 0).2.2.2.1, .inl rfl⟩
    · exact nomatch mem

/-- The records after a batch's deletions are admitted, and those that a producer waits at are left as they are. -/
theorem State.settled.deletions (p : s.settled b) (state : (s.inCtx c).state = .open) (ds : List Run) : ∀ {l : List Extent}, (∀ e ∈ l, s.admits b e) →
    (∀ e ∈ applyDeletions (s.inCtx c).volume (s.inCtx c).runId ds l, s.admits b e) ∧
      ∀ e ∈ l, e.death ≠ none ∨ e.mark ≠ none → e ∈ applyDeletions (s.inCtx c).volume (s.inCtx c).runId ds l := by
  induction ds with
  | nil => exact fun admitted => ⟨admitted, fun _ mem _ => mem⟩
  | cons d ds ih =>
    intro l admitted
    obtain ⟨all, kept⟩ := ih (l := applyDeletion (s.inCtx c).volume (s.inCtx c).runId l d) fun e mem => by
      obtain ⟨a, inTable, mem⟩ := List.mem_flatMap.1 mem
      split at mem
      · next reached =>
        simp only [deletionReaches, Bool.and_eq_true, decide_eq_true_iff, Extent.live, Option.isNone_iff_eq_none] at reached
        obtain ⟨⟨⟨at_v, live⟩, unmarked⟩, -⟩ := reached
        obtain ⟨fits, -, -, -, within, -⟩ := admitted a inTable
        obtain ⟨volume, birth, death, source, mark⟩ := mem_deletionParts mem
        have taken : (s.inCtx c).state ≠ .free := by simp [state]
        refine p.admits_live state (volume.trans at_v) (death.trans live) ?_ (fun m marked => ?_) (fun _ n current => ?_) ?_
        · rw [source]
          exact fits.1.2.1.1 (at_v ▸ (p.inbound c taken).2)
        · rw [unmarked] at mark
          obtain mark | mark := mark <;> rw [mark] at marked
          · exact nomatch marked
          · exact (Option.some.inj marked) ▸ rfl
        · rw [volume] at current
          exact birth ▸ (fits.2.1 n current).1 (by simp [unmarked])
        · exact birth ▸ (within c taken at_v.symm).1
      · exact List.mem_singleton.1 mem ▸ admitted a inTable
    refine ⟨all, fun e mem settled => kept e (List.mem_flatMap.2 ⟨e, mem, ?_⟩) settled⟩
    rw [if_neg]
    · exact List.mem_singleton_self e
    · simp only [deletionReaches, Bool.and_eq_true, decide_eq_true_iff, Extent.live, Option.isNone_iff_eq_none]
      rintro ⟨⟨⟨-, live⟩, unmarked⟩, -⟩
      exact settled.elim (absurd live) (absurd unmarked)

theorem State.settled.delete (p : s.settled b) {ds : List Run} (state : (s.inCtx c).state = .open) :
    (s.setExtents (applyDeletions (s.inCtx c).volume (s.inCtx c).runId ds s.extents)).settled b := by
  obtain ⟨all, kept⟩ := p.deletions state ds p.records
  refine p.setExtents (fun e mem => .inr (all e mem)) (State.keeps_of_like fun d mem awaited => ⟨d, kept d mem ?_, .refl d⟩)
  obtain ⟨-, dead, -⟩ | ⟨c, marked, -⟩ := awaited
  · exact .inl dead
  · exact .inr marked

end

end Sys2Proof.Machine
end

section
/-! The quiet updates keep the invariant of the epochs and marks, and an open volume open. -/
namespace Sys2Proof.Machine

/-! ### Calm changes of one volume or context -/

section
variable {s : State}

theorem State.calm_setVol {v : Vol} {x : Volume} (calm : (s.vol v).calm x) : s.calm (s.setVol v x) where
  vols w := by
    rw [State.vol_setVol]
    split
    · next here => exact here ▸ calm
    · exact .refl _
  snaps _ := .refl _
  restores _ := .refl _
  ctxs _ := .refl _
  resets _ := rfl

theorem State.calm_setSnapVol {v : Vol} {x : SnapVol} (calm : (s.snapVol v).calm x) : s.calm (s.setSnapVol v x) where
  vols _ := .refl _
  snaps w := by
    rw [State.snapVol_setSnapVol]
    split
    · next here => exact here ▸ calm
    · exact .refl _
  restores _ := .refl _
  ctxs _ := .refl _
  resets _ := rfl

theorem State.calm_setRestoreCtx {c : Ctx} {x : RestoreCtx} (calm : (s.restoreCtx c).calm x) : s.calm (s.setRestoreCtx c x) where
  vols _ := .refl _
  snaps _ := .refl _
  restores d := by
    rw [State.restoreCtx_setRestoreCtx]
    split
    · next here => exact here ▸ calm
    · exact .refl _
  ctxs _ := .refl _
  resets _ := rfl

theorem State.calm_setInCtx {c : Ctx} {x : InCtx} (calm : (s.inCtx c).calm x) : s.calm (s.setInCtx c x) where
  vols _ := .refl _
  snaps _ := .refl _
  restores _ := .refl _
  ctxs d := by
    rw [State.inCtx_setInCtx]
    split
    · next here => exact here ▸ calm
    · exact .refl _
  resets _ := rfl

theorem State.calm_setReplVol {v : Vol} {x : ReplVol} (reset : x.reset.map ResetJob.left = (s.replVol v).reset.map ResetJob.left) : s.calm (s.setReplVol v x) where
  vols _ := .refl _
  snaps _ := .refl _
  restores _ := .refl _
  ctxs _ := .refl _
  resets w := by
    rw [State.replVol_setReplVol]
    split
    · next here => exact here ▸ reset
    · rfl

end

/-! ### The quiet updates -/

section
variable {b : Scope} {s : State}

theorem State.settled.updateExtent (p : s.settled b) {v : Vol} {n : Nat} {f : Extent → Extent} (like : ∀ e : Extent, e.like (f e)) : (s.updateExtent v n f).settled b := by
  have either : ∀ e : Extent, e.like (if e.at v n then f e else e) := fun e => by
    split
    · exact like e
    · exact .refl e
  refine p.setExtents (fun e mem => ?_) (State.keeps_of_like fun d mem _ => ⟨_, List.mem_map_of_mem mem, either d⟩)
  obtain ⟨d, inTable, rfl⟩ := List.mem_map.1 mem
  exact .inl ⟨d, inTable, either d⟩

/-- A record that no producer waits at may leave the table. -/
theorem State.settled.removeExtent (p : s.settled b) {v : Vol} {n : Nat} (free : ∀ e ∈ s.extents, e.volume = v → e.first = n → ¬s.awaits b e) :
    (s.removeExtent v n).settled b := by
  refine p.setExtents (fun e mem => .inl ⟨e, List.mem_of_mem_filter mem, .refl e⟩) (State.keeps_of_like fun d mem awaited => ⟨d, List.mem_filter.2 ⟨mem, ?_⟩, .refl d⟩)
  rw [Bool.not_eq_true', Bool.eq_false_iff]
  intro at_n
  simp only [Extent.at, Bool.and_eq_true, decide_eq_true_iff] at at_n
  exact free d mem at_n.1 at_n.2 awaited

/-- No producer waits at a LIVE record without a mark. -/
theorem State.not_awaits {e : Extent} (live : e.death = none) (unmarked : e.mark = none) : ¬s.awaits b e := by
  rintro (⟨-, dead, -⟩ | ⟨c, marked, -⟩)
  · exact dead live
  · exact marked unmarked

theorem quiet_settled (b : Scope) : Quiet (fun _ _ => True) (fun s v => (s.vol v).isOpen) (State.settled b) where
  opened := id
  setMem _ p := p.calm_of_same (.of_same rfl rfl rfl rfl) rfl
  setFree p := p.calm_of_same (.of_same rfl rfl rfl rfl) rfl
  setRiu _ p := p.calm_of_same (.of_same rfl rfl rfl rfl) rfl
  setQu p := p.calm_of_same (.of_same rfl rfl rfl rfl) rfl
  setDm p := p.calm_of_same (.of_same rfl rfl rfl rfl) rfl
  setDs _ p := p.calm_of_same (.of_same rfl rfl rfl rfl) rfl
  setLc _ p := p.calm_of_same (.of_same rfl rfl rfl rfl) rfl
  setPs _ p := p.calm_of_same (.of_same rfl rfl rfl rfl) rfl
  calmVol calm p := p.calm_of_same (State.calm_setVol calm) rfl
  calmSnapVol calm _ p := p.calm_of_same (State.calm_setSnapVol calm) rfl
  calmRestoreCtx calm _ p := p.calm_of_same (State.calm_setRestoreCtx calm) rfl
  setGateOrder p := p.calm_of_same (.of_same rfl rfl rfl rfl) rfl
  calmInCtx calm p := p.calm_of_same (State.calm_setInCtx calm) rfl
  calmReplVol reset _ p := p.calm_of_same (State.calm_setReplVol (congrArg _ reset)) rfl
  fill p := p.updateExtent fun _ => ⟨rfl, rfl, rfl, rfl, rfl, rfl⟩
  unmake flying made inFlight p := p.removeExtent fun e mem volume first => by
    obtain ⟨live, unmarked⟩ := (p.records e mem).undo _ _ flying made volume.symm _ inFlight first
    exact State.not_awaits live unmarked
  retireSnapshot present p := p.retireSnapshot present
  addSnapshot opened p := p.addSnapshot opened
  joinGate opened p := p.joinGate opened
  abortRun state p := p.abortRun state
  commitRun state p := p.commitRun state
  rolledBack state done p := p.rolledBack state done
  land state _ p := p.land state
  delete state _ p := p.delete state

/-! ### An open volume -/

theorem State.calm.isOpen {t : State} (k : s.calm t) {v : Vol} (opened : (s.vol v).isOpen) : (t.vol v).isOpen := (k.vols v).isOpen opened

theorem quiet_isOpen (v : Vol) : Quiet (fun _ _ => True) (fun s v => (s.vol v).isOpen) fun s => (s.vol v).isOpen where
  opened := id
  setMem _ p := p
  setFree p := p
  setRiu _ p := p
  setQu p := p
  setDm p := p
  setDs _ p := p
  setLc _ p := p
  setPs _ p := p
  calmVol calm p := (State.calm_setVol calm).isOpen p
  calmSnapVol _ _ p := p
  calmRestoreCtx _ _ p := p
  setGateOrder p := p
  calmInCtx _ p := p
  calmReplVol _ _ p := p
  fill p := p
  unmake _ _ _ p := p
  retireSnapshot _ p := p
  addSnapshot {s w _ _} _ p := by
    rw [State.vol_setVol]
    split
    · next here => subst here; exact p
    · exact p
  joinGate _ p := p
  abortRun _ p := p
  commitRun _ p := p
  rolledBack _ _ p := p
  land _ _ p := (State.calm_addExtents _ _).isOpen p
  delete _ _ p := p

theorem steady_settled (b : Scope) : Steady (fun _ _ => True) (fun s v => (s.vol v).isOpen) (State.settled b) where
  toQuiet := quiet_settled b
  gates p waiting := (p.volumes _).gate waiting
  stays := quiet_isOpen

end
end Sys2Proof.Machine
end

section
/-! The requests on extents and on volumes that are loaded keep the invariant of the epochs and marks, from a state that keeps the laws. -/
namespace Sys2Proof.Machine

/-- The laws of a state at the start of a command: the invariant and what else its loud updates lean on. -/
structure State.based (b : Scope) (s : State) : Prop where
  settled : s.settled b
  snaps : s.snapsLawful
  blocks : s.blocksLawful
  flights : s.ru.flightsOk
  unretired : b.trims = true → ∀ v, (s.vol v).state = .defined → (s.snapVol v).retire = []

section
variable {b : Scope} {s : State} {v : Vol}

theorem State.based.setRing (p : s.based b) (r : RingNo) (x : Ring) : (s.setRing r x).based b where
  settled := p.settled.calm_of_same (.of_same rfl rfl rfl rfl) rfl
  snaps := { p.snaps with }
  blocks := { p.blocks with }
  flights := p.flights
  unretired := p.unretired

/-! ### The volume's record -/

theorem Volume.not_isOpen_of_defined {x : Volume} (defined : x.state = .defined) : ¬x.isOpen := fun opened => opened.state.2 defined

theorem State.primaryOnline_eq_none (online : s.primaryOnline v = none) :
    (s.vol v).state = .online ∧ (s.vol v).state ≠ .undefined ∧ (s.vol v).defn.role ≠ .replica := by
  have checks := firstFailure_eq_none.1 online
  simp only [List.forall_mem_cons, decide_eq_false_iff_not, not_not] at checks
  obtain ⟨undefined, replica, state, -⟩ := checks
  exact ⟨state, undefined, replica⟩

/-- A PRIMARY volume has no inbound run and no marked record. -/
theorem State.settled.not_inbound (p : s.settled b) (role : (s.vol v).defn.role ≠ .replica) {c : Ctx} (taken : (s.inCtx c).state ≠ .free) : (s.inCtx c).volume ≠ v :=
  fun volume => role (volume ▸ (p.inbound c taken).2)

theorem State.settled.unmarked (p : s.settled b) {e : Extent} (mem : e ∈ s.extents) (role : (s.vol e.volume).defn.role ≠ .replica) : e.mark = none :=
  Decidable.not_not.1 fun marked => role ((p.records e mem).fits.1.2.2.1 marked)

/-- A LIVE record without a mark or a source on an open PRIMARY volume, born by the current epoch, has the laws. -/
theorem State.settled.admits_primary (p : s.settled b) {e : Extent} (opened : (s.vol e.volume).isOpen) (role : (s.vol e.volume).defn.role ≠ .replica)
    (live : e.death = none) (unmarked : e.mark = none) (source : e.source = none) (birth : ∀ n ∈ (s.vol e.volume).epoch, e.birth ≤ n) : s.admits b e where
  fits := by
    refine ⟨⟨opened.state.1, ?_, fun marked => absurd unmarked marked, by simp [live]⟩, fun n current => ⟨fun _ => birth n current, by simp [live]⟩,
      fun defined => absurd defined opened.state.2⟩
    simp [role, source]
  spanned dead := absurd live dead
  passed _ _ _ _ _ dead := absurd live dead
  marks := by simp [unmarked]
  within c taken volume := absurd volume (p.not_inbound role taken)
  undo _ _ _ _ _ _ _ _ := ⟨live, unmarked⟩

/-! ### CHARGE and SPLIT -/

theorem State.settled.reqCharge (p : s.settled b) {r : RingNo} {tag : Nat} {x : ChargeParams} : (reqCharge r tag x s).settled b := by
  refine (quiet_settled b).reqCharge (fun online _ => ?_) p
  obtain ⟨state, -, role⟩ := State.primaryOnline_eq_none online
  refine p.addExtents [_] fun e mem => ?_
  obtain rfl := List.mem_singleton.1 mem
  refine p.admits_primary (.inl state) role rfl rfl rfl fun n current => ?_
  change (s.vol (toVol x.volume)).epoch.getD 0 ≤ n
  rw [show (s.vol (toVol x.volume)).epoch = some n from current, Option.getD_some]

theorem State.settled.reqSplit (p : s.settled b) {r : RingNo} {tag : Nat} {x : SplitParams} : (reqSplit r tag x s).settled b := by
  refine (quiet_settled b).reqSplit (fun e online found live _ => ?_) p
  obtain ⟨state, -, role⟩ := State.primaryOnline_eq_none online
  obtain ⟨mem, volume, -⟩ := State.recordAt_eq_some found
  rw [← volume] at state role
  have cut : (s.updateExtent e.volume e.first (·.front x.k)).settled b := p.updateExtent fun _ => ⟨rfl, rfl, rfl, rfl, rfl, rfl⟩
  have unmarked := p.unmarked mem role
  obtain ⟨⟨⟨-, sourced, -⟩, epochs, -⟩, -⟩ := p.records e mem
  have source : e.source = none := Option.isSome_eq_false_iff.1 (Bool.eq_false_iff.2 fun some => role (sourced.2 some)) |> Option.isNone_iff_eq_none.1
  refine cut.addExtents [_] fun f mem => ?_
  obtain rfl := List.mem_singleton.1 mem
  refine cut.admits_primary (.inl state) role (Option.isNone_iff_eq_none.1 live) unmarked (by simp [Extent.back, source]) fun n current => ?_
  exact (epochs n current).1 (by simp [unmarked])

/-! ### DROP -/

/-- A record that is not FILLING is not that of a piece in flight (R3, R74). -/
theorem State.based.not_flying (p : s.based b) {e : Extent} (mem : e ∈ s.extents) (still : e.filling = false) {c : Ctx} {f : Flight}
    (flying : f ∈ (s.restoreCtx c).flight) (made : f.created = true) (volume : (s.restoreCtx c).volume = e.volume) {g : Run} (inFlight : g ∈ f.segs) : e.first ≠ g.first := by
  intro first
  obtain ⟨-, running, -⟩ := p.flights
  obtain ⟨runs, restores, -⟩ := running c (by rw [show s.ru.ctxs[c].flight = some f from flying]; exact Option.some_ne_none f)
  obtain ⟨-, -, -, segments⟩ := p.blocks.restores c runs restores
  obtain ⟨d, inTable, sameVolume, run, filling⟩ := (segments f flying).2.2.2.2 made g inFlight
  have same : e = d := p.blocks.order.unique mem inTable (volume.symm.trans sameVolume.symm) (first.trans (congrArg Run.first run).symm)
  subst same
  exact Bool.noConfusion (still.symm.trans filling)

/-- A record dies at its volume's current epoch, with an ACTIVE snapshot that spans it. -/
theorem State.settled.die (p : s.settled b) {e : Extent} (mem : e ∈ s.extents) {n : Nat} (role : (s.vol e.volume).defn.role ≠ .replica) (current : (s.vol e.volume).epoch = some n)
    (opened : (s.vol e.volume).isOpen)
    {z : Snapshot} (inList : z ∈ (s.snapVol e.volume).snaps) (active : z.active = true) (born : e.birth ≤ z.epoch) (before : z.epoch < n)
    (undo : ∀ c, (s.restoreCtx c).mayUndo { e with death := some n }) : s.admits b { e with death := some n } where
  fits := by
    obtain ⟨⟨⟨defined, sourced, marked, -⟩, epochs, -⟩, -⟩ := p.records e mem
    refine ⟨⟨defined, sourced, marked, fun d died => ?_⟩, fun m now => ⟨(epochs m now).1, fun _ d died => ?_⟩, fun defined => absurd defined opened.state.2⟩
    · obtain rfl := Option.some.inj died
      exact born.trans_lt before
    · obtain rfl := Option.some.inj died
      exact Nat.le_of_eq (Option.some.inj (current.symm.trans now))
  spanned _ := ⟨z, inList, born, fun d died => Option.some.inj died ▸ before⟩
  passed _ t front m place _ _ _ :=
    ⟨z, inList, ((p.volumes e.volume).retiring z inList active t (List.mem_of_mem_head? front)).symm, born, fun d died => Option.some.inj died ▸ before⟩
  marks m mark := absurd (p.unmarked mem role) (Option.ne_none_iff_exists'.2 ⟨m, mark⟩)
  within c taken volume := absurd volume (p.not_inbound role taken)
  undo := undo

theorem State.based.reqDrop (p : s.based b) {r : RingNo} {tag : Nat} {x : DropParams} : (reqDrop r tag x s).settled b := by
  refine (quiet_settled b).reqDrop (fun e online found live still => ?_) p.settled
  obtain ⟨state, -, role⟩ := State.primaryOnline_eq_none online
  obtain ⟨mem, volume, -⟩ := State.recordAt_eq_some found
  obtain ⟨n, current⟩ := Option.isSome_iff_exists.1 ((p.settled.volumes _).dated (.inl state))
  rw [State.epochOf, current, Option.getD_some]
  rw [← volume] at state role current
  have free : ∀ d ∈ s.extents, d.volume = e.volume → d.first = e.first → d = e := fun d inTable => p.blocks.order.unique inTable mem
  have unmarked := p.settled.unmarked mem role
  refine ⟨fun holds => ?_, p.settled.removeExtent fun d inTable sameVolume first => ?_⟩
  · obtain ⟨z, inList, active, born, before⟩ := protectedBy_iff.1 holds
    refine p.settled.setExtents (fun d new => ?_) (State.keeps_of_like fun d inTable awaited => ⟨_, List.mem_map_of_mem inTable, ?_⟩)
    · obtain ⟨d, inTable, rfl⟩ := List.mem_map.1 new
      split
      · next here =>
        simp only [Extent.at, Bool.and_eq_true, decide_eq_true_iff] at here
        obtain rfl := free d inTable here.1 here.2
        refine .inr (p.settled.die mem role current (.inl state) inList active born before fun c f flying made volume g inFlight first => ?_)
        exact absurd first (p.not_flying mem still flying made volume inFlight)
      · exact .inl ⟨d, inTable, .refl d⟩
    · split
      · next here =>
        simp only [Extent.at, Bool.and_eq_true, decide_eq_true_iff] at here
        obtain rfl := free d inTable here.1 here.2
        exact absurd awaited (State.not_awaits (Option.isNone_iff_eq_none.1 live) unmarked)
      · exact .refl d
  · obtain rfl := free d inTable sameVolume first
    exact State.not_awaits (Option.isNone_iff_eq_none.1 live) unmarked

/-! ### Loading a volume -/

theorem seenMax_mono {o : Option Nat} {m n : Nat} (seen : m ∈ o) : ∃ k ∈ seenMax o n, m ≤ k :=
  ⟨_, seenMax_eq o n, by rw [Option.mem_def.1 seen]; exact Nat.le_max_left ..⟩

theorem Extent.fits.noteEpoch {e : Extent} {x : Volume} (f : e.fits x) (n : Nat) : e.fits { x with seen := seenMax x.seen n } := by
  obtain ⟨form, epochs, seen⟩ := f
  refine ⟨form, epochs, fun defined => ?_⟩
  obtain ⟨m, mem, birth, death⟩ := seen defined
  obtain ⟨k, mem, le⟩ := seenMax_mono (n := n) mem
  exact ⟨k, mem, birth.trans le, fun d died => (death d died).trans le⟩

/-- A snapshot that is loaded has an epoch that none of the volume's has, and is ACTIVE (R16). -/
theorem State.based.loadSnapshotAccept (p : s.based b) {x : LoadSnapshotParams} (defined : (s.vol v).state = .defined) (fresh : s.snapAt v x.epoch = none) :
    (loadSnapshotAccept x v s).settled b := by
  refine (quiet_settled b).loadSnapshotAccept ?_
  generalize ht : noteEpoch v x.epoch _ = t
  have o : s.only t v := ht ▸ (s.only_setSnapVol v _).trans (State.only_setVol ..)
  have vol : t.vol v = { s.vol v with seen := seenMax (s.vol v).seen x.epoch } := ht ▸ (State.vol_setVol ..).trans (if_pos rfl)
  have snap : t.snapVol v = { s.snapVol v with snaps := insertSnapshot ⟨x.epoch, x.label, x.createdAt, true, false, false, 0⟩ (s.snapVol v).snaps } :=
    ht ▸ (State.snapVol_setSnapVol ..).trans (if_pos rfl)
  have closed := Volume.not_isOpen_of_defined defined
  have dateless : (s.vol v).epoch = none := by
    obtain ⟨-, -, dated, -⟩ := p.snaps.volumes v
    exact Option.not_isSome_iff_eq_none.1 fun some => closed (dated.1 some)
  have more : ∀ z ∈ (s.snapVol v).snaps, ∃ w ∈ (t.snapVol v).snaps, w.epoch = z.epoch := fun z mem => ⟨z, by rw [snap]; exact mem_insertSnapshot.2 (.inr mem), rfl⟩
  obtain ⟨idle, retiring, -, gate, -⟩ := p.settled.volumes v
  refine p.settled.volume o (fun e mem at_v => ?_) ?_ ?_ ?_ fun opened => absurd opened closed
  · obtain ⟨fits, spanned, passed, -⟩ := p.settled.records e mem
    rw [at_v] at fits spanned passed
    exact ⟨vol ▸ fits.noteEpoch _, spanned.mono more, fun also => (passed also).mono more (by rw [snap]) (by rw [snap])⟩
  · rw [snap]; exact p.settled.waits v
  · rw [show (t.snapVol v).producers = (s.snapVol v).producers by rw [snap]]
    exact ⟨(p.settled.producers v).1, fun q mem active => o.producerOk (fun _ => by rw [snap]) ((p.settled.producers v).2 q mem active)⟩
  · rw [vol, snap]
    refine ⟨idle, fun z mem active r entry same => ?_, fun n current => (nomatch dateless.symm.trans current), gate, fun opened => absurd opened closed⟩
    obtain rfl | mem := mem_insertSnapshot.1 mem
    · obtain ⟨-, -, queued, -⟩ := p.snaps.retire v
      obtain ⟨w, mem, epoch⟩ := queued r entry
      have absent := List.find?_eq_none.1 fresh w mem
      exact absent (decide_eq_true (epoch.trans same))
    · exact retiring z mem active r entry same

theorem State.based.reqLoadSnapshot (p : s.based b) {r : RingNo} {tag : Nat} {x : LoadSnapshotParams} : (reqLoadSnapshot r tag x s).settled b :=
  (quiet_settled b).reqLoadSnapshot (fun defined fresh => p.loadSnapshotAccept defined fresh) p.settled

theorem State.settled.noteEpoch (p : s.settled b) (n : Nat) : (noteEpoch v n s).settled b := by
  have o : s.only (Machine.noteEpoch v n s) v := State.only_setVol ..
  have vol : (Machine.noteEpoch v n s).vol v = { s.vol v with seen := seenMax (s.vol v).seen n } := (State.vol_setVol ..).trans (if_pos rfl)
  refine p.volume o (fun e mem at_v => ?_) (p.waits v) ⟨(p.producers v).1, fun q mem active => o.producerOk (fun _ => rfl) ((p.producers v).2 q mem active)⟩ ?_ ?_
  · obtain ⟨fits, spanned, passed, -⟩ := p.records e mem
    rw [at_v] at fits spanned passed
    exact ⟨vol ▸ fits.noteEpoch n, spanned, passed⟩
  · rw [vol]
    exact { p.volumes v with }
  · rw [vol]
    exact fun opened => ⟨opened, rfl⟩

/-- A record that is loaded has its epochs among those seen, and a snapshot that spans it when it is HELD; its volume has no snapshot RETIRING, no run and no piece (R17, R18). -/
theorem State.based.loadExtentAccept (p : s.based b) {x : LoadExtentParams} (defined : (s.vol v).state = .defined)
    (source : (s.vol v).defn.role = .replica → x.source.isSome = true) (needed : ∀ d ∈ x.death, s.neededBy v x.birth d = true) : (loadExtentAccept x v s).settled b := by
  refine (quiet_settled b).loadExtentAccept ?_
  have closed := Volume.not_isOpen_of_defined defined
  have noted : (noteEpoch v (max x.birth (x.death.getD 0)) s).settled b := p.settled.noteEpoch _
  have spans : ∀ d ∈ x.death, ∃ z ∈ (s.snapVol v).snaps, x.birth ≤ z.epoch ∧ z.epoch < d := fun d died => by
    have := needed d died
    simpa only [State.neededBy, List.any_eq_true, Bool.and_eq_true, decide_eq_true_iff] using this
  obtain ⟨-, -, dated, -⟩ := p.snaps.volumes v
  have vol : (noteEpoch v (max x.birth (x.death.getD 0)) s).vol v = { s.vol v with seen := seenMax (s.vol v).seen (max x.birth (x.death.getD 0)) } :=
    (State.vol_setVol ..).trans (if_pos rfl)
  refine noted.addExtents [_] fun e mem => ?_
  obtain rfl := List.mem_singleton.1 mem
  refine ⟨?_, fun dead => ?_, fun also t front => ?_, fun m mark => (nomatch mark), fun c taken volume => ?_, fun c f flying made volume => ?_⟩
  · change Extent.fits _ ((noteEpoch v (max x.birth (x.death.getD 0)) s).vol v)
    rw [vol]
    refine ⟨⟨?_, ?_, fun marked => absurd rfl marked, fun d died => ?_⟩, fun n current => ?_, fun _ => ⟨_, seenMax_eq .., ?_, fun d died => ?_⟩⟩
    · simp [defined]
    · dsimp only
      split
      · next replica => simp [replica, source replica]
      · next other => simp [other]
    · obtain ⟨z, -, born, before⟩ := spans d died
      exact born.trans_lt before
    · exact absurd (dated.1 (Option.isSome_iff_exists.2 ⟨n, current⟩)) closed
    · exact (Nat.le_max_left ..).trans (Nat.le_max_right ..)
    · dsimp only at died
      rw [Option.mem_def.1 died]
      exact (Nat.le_max_right ..).trans (Nat.le_max_right ..)
  · obtain ⟨d, died⟩ := Option.ne_none_iff_exists'.1 dead
    obtain ⟨z, mem, born, before⟩ := spans d died
    exact ⟨z, mem, born, fun k dies => Option.some.inj (died.symm.trans dies) ▸ before⟩
  · have none : ((noteEpoch v (max x.birth (x.death.getD 0)) s).snapVol v).retire = [] := p.unretired also v defined
    change t ∈ ((noteEpoch v (max x.birth (x.death.getD 0)) s).snapVol v).retire.head? at front
    rw [none] at front
    exact nomatch front
  · exact absurd ((show (s.inCtx c).volume = v from volume) ▸ (p.settled.inbound c taken).1) closed
  · exact absurd ((show (s.restoreCtx c).volume = v from volume) ▸ (p.settled.flights c f flying made).1) closed

theorem State.based.reqLoadExtent (p : s.based b) {r : RingNo} {tag : Nat} {x : LoadExtentParams} : (reqLoadExtent r tag x s).settled b :=
  (quiet_settled b).reqLoadExtent (fun defined source needed _ => p.loadExtentAccept defined source needed) p.settled

/-- A volume opens at an epoch above every one seen, and so above its snapshots and its records (R18). -/
theorem State.based.reqOpenVolume (p : s.based b) {r : RingNo} {tag : Nat} {x : OpenVolumeParams} : (reqOpenVolume r tag x s).settled b := by
  refine (quiet_settled b).reqOpenVolume (fun defined above => ?_) p.settled
  generalize toVol x.volume = v at defined above
  generalize ht : s.setVol v _ = t
  have o : s.only t v := ht ▸ State.only_setVol ..
  have vol : t.vol v = { s.vol v with epoch := some x.epoch, state := .online } := ht ▸ (State.vol_setVol ..).trans (if_pos rfl)
  have snap : t.snapVol v = s.snapVol v := ht ▸ rfl
  have seen : ∀ m ∈ (s.vol v).seen, m < x.epoch := fun m mem => by
    unfold State.aboveSeen at above
    rw [Option.mem_def.1 mem] at above
    exact of_decide_eq_true above
  obtain ⟨idle, retiring, -, gate, -⟩ := p.settled.volumes v
  refine p.settled.volume o (fun e mem at_v => ?_) (snap ▸ p.settled.waits v) ?_ ?_ fun opened => absurd opened (Volume.not_isOpen_of_defined defined)
  · obtain ⟨⟨⟨undefined, sourced, marked, lives⟩, -, by_seen⟩, spanned, passed, -⟩ := p.settled.records e mem
    rw [at_v] at sourced marked by_seen spanned passed
    obtain ⟨m, mem, birth, death⟩ := by_seen defined
    have below := seen m mem
    rw [vol, snap]
    refine ⟨⟨⟨nofun, sourced, marked, lives⟩, fun n current => ?_, nofun⟩, spanned, passed⟩
    obtain rfl : x.epoch = n := Option.some.inj current
    exact ⟨fun _ => birth.trans below.le, fun _ d died => (death d died).trans below.le⟩
  · rw [snap]
    exact ⟨(p.settled.producers v).1, fun q mem active => o.producerOk (fun _ => by rw [snap]) ((p.settled.producers v).2 q mem active)⟩
  · have snaps : ∀ z ∈ (s.snapVol v).snaps, z.epoch < x.epoch := fun z mem => by
      obtain ⟨-, -, -, -, by_seen, -⟩ := p.snaps.snapshots v
      obtain ⟨m, mem, le⟩ := by_seen defined z mem
      exact le.trans_lt (seen m mem)
    rw [vol, snap]
    refine ⟨idle, retiring, fun n current => ?_, fun _ => .inl rfl, fun _ => rfl⟩
    obtain rfl : x.epoch = n := Option.some.inj current
    refine ⟨snaps, fun r entry => ?_⟩
    obtain ⟨-, -, queued, -⟩ := p.snaps.retire v
    obtain ⟨z, mem, same⟩ := queued r entry
    exact same ▸ snaps z mem

end
end Sys2Proof.Machine
end

section
/-! The trim scan keeps the invariant of the epochs and marks: a record that it removes, one that it passes over, the end of its walk, and its wait. -/
namespace Sys2Proof.Machine

/-! ### Quiet updates and the producers -/

section
variable {v : Vol} {l : List Producer}

/-- A trim scan of a volume whose producers are `l` stands as `y` does, with an entry in the retire queue. -/
def SnapVol.scansAs (l : List Producer) (y : TrimState) (n : Nat) (x : SnapVol) : Prop :=
  x.producers = l ∧ x.trim = y ∧ x.retire.head?.map RetireEntry.epoch = some n

theorem SnapVol.scansAs.calm {y : TrimState} {n : Nat} {a x : SnapVol} (same : a.scansAs l y n) (calm : a.calm x) : x.scansAs l y n := by
  obtain ⟨producers, trim, front⟩ := same
  exact ⟨calm.producers.trans producers, calm.trim.trans trim, by rw [← List.head?_map, calm.retire, List.head?_map, front]⟩

theorem SnapVol.scansAs.calmed {y : TrimState} {n : Nat} {s t : State} (same : (s.snapVol v).scansAs l y n) (calm : s.calm t) : (t.snapVol v).scansAs l y n :=
  same.calm (calm.snaps v)

theorem retireSnapshot_snapVol (v w : Vol) (n : Nat) (o : RetireOrigin) (s : State) : (retireSnapshot v n o s).snapVol w = if v = w then { s.snapVol v with
    snaps := (s.snapVol v).snaps.map fun y => if y.epoch = n then { y with active := false } else y
    retire := (s.snapVol v).retire ++ [⟨n, o, 0, 0⟩]
    trim := if (s.snapVol v).retire.isEmpty then .scanning 0 else (s.snapVol v).trim } else s.snapVol w := by
  rw [retireSnapshot, State.snapVol_setSnapVol]
  split
  · simp only [State.updateSnap, State.snapVol_setSnapVol, if_pos]
  · next other =>
    rw [State.updateSnap, State.snapVol_setSnapVol, if_neg other]

/-- A predicate of one volume's snapshots that calm changes, a longer gate and new snapshots keep, and that goes on as one of them is retired. -/
theorem quiet_of_snapVol {Q : SnapVol → Prop} (calm : ∀ {a x : SnapVol}, a.calm x → Q a → Q x)
    (retire : ∀ {x : SnapVol} {z : List Snapshot} {r : RetireEntry}, Q x →
      Q { x with snaps := z, retire := x.retire ++ [r], trim := if x.retire.isEmpty then .scanning 0 else x.trim })
    (snaps : ∀ {x : SnapVol} {z : List Snapshot}, Q x → Q { x with snaps := z }) (gate : ∀ {x : SnapVol} {z : List GateCreate}, Q x → Q { x with gate := z }) :
    Quiet (fun _ _ => True) (fun s v => (s.vol v).isOpen) fun s => Q (s.snapVol v) where
  opened := id
  setMem _ p := p
  setFree p := p
  setRiu _ p := p
  setQu p := p
  setDm p := p
  setDs _ p := p
  setLc _ p := p
  setPs _ p := p
  calmVol _ p := p
  calmSnapVol change _ p := calm ((State.calm_setSnapVol change).snaps v) p
  calmRestoreCtx _ _ p := p
  setGateOrder p := p
  calmInCtx _ p := p
  calmReplVol _ _ p := p
  fill p := p
  unmake _ _ _ p := p
  retireSnapshot _ p := by
    rw [retireSnapshot_snapVol]
    split
    · next here => subst here; exact retire p
    · exact p
  addSnapshot _ p := by
    rw [State.setVol_snapVol, State.snapVol_setSnapVol]
    split
    · next here => subst here; exact snaps p
    · exact p
  joinGate _ p := by
    rw [joinGate, State.snapVol_setSnapVol]
    split
    · next here => subst here; exact gate p
    · exact p
  abortRun _ p := p
  commitRun _ p := p
  rolledBack _ _ p := p
  land _ _ p := calm ((State.calm_addExtents _ _).snaps v) p
  delete _ _ p := p

theorem quiet_producers : Quiet (fun _ _ => True) (fun s v => (s.vol v).isOpen) fun s => (s.snapVol v).producers = l :=
  quiet_of_snapVol (Q := fun x => x.producers = l) (fun calm p => calm.producers.trans p) id id id

theorem quiet_scansAs {y : TrimState} {n : Nat} : Quiet (fun _ _ => True) (fun s v => (s.vol v).isOpen) fun s => (s.snapVol v).scansAs l y n := by
  refine quiet_of_snapVol (Q := SnapVol.scansAs l y n) (fun calm p => p.calm calm) ?_ id id
  intro x z r same
  obtain ⟨producers, trim, front⟩ := same
  have nonempty : x.retire ≠ [] := fun none => by simp [none] at front
  refine ⟨producers, ?_, ?_⟩
  · rw [← trim]; exact if_neg fun e => nonempty (List.isEmpty_iff.1 e)
  · rw [List.head?_append_of_ne_nil _ nonempty, front]

end

/-! ### A producer at its record -/

section
variable {b : Bool} {s : State} {v : Vol} {q : Producer} {n : Nat}

theorem State.settled.begin (p : s.settled ⟨b, none, n⟩) (r : Option (Vol × Producer)) (m : Nat) : s.settled ⟨b, r, m⟩ where
  records e mem := by
    obtain ⟨fits, spanned, passed, marks, within, undo⟩ := p.records e mem
    refine ⟨fits, spanned, passed, fun m mark => ?_, within, undo⟩
    obtain ⟨c, taken, volume, runId, held, walks⟩ := marks m mark
    refine ⟨c, taken, volume, runId, fun dead => ?_, walks⟩
    obtain ⟨kind, state, cursor | ⟨holding, -⟩⟩ := held dead
    · exact ⟨kind, state, .inl cursor⟩
    · exact nomatch holding
  waits v retiring n waiting := by
    obtain ⟨producer, record⟩ := p.waits v retiring n waiting
    exact ⟨producer, fun _ => record nofun⟩
  producers v := ⟨(p.producers v).1, fun q mem _ => (p.producers v).2 q mem nofun⟩
  births := p.births
  volumes := p.volumes
  inbound := p.inbound
  alone := p.alone
  flights := p.flights

/-- A producer has left, and a commit scan has moved on. -/
theorem State.settled.done (p : s.settled ⟨b, some (v, q), n⟩) (gone : q ∉ (s.snapVol v).producers) (moved : ∀ c, q = .commit c → n < (s.inCtx c).cursor) :
    s.settled ⟨b, none, 0⟩ where
  records e mem := by
    obtain ⟨fits, spanned, passed, marks, within, undo⟩ := p.records e mem
    refine ⟨fits, spanned, passed, fun m mark => ?_, within, undo⟩
    obtain ⟨c, taken, volume, runId, held, walks⟩ := marks m mark
    refine ⟨c, taken, volume, runId, fun dead => ?_, walks⟩
    obtain ⟨kind, state, cursor | ⟨holding, here⟩⟩ := held dead
    · exact ⟨kind, state, .inl cursor⟩
    · obtain ⟨rfl, rfl⟩ := Prod.mk.inj (Option.some.inj holding)
      exact ⟨kind, state, .inl (here.trans_lt (moved c rfl))⟩
  waits w retiring n waiting := by
    obtain ⟨producer, record⟩ := p.waits w retiring n waiting
    exact ⟨producer, fun _ => record fun same => by cases same; exact gone producer⟩
  producers w := ⟨(p.producers w).1, fun o mem _ => (p.producers w).2 o mem fun same => by cases same; exact gone mem⟩
  births := p.births
  volumes := p.volumes
  inbound := p.inbound
  alone := p.alone
  flights := p.flights

end

/-! ### Where records stand -/

/-- No two records of a volume share a block (R8). -/
structure State.spread (s : State) : Prop where
  len : ∀ e ∈ s.extents, 1 ≤ e.len
  apart : ∀ d ∈ s.extents, ∀ e ∈ s.extents, d.volume = e.volume → d = e ∨ d.run.overlaps e.run = false

section
variable {s : State} {v : Vol} {n : Nat} {d e : Extent}

theorem Run.overlaps_comm (a b : Run) : a.overlaps b = b.overlaps a := by
  simp only [Run.overlaps, Bool.and_comm]

theorem Run.apart_of_overlaps {a b : Run} (apart : a.overlaps b = false) : b.first + b.len ≤ a.first ∨ a.first + a.len ≤ b.first := by
  unfold Run.overlaps Run.stop at apart
  rw [Bool.and_eq_false_iff, decide_eq_false_iff_not, decide_eq_false_iff_not] at apart
  exact apart.imp Nat.not_lt.1 Nat.not_lt.1

theorem State.blocksLawful.spread (p : s.blocksLawful) : s.spread := by
  have pairwise : ∀ v, (∀ r ∈ (s.records v).map Extent.run, 1 ≤ r.len) ∧ apart ((s.records v).map Extent.run) := fun v => by
    obtain ⟨len, apart⟩ := p.exclusive v
    simp only [State.runsOf, List.append_assoc] at len apart
    exact ⟨fun r mem => len r (List.mem_append_left _ mem), (List.pairwise_append.1 apart).1⟩
  refine ⟨fun e mem => (pairwise e.volume).1 e.run (List.mem_map_of_mem (mem_records.2 ⟨mem, rfl⟩)), fun d hd e he volume => ?_⟩
  refine List.Pairwise.forall_of_forall_of_flip (R := fun d e : Extent => d = e ∨ d.run.overlaps e.run = false) (fun _ _ => .inl rfl) ?_ ?_
    (mem_records.2 ⟨hd, rfl⟩) (mem_records.2 ⟨he, volume.symm⟩)
  · exact (List.pairwise_map.1 (pairwise d.volume).2).imp .inr
  · exact (List.pairwise_map.1 (pairwise d.volume).2).imp fun apart => .inr (Run.overlaps_comm .. ▸ apart)

theorem State.spread.unique (p : s.spread) (hd : d ∈ s.extents) (he : e ∈ s.extents) (volume : d.volume = e.volume) (first : d.first = e.first) : d = e := by
  obtain same | apart := p.apart d hd e he volume
  · exact same
  · have := p.len d hd
    have := p.len e he
    have sides : e.first + e.len ≤ d.first ∨ d.first + d.len ≤ e.first := Run.apart_of_overlaps apart
    omega

/-- A record that begins above another begins at its end or above. -/
theorem State.spread.beyond (p : s.spread) (hd : d ∈ s.extents) (he : e ∈ s.extents) (volume : d.volume = e.volume) (above : e.first < d.first) :
    e.stop ≤ d.first := by
  obtain rfl | apart := p.apart d hd e he volume
  · exact absurd above (Nat.lt_irrefl _)
  · have := p.len d hd
    have := p.len e he
    have sides : e.first + e.len ≤ d.first ∨ d.first + d.len ≤ e.first := Run.apart_of_overlaps apart
    unfold Extent.stop
    omega

/-- A record that begins before the end of another is it, or begins before it. -/
theorem State.spread.before (p : s.spread) (hd : d ∈ s.extents) (he : e ∈ s.extents) (volume : d.volume = e.volume) (below : d.first < e.stop) :
    d.first < e.first ∨ d = e := by
  obtain before | same | above := Nat.lt_trichotomy d.first e.first
  · exact .inl before
  · exact .inr (p.unique hd he volume same)
  · exact absurd (p.beyond hd he volume above) (Nat.not_le.2 below)

theorem State.spread.subset {t : State} (p : s.spread) (sub : ∀ e ∈ t.extents, e ∈ s.extents) : t.spread :=
  ⟨fun e mem => p.len e (sub e mem), fun d hd e he => p.apart d (sub d hd) e (sub e he)⟩

/-- The records change in what does not place them. -/
theorem State.spread.map {t : State} (p : s.spread) {f : Extent → Extent} (same : t.extents = s.extents.map f)
    (place : ∀ e, (f e).volume = e.volume ∧ (f e).run = e.run) : t.spread := by
  have run : ∀ e, (f e).run = e.run := fun e => (place e).2
  constructor
  · intro e mem
    rw [same] at mem
    obtain ⟨d, inTable, rfl⟩ := List.mem_map.1 mem
    exact (p.len d inTable).trans_eq (congrArg Run.len (run d)).symm
  · intro d hd e he volume
    rw [same] at hd he
    obtain ⟨d, inTable, rfl⟩ := List.mem_map.1 hd
    obtain ⟨e, also, rfl⟩ := List.mem_map.1 he
    obtain rfl | apart := p.apart d inTable e also ((place d).1.symm.trans (volume.trans (place e).1))
    · exact .inl rfl
    · exact .inr (by rw [run, run]; exact apart)

/-- The next record of a walk is the first at or above its cursor (R4). -/
theorem nextRecord_least (order : s.etu.ordered) (next : s.nextRecord v n = some e) (mem : d ∈ s.extents) (volume : d.volume = v) (above : n ≤ d.first) :
    e.first ≤ d.first := by
  obtain ⟨here, before, after, split, others⟩ := List.find?_eq_some_iff_append.1 next
  simp only [Bool.and_eq_true, decide_eq_true_iff] at here
  change s.extents.Pairwise _ at order
  rw [split] at order mem
  obtain mem | mem := List.mem_append.1 mem
  · have := others d mem
    simp [volume, above] at this
  · obtain rfl | mem := List.mem_cons.1 mem
    · exact Nat.le_refl _
    · obtain ⟨-, order, -⟩ := List.pairwise_append.1 order
      obtain lt | ⟨-, lt⟩ := (List.pairwise_cons.1 order).1 d mem
      · rw [volume, here.1] at lt
        exact absurd lt (lt_irrefl _)
      · exact lt.le

theorem nextRecord_none (next : s.nextRecord v n = none) (mem : d ∈ s.extents) (volume : d.volume = v) : d.first < n := by
  have := List.find?_eq_none.1 next d mem
  simpa [volume] using this

end
end Sys2Proof.Machine
end

section
/-! The trim scan keeps the invariant of the epochs and marks. -/
namespace Sys2Proof.Machine

section
variable {b : Scope} {s t : State} {v : Vol} {e : Extent} {n m : Nat}

/-! ### The scan's cursor -/

/-- A scan goes on behind records that another snapshot spans as well. -/
theorem Extent.passed.moved {y : SnapVol} (f : e.passed y) {state : TrimState} (place : n ∈ y.trim.place) (moved : state.place = some m)
    (behind : e.first < m → e.first < n ∨ ∀ t ∈ y.retire.head?, e.death ≠ none → e.spans t.epoch → ∃ z ∈ y.snaps, z.epoch ≠ t.epoch ∧ e.spans z.epoch) :
    e.passed { y with trim := state } := by
  intro t front k cursor dead spans before
  obtain rfl : m = k := Option.some.inj (moved.symm.trans cursor)
  obtain passed | kept := behind before
  · exact f t front n place dead spans passed
  · exact kept t front dead spans

/-- A trim scan that does not wait stands at a block that it has left no record behind. -/
theorem State.settled.scan (p : s.settled b) (retire : (s.snapVol v).retire ≠ []) (moves : .trim ∈ (s.snapVol v).producers → b.retrying = some (v, .trim))
    (passed : b.trims = true → ∀ e ∈ s.extents, e.volume = v → e.passed { s.snapVol v with trim := .scanning n }) : (s.setTrim v (.scanning n)).settled b := by
  have o : s.only (s.setTrim v (.scanning n)) v := State.only_setSnapVol ..
  have here : (s.setTrim v (.scanning n)).snapVol v = { s.snapVol v with trim := .scanning n } := (State.snapVol_setSnapVol ..).trans (if_pos rfl)
  obtain ⟨-, retiring, below, gate, dated⟩ := p.volumes v
  refine p.volume o (fun e mem at_v => ?_) ?_ ?_ ?_ fun opened => ⟨opened, rfl⟩
  · obtain ⟨fits, spanned, -⟩ := p.records e mem
    rw [at_v] at fits spanned
    rw [here]
    exact ⟨fits, spanned, fun also => passed also e mem at_v⟩
  · rw [here]; exact fun _ _ => nofun
  · rw [show ((s.setTrim v (.scanning n)).snapVol v).producers = (s.snapVol v).producers by rw [here]]
    refine ⟨(p.producers v).1, fun q mem active => o.producerOk (fun trim => ?_) ((p.producers v).2 q mem active)⟩
    subst trim
    exact absurd (moves mem) active
  · rw [here]
    exact ⟨fun none => absurd none retire, retiring, below, gate, dated⟩

/-- A trim scan begins to wait at a HELD record. -/
theorem State.settled.wait (p : s.settled b) (mem : e ∈ s.extents) (at_v : e.volume = v) (dead : e.death ≠ none) (retire : (s.snapVol v).retire ≠ [])
    (moves : .trim ∉ (s.snapVol v).producers)
    (passed : b.trims = true → ∀ d ∈ s.extents, d.volume = v → d.passed { s.snapVol v with trim := .waiting e.first }) :
    (producerWait v .trim (s.setTrim v (.waiting e.first))).settled b := by
  generalize ht : s.setSnapVol v { s.snapVol v with trim := .waiting e.first, producers := (s.snapVol v).producers ++ [.trim] } = t
  have o : s.only t v := ht ▸ State.only_setSnapVol ..
  have here : t.snapVol v = { s.snapVol v with trim := .waiting e.first, producers := (s.snapVol v).producers ++ [.trim] } :=
    ht ▸ (State.snapVol_setSnapVol ..).trans (if_pos rfl)
  have record : e ∈ s.records v := mem_records.2 ⟨mem, at_v⟩
  have waiting : t.settled b := by
    obtain ⟨-, retiring, below, gate, dated⟩ := p.volumes v
    refine p.volume o (fun d mem at_v => ?_) ?_ ?_ ?_ fun opened => ⟨ht ▸ opened, ht ▸ rfl⟩
    · obtain ⟨fits, spanned, -⟩ := p.records d mem
      rw [at_v] at fits spanned
      rw [here]
      exact ⟨ht ▸ fits, spanned, fun also => passed also d mem at_v⟩
    · rw [here]
      intro _ m waits
      exact ⟨List.mem_append_right _ (List.mem_singleton_self _), fun _ => ⟨e, record, TrimState.waiting.inj waits, dead⟩⟩
    · have producers : (t.snapVol v).producers = (s.snapVol v).producers ++ [.trim] := by rw [here]
      rw [producers]
      refine ⟨List.nodup_append.2 ⟨(p.producers v).1, List.nodup_singleton _, fun q old r new same => ?_⟩, fun q member active => ?_⟩
      · exact moves (List.mem_singleton.1 new ▸ same ▸ old)
      · obtain old | new := List.mem_append.1 member
        · exact o.producerOk (fun trim => absurd (trim ▸ old) moves) ((p.producers v).2 q old active)
        · obtain rfl := List.mem_singleton.1 new
          exact ⟨e, by rw [o.records]; exact record, by rw [here]⟩
    · rw [here, show t.vol v = s.vol v from ht ▸ rfl]
      exact ⟨fun none => absurd none retire, retiring, below, gate, dated⟩
  have set : (s.setTrim v (.waiting e.first)).snapVol v = { s.snapVol v with trim := .waiting e.first } := (State.snapVol_setSnapVol ..).trans (if_pos rfl)
  have absent : ¬(((s.setTrim v (.waiting e.first)).snapVol v).producers.contains .trim) = true := by
    rw [set, List.contains_iff_mem]
    exact moves
  unfold producerWait
  rw [if_neg absent, set, State.setTrim, State.setSnapVol_setSnapVol, ht]
  split
  · exact (quiet_settled b).raise waiting
  · exact waiting

/-! ### The removal of a record -/

/-- No commit or rollback scan waits at a HELD record. -/
theorem State.settled.not_scanAt (p : s.settled b) (mem : e ∈ s.extents) (dead : e.death ≠ none) (c : Ctx) : ¬s.scanAt b e c := by
  rintro ⟨marked, taken, volume, cursor, q, producer, of_c, active⟩
  obtain ⟨m, mark⟩ := Option.ne_none_iff_exists'.1 marked
  obtain ⟨d, also, sameVolume, -, held, -⟩ := (p.records e mem).marks m mark
  by_cases same : c = d
  · subst same
    obtain ⟨-, committing, place⟩ := held dead
    have ok := (p.producers e.volume).2 q producer active
    obtain rfl | rfl := of_c
    · obtain before | ⟨holding, -⟩ := place
      · exact absurd cursor (Nat.ne_of_gt before)
      · exact active holding
    · exact nomatch committing.symm.trans ok.1
  · exact p.alone c d same taken also (volume.trans sameVolume.symm)

/-- The trim scan removes a HELD record that no other producer waits at. -/
theorem State.settled.trimRemove (p : s.settled b) (removed : trimRemove e s = some t) (mem : e ∈ s.extents) (spread : s.spread) (dead : e.death ≠ none)
    {l : List Producer} {y : TrimState} (scans : (s.snapVol e.volume).scansAs l y n) (free : b.retrying = some (e.volume, .trim) ∨ ∀ m, y ≠ .waiting m) :
    t.settled b ∧ (t.snapVol e.volume).scansAs l y n ∧ t.extents = s.extents.filter fun d => !d.at e.volume e.first := by
  unfold Machine.trimRemove at removed
  split at removed
  · exact nomatch removed
  · next w appended =>
    dsimp only at removed
    obtain rfl := Option.some.inj removed
    obtain ⟨l, frame⟩ := releaseAppend_frame appended
    have extents : w.extents = s.extents := frame.extents
    have after := (quiet_settled b).releaseAppend appended p
    have scansW := quiet_scansAs.releaseAppend appended scans
    have gone : (w.removeExtent e.volume e.first).settled b := after.removeExtent fun d inTable volume first => by
      rw [extents] at inTable
      obtain rfl := spread.unique inTable mem volume first
      rintro (⟨active, -, waiting⟩ | ⟨c, scan⟩)
      · obtain retrying | moves := free
        · exact active retrying
        · exact moves _ (scansW.2.1.symm.trans waiting)
      · exact after.not_scanAt (extents ▸ mem) dead c scan
    generalize hu : refundAccount (reserveIndex e.volume) (w.chargeOf e.volume e.len) 1 (w.removeExtent e.volume e.first) = u
    have settled : u.settled b := hu ▸ (quiet_settled b).refundAccount gone
    have scansU : (u.snapVol e.volume).scansAs _ _ _ := hu ▸ quiet_scansAs.refundAccount (s := w.removeExtent e.volume e.first) scansW
    have credited : (u.snapVol e.volume).calm { u.snapVol e.volume with retire := creditEntry (w.chargeOf e.volume e.len) (u.snapVol e.volume).retire } := by
      refine ⟨rfl, ?_, rfl, rfl, id⟩
      cases (u.snapVol e.volume).retire <;> rfl
    refine ⟨settled.calm_of_same (State.calm_setSnapVol credited) rfl, scansU.calmed (State.calm_setSnapVol credited), ?_⟩
    rw [State.setSnapVol_extents, ← hu, extents_refundAccount, State.removeExtent, extents_setExtents, extents]

/-! ### A step of the scan -/

/-- A record that the scan passes over keeps, when it is HELD and its snapshot spans it, an ACTIVE snapshot that spans it. -/
theorem spans_of_passed {y : SnapVol} {x : Volume} (steady : x.steady y) {r : RetireEntry} (entry : r ∈ y.retire) (dead : e.death ≠ none) (spans : e.spans r.epoch)
    (protects : e.candidate r.epoch = true → ∀ d, e.death = some d → ∃ z ∈ y.snaps, z.active = true ∧ e.birth ≤ z.epoch ∧ z.epoch < d) :
    ∃ z ∈ y.snaps, z.epoch ≠ r.epoch ∧ e.spans z.epoch := by
  obtain ⟨d, died⟩ := Option.ne_none_iff_exists'.1 dead
  obtain ⟨birth, death⟩ := spans
  obtain ⟨z, mem, active, born, before⟩ := protects ((candidate_iff e _).2 ⟨d, died, birth, death d died⟩) d died
  exact ⟨z, mem, (steady.retiring z mem active r entry).symm, born, fun k dies => Option.some.inj (died.symm.trans dies) ▸ before⟩

theorem State.based.trimVisit (p : s.based b) (active : b.retrying = none) {x : RetireEntry} {rest : List RetireEntry} (trim : (s.snapVol v).trim = .scanning n)
    (retire : (s.snapVol v).retire = x :: rest) (next : s.nextRecord v n = some e) : (trimVisit v x.epoch e s).settled b := by
  obtain ⟨mem, volume, above⟩ := nextRecord_volume next
  have spread := p.blocks.spread
  have nonempty : (s.snapVol v).retire ≠ [] := retire ▸ List.cons_ne_nil _ _
  have place : n ∈ (s.snapVol v).trim.place := trim ▸ rfl
  have moves : .trim ∉ (s.snapVol v).producers := fun waits => by
    obtain ⟨d, -, waiting⟩ := (p.settled.producers v).2 .trim waits (by simp [active])
    exact nomatch trim.symm.trans waiting
  have before : ∀ d ∈ s.extents, d.volume = v → d.first < e.stop → d.first < n ∨ d = e := fun d inTable at_v below => by
    obtain lt | same := spread.before inTable mem (at_v.trans volume.symm) below
    · exact .inl (Nat.lt_of_not_le fun le => absurd (nextRecord_least p.blocks.order next inTable at_v le) (Nat.not_le.2 lt))
    · exact .inr same
  have passed : ∀ d ∈ s.extents, d.volume = v → b.trims = true → d.passed (s.snapVol v) := fun d inTable at_v also => at_v ▸ (p.settled.records d inTable).passed also
  unfold Machine.trimVisit
  split
  · next removes =>
    rw [Bool.and_eq_true, candidate_iff] at removes
    obtain ⟨⟨d, died, -⟩, -⟩ := removes
    have dead : e.death ≠ none := Option.ne_none_iff_exists'.2 ⟨d, died⟩
    split
    · next t removed =>
      have scans : (s.snapVol e.volume).scansAs (s.snapVol v).producers (.scanning n) x.epoch := by
        rw [volume]
        exact ⟨rfl, trim, by rw [retire]; rfl⟩
      obtain ⟨settled, ⟨producers, scanning, front⟩, extents⟩ := p.settled.trimRemove removed mem spread dead scans (.inr nofun)
      rw [volume] at producers scanning front extents
      refine settled.scan (fun none => by simp [none] at front) (fun waits => absurd (producers ▸ waits) moves) fun also d inTable at_v => ?_
      refine (at_v ▸ (settled.records d inTable).passed also).moved (n := n) (by rw [scanning]; rfl) rfl fun below => ?_
      rw [extents, List.mem_filter] at inTable
      obtain lt | rfl := before d inTable.1 at_v below
      · exact .inl lt
      · simp [Extent.at, volume] at inTable
    · refine p.settled.wait mem volume dead nonempty moves fun also d inTable at_v => (passed d inTable at_v also).moved place rfl fun below => ?_
      exact .inl (Nat.lt_of_not_le fun le => absurd (nextRecord_least p.blocks.order next inTable at_v le) (Nat.not_le.2 below))
  · next passes =>
    refine p.settled.scan nonempty (fun waits => absurd waits moves) fun also d inTable at_v => (passed d inTable at_v also).moved place rfl fun below => ?_
    obtain lt | rfl := before d inTable at_v below
    · exact .inl lt
    · refine .inr fun t front dead spans => spans_of_passed (p.settled.volumes v) (List.mem_of_mem_head? front) dead spans fun candidate k died => ?_
      have here : t = x := by rw [retire] at front; exact (Option.some.inj front).symm
      subst here
      rw [Bool.and_eq_true, not_and, Bool.not_eq_true', Bool.not_eq_false] at passes
      rw [← volume]
      exact (stillProtected_of_death died).1 (passes candidate)

theorem State.based.trimEnd (p : s.based b) (active : b.retrying = none) {x : RetireEntry} {rest : List RetireEntry} (trim : (s.snapVol v).trim = .scanning n)
    (retire : (s.snapVol v).retire = x :: rest) (free : s.stranded v x.epoch = false) : (trimEnd v s).settled b := by
  have moves : .trim ∉ (s.snapVol v).producers := fun waits => by
    obtain ⟨d, -, waiting⟩ := (p.settled.producers v).2 .trim waits (by simp [active])
    exact nomatch trim.symm.trans waiting
  generalize ht : s.setSnapVol v { s.snapVol v with
    snaps := (s.snapVol v).snaps.filter fun z => decide (z.epoch ≠ x.epoch)
    retire := rest
    trim := if rest.isEmpty then .idle else .scanning 0 } = t
  have o : s.only t v := ht ▸ State.only_setSnapVol ..
  have here : t.snapVol v = { s.snapVol v with
      snaps := (s.snapVol v).snaps.filter fun z => decide (z.epoch ≠ x.epoch)
      retire := rest
      trim := if rest.isEmpty then .idle else .scanning 0 } := ht ▸ (State.snapVol_setSnapVol ..).trans (if_pos rfl)
  have ended : t.settled b := by
    obtain ⟨-, retiring, below, gate, dated⟩ := p.settled.volumes v
    refine p.settled.volume o (fun e mem at_v => ?_) ?_ ?_ ?_ fun opened => ⟨ht ▸ opened, ht ▸ rfl⟩
    · obtain ⟨fits, spanned, -⟩ := p.settled.records e mem
      rw [at_v] at fits spanned
      rw [here]
      refine ⟨ht ▸ fits, fun dead => ?_, fun _ => Extent.passed_of_start fun k place => ?_⟩
      · obtain ⟨z, inList, spans⟩ := spanned dead
        by_cases same : z.epoch = x.epoch
        · obtain ⟨d, died⟩ := Option.ne_none_iff_exists'.1 dead
          have others := List.any_eq_false.1 free e (mem_records.2 ⟨mem, at_v⟩)
          have candidate : e.candidate x.epoch = true := (candidate_iff e _).2 ⟨d, died, same ▸ spans.1, same ▸ spans.2 d died⟩
          simp only [candidate, Bool.true_and, Bool.not_eq_true', Bool.not_eq_false, List.any_eq_true, Bool.and_eq_true, decide_eq_true_iff, candidate_iff] at others
          obtain ⟨w, inList, other, k, dies, born, before⟩ := others
          exact ⟨w, List.mem_filter.2 ⟨inList, decide_eq_true other⟩, born, fun i dead => Option.some.inj (dies.symm.trans dead) ▸ before⟩
        · exact ⟨z, List.mem_filter.2 ⟨inList, decide_eq_true same⟩, spans⟩
      · dsimp only at place
        split at place
        · exact nomatch place
        · exact (Option.some.inj place).symm
    · rw [here]
      intro _ m waits
      dsimp only at waits
      split at waits <;> exact nomatch waits
    · rw [show (t.snapVol v).producers = (s.snapVol v).producers by rw [here]]
      exact ⟨(p.settled.producers v).1, fun q mem active => o.producerOk (fun trim => absurd (trim ▸ mem) moves) ((p.settled.producers v).2 q mem active)⟩
    · rw [here, show t.vol v = s.vol v from ht ▸ rfl]
      rw [retire] at retiring below
      refine ⟨fun none => if_pos (List.isEmpty_iff.2 none), fun z mem active r entry => ?_, fun k current => ?_, gate, dated⟩
      · exact retiring z (List.mem_of_mem_filter mem) active r (List.mem_cons_of_mem _ entry)
      · obtain ⟨snaps, entries⟩ := below k current
        exact ⟨fun z mem => snaps z (List.mem_of_mem_filter mem), fun r entry => entries r (List.mem_cons_of_mem _ entry)⟩
  subst ht
  have reported := (quiet_settled b).reportTrim (v := v) (x := x) ended
  unfold Machine.trimEnd
  simp only [retire]
  split
  · exact (quiet_settled b).autoTrimStep reported
  · exact reported

theorem State.based.trimScanStep (p : s.based b) (active : b.retrying = none) : NextHas (State.settled b) (execTrimScanStep v s) := by
  unfold execTrimScanStep
  split
  · next trim retire =>
    split
    · next next => exact .next (p.trimVisit active trim retire next)
    · refine .next ?_
      split
      · refine p.settled.scan (retire ▸ List.cons_ne_nil _ _) (fun waits => ?_) fun _ _ _ _ => Extent.passed_of_start fun _ place => (Option.some.inj place).symm
        obtain ⟨d, -, waiting⟩ := (p.settled.producers v).2 .trim waits (by simp [active])
        exact nomatch trim.symm.trans waiting
      · next free => exact p.trimEnd active trim retire (Bool.eq_false_iff.2 free)
  · exact .next p.settled

end
end Sys2Proof.Machine
end

section
/-! A piece's records and an accepted OFFER keep the invariant of the epochs and marks. -/
namespace Sys2Proof.Machine

/-! ### The segments of a piece -/

/-- A segment of a piece is not empty, and lies within one of the blocks that the targets still have to give (R78, R82). -/
theorem segmentsAt_within {g : Run} {ts : List Run} : ∀ {pos n m : Nat}, runsLen ts ≤ m → g ∈ segmentsAt ts pos n →
    1 ≤ g.len ∧ ∃ r ∈ segmentsAt ts pos m, r.first = g.first ∧ g.len ≤ r.len := by
  induction ts with
  | nil => exact fun _ mem => nomatch mem
  | cons t ts ih =>
    intro pos n m total mem
    have sum : runsLen (t :: ts) = t.len + runsLen ts := by simp [runsLen]
    rw [sum] at total
    unfold segmentsAt at mem ⊢
    split at mem
    · exact nomatch mem
    · next some =>
      split at mem
      · next passed =>
        obtain ⟨len, r, inList, first, fits⟩ := ih (m := m) (by omega) mem
        refine ⟨len, r, ?_, first, fits⟩
        split
        · next none =>
          subst none
          obtain ⟨-, r, empty, -⟩ := ih (m := 0) (by omega) mem
          cases ts <;> simp [segmentsAt] at empty
        · exact inList
      · next inside =>
        rw [if_neg (by omega), if_neg inside]
        obtain rfl | mem := List.mem_cons.1 mem
        · exact ⟨by dsimp only; omega, _, List.mem_cons_self, rfl, by dsimp only; omega⟩
        · obtain ⟨len, r, inList, first, fits⟩ := ih (m := m - min m (t.len - pos)) (by omega) mem
          exact ⟨len, r, List.mem_cons_of_mem _ inList, first, fits⟩

section
variable {b : Scope} {s : State} {c : Ctx} {e : Extent}

/-! ### The records of a piece -/

/-- No record begins where a piece that waits at the gate has a segment (R8, R78, R82). -/
theorem State.based.first_ne (p : s.based b) {f : Flight} (flying : (s.restoreCtx c).flight = some f) (waits : f.created = false) {g : Run} (inFlight : g ∈ f.segs)
    (mem : e ∈ s.extents) (volume : (s.restoreCtx c).volume = e.volume) : e.first ≠ g.first := by
  intro first
  obtain ⟨-, running, -⟩ := p.flights
  obtain ⟨runs, restores, -⟩ := running c (by rw [show s.ru.ctxs[c].flight = some f from flying]; exact Option.some_ne_none f)
  obtain ⟨-, -, claims, segments⟩ := p.blocks.restores c runs restores
  obtain ⟨-, -, -, gate, -⟩ := segments f flying
  rw [gate waits] at inFlight
  obtain ⟨len, r, inTargets, start, fits⟩ := segmentsAt_within (Nat.le_refl _) inFlight
  obtain ⟨claim, claimed, below, above⟩ := claims r inTargets 0 (len.trans fits)
  obtain ⟨positive, apart⟩ := p.blocks.exclusive e.volume
  have inRecords : e.run ∈ (s.records e.volume).map Extent.run := List.mem_map_of_mem (mem_records.2 ⟨mem, rfl⟩)
  have inClaims : claim ∈ s.claimsOf e.volume := by
    refine List.mem_flatMap.2 ⟨c, mem_ctxList c, ?_⟩
    change (s.restoreCtx c).running = true at runs
    simp only [RestoreCtx.running, Bool.and_eq_true, decide_eq_true_iff] at runs
    rw [if_pos ⟨runs.1, volume⟩]
    exact claimed
  have one : 1 ≤ e.run.len := positive _ (by simp only [State.runsOf, List.append_assoc]; exact List.mem_append_left _ inRecords)
  simp only [State.runsOf, List.append_assoc] at apart
  have separate := Run.apart_of_overlaps ((List.pairwise_append.1 apart).2.2 _ inRecords _ (List.mem_append_left _ inClaims))
  have starts : e.run.first = g.first := first
  unfold Run.stop at above
  omega

theorem mem_pieceRecords {x : RestoreCtx} {birth : Nat} {gs : List Run} : ∀ {o : Nat}, e ∈ x.pieceRecords birth o gs →
    e.volume = x.volume ∧ e.birth = birth ∧ e.death = none ∧ e.mark = none ∧ e.source = none := by
  induction gs with
  | nil => exact fun mem => nomatch mem
  | cons g gs ih =>
    intro o mem
    obtain rfl | mem := List.mem_cons.1 mem
    · exact ⟨rfl, rfl, rfl, rfl, rfl⟩
    · exact ih mem

/-- A piece is in flight with its records made, on an open PRIMARY volume that has no other record where they begin. -/
theorem State.settled.setFlight (p : s.settled b) {x : RestoreCtx} {f : Flight} (flight : x.flight = some f)
    (on : (s.vol x.volume).isOpen ∧ (s.vol x.volume).defn.role = .primary)
    (records : ∀ e ∈ s.extents, x.volume = e.volume → ∀ g ∈ f.segs, e.first = g.first → e.death = none ∧ e.mark = none) : (s.setRestoreCtx c x).settled b where
  records e mem := by
    obtain ⟨fits, spanned, passed, marks, within, undo⟩ := p.records e mem
    refine ⟨fits, spanned, passed, marks, within, fun d => ?_⟩
    rw [State.restoreCtx_setRestoreCtx]
    split
    · intro k flying _ volume
      obtain rfl := Option.some.inj (flight.symm.trans flying)
      exact records e mem volume
    · exact undo d
  waits := p.waits
  producers v := ⟨(p.producers v).1, fun q mem active => by have ok := (p.producers v).2 q mem active; cases q <;> exact ok⟩
  births := p.births
  volumes := p.volumes
  inbound := p.inbound
  alone := p.alone
  flights d k flying made := by
    rw [State.restoreCtx_setRestoreCtx] at flying ⊢
    split at flying
    · next here => rw [if_pos here]; exact on
    · next there => rw [if_neg there]; exact p.flights d k flying made

theorem State.based.makePiece (p : s.based b) {f : Flight} (flying : (s.restoreCtx c).flight = some f) (waits : f.created = false) : (makePiece c f s).settled b := by
  obtain ⟨-, running, -⟩ := p.flights
  obtain ⟨runs, -⟩ := running c (by rw [show s.ru.ctxs[c].flight = some f from flying]; exact Option.some_ne_none f)
  obtain ⟨opened, primary, -⟩ := p.snaps.holds.2.1 c runs
  obtain ⟨n, current⟩ := Option.isSome_iff_exists.1 ((p.settled.volumes _).dated opened)
  have role : (s.vol (s.restoreCtx c).volume).defn.role ≠ .replica := by simp [primary]
  unfold Machine.makePiece
  dsimp only
  refine onOwnerGroup_keeps (fun _ => (quiet_settled b).chargeAccount) ?_
  generalize hes : (s.restoreCtx c).pieceRecords _ _ f.segs = es
  have each : ∀ e ∈ es, e.volume = (s.restoreCtx c).volume ∧ e.birth = n ∧ e.death = none ∧ e.mark = none ∧ e.source = none := fun e mem => by
    rw [current, Option.getD_some] at hes
    exact mem_pieceRecords (hes.symm ▸ mem)
  have added : (es.foldl (fun t e => t.addExtent e) s).settled b := p.settled.addExtents es fun e mem => by
    obtain ⟨volume, birth, live, unmarked, source⟩ := each e mem
    refine p.settled.admits_primary (volume ▸ opened) (volume ▸ role) live unmarked source fun k now => ?_
    rw [volume, current] at now
    exact birth.trans_le (Nat.le_of_eq (Option.some.inj now))
  have calm : s.calm (es.foldl (fun t e => t.addExtent e) s) := s.calm_addExtents es
  have left : (leaveGate c (es.foldl (fun t e => t.addExtent e) s)).settled b := (quiet_settled b).leaveGate added
  refine left.setFlight (f := { f with created := true }) rfl ⟨(calm.vols _).isOpen opened, ?_⟩ fun e mem volume g inFlight first => ?_
  · exact (congrArg VolumeDef.role (calm.vols (s.restoreCtx c).volume).defn).trans primary
  · obtain mem | mem := (mem_addExtents es s).1 mem
    · obtain ⟨-, -, live, unmarked, -⟩ := each e mem
      exact ⟨live, unmarked⟩
    · exact absurd first (p.first_ne flying waits inFlight mem volume)

/-! ### OFFER -/

theorem offerFault_eq_none {v : Vol} {k base target : Nat} (passed : offerFault s v k base target = none) :
    (s.vol v).defn.role = .replica ∧ (s.vol v).state = .online ∧ s.ctxOf v.val = none ∧ (s.volumeEmpty v = true ∨ (s.vol v).epoch.getD 0 ≤ target) := by
  unfold offerFault at passed
  split_ifs at passed with replica strap fault busy size stale
  · refine ⟨replica.1, replica.2, ?_, stale.2.2⟩
    exact Option.not_isSome_iff_eq_none.1 fun some => busy (.inl some)
  · split at passed <;> exact nomatch passed

/-- An OFFER that is accepted is of a run that lies above the volume's records (R138). -/
theorem State.settled.takeOffer (p : s.settled b) (f : InFrame) : (takeOffer f s).settled b := by
  refine (quiet_settled b).takeOffer (fun k base target _ passed => ?_) p
  generalize toVol f.header.recvVol = v at passed
  obtain ⟨replica, online, alone, above⟩ := offerFault_eq_none passed
  obtain ⟨n, current⟩ := Option.isSome_iff_exists.1 ((p.volumes v).dated (.inl online))
  have others : ∀ d, (s.inCtx d).state ≠ .free → (s.inCtx d).volume ≠ v := fun d taken volume => by
    have some := State.ctxOf_isSome_iff.2 ⟨d, taken, volume⟩
    rw [alone] at some
    exact nomatch some
  unfold openContext
  split
  · exact p
  · next c found =>
    have free : (s.inCtx c).state = .free := of_decide_eq_true (List.find?_some (p := fun c => decide ((s.inCtx c).state = .free)) found)
    refine (quiet_settled b).handControl (p.setInCtx (fun _ => ⟨fun d _ taken => (others d taken).symm, ⟨.inl online, replica⟩, fun e mem volume => ?_, fun i => ?_⟩)
      (fun e _ m _ marks => absurd free marks.1) fun w q mem active of_c => absurd of_c (p.no_producer (by simp [free]) (by simp [free]) mem active))
    · have at_v : e.volume = v := volume.symm
      obtain ⟨⟨-, epochs, -⟩, -, -, marks, -⟩ := p.records e mem
      have unmarked : e.mark = none := Decidable.not_not.1 fun marked => by
        obtain ⟨m, mark⟩ := Option.ne_none_iff_exists'.1 marked
        obtain ⟨d, taken, same, -⟩ := marks m mark
        exact others d taken (same.trans at_v)
      obtain empty | le := above
      · simp only [State.volumeEmpty, Bool.and_eq_true, List.isEmpty_iff] at empty
        have inList : e ∈ s.records v := mem_records.2 ⟨mem, at_v⟩
        rw [empty.1] at inList
        exact nomatch inList
      · rw [at_v] at epochs
        rw [current, Option.getD_some] at le
        obtain ⟨born, dies⟩ := epochs n current
        exact ⟨(born (by simp [unmarked])).trans le, fun d died => (dies unmarked d died).trans le⟩
    · simp [InCtx.free, Slot.clear, Slot.birthsOk]

end
end Sys2Proof.Machine
end

section
/-! What commit and rollback scans are made of: the hold and the removal of a record, the move of a cursor and the waits and leaves of producers. -/
namespace Sys2Proof.Machine

section
variable {b : Scope} {s t : State} {v : Vol} {e : Extent} {c : Ctx} {n : Nat} {q : Producer}

/-! ### Producers that wait and leave -/

theorem State.settled.producerLeave (p : s.settled b) (trim : q = .trim → ∀ n, (s.snapVol v).trim ≠ .waiting n) : (producerLeave v q s).settled b := by
  have o : s.only (Machine.producerLeave v q s) v := State.only_setSnapVol ..
  have here : (Machine.producerLeave v q s).snapVol v = { s.snapVol v with producers := (s.snapVol v).producers.filter fun r => decide (r ≠ q) } :=
    (State.snapVol_setSnapVol ..).trans (if_pos rfl)
  refine p.volume o (fun e mem at_v => ?_) ?_ ?_ ?_ fun opened => ⟨opened, rfl⟩
  · obtain ⟨fits, spanned, passed, -⟩ := p.records e mem
    rw [at_v] at fits spanned passed
    rw [here]
    exact ⟨fits, spanned, passed⟩
  · rw [here]
    intro retiring n waiting
    obtain ⟨producer, record⟩ := p.waits v retiring n waiting
    exact ⟨List.mem_filter.2 ⟨producer, decide_eq_true fun same => trim same.symm n waiting⟩, record⟩
  · have producers : ((Machine.producerLeave v q s).snapVol v).producers = (s.snapVol v).producers.filter fun r => decide (r ≠ q) := by rw [here]
    rw [producers]
    refine ⟨(p.producers v).1.filter _, fun r mem active => o.producerOk (fun _ => by rw [here]) ((p.producers v).2 r (List.mem_of_mem_filter mem) active)⟩
  · rw [here]
    exact { p.volumes v with }

theorem producers_producerLeave (v : Vol) (q : Producer) (s : State) :
    ((producerLeave v q s).snapVol v).producers = (s.snapVol v).producers.filter fun r => decide (r ≠ q) := by
  rw [Machine.producerLeave, State.snapVol_setSnapVol, if_pos rfl]

theorem not_mem_producerLeave (v : Vol) (q : Producer) (s : State) : q ∉ ((producerLeave v q s).snapVol v).producers := by
  rw [producers_producerLeave, List.mem_filter]
  simp

theorem State.settled.producerWait (p : s.settled b) (ok : s.producerOk v q) : (producerWait v q s).settled b := by
  unfold Machine.producerWait
  dsimp only
  split
  · exact p
  · next absent =>
    rw [List.contains_iff_mem] at absent
    generalize ht : s.setSnapVol v { s.snapVol v with producers := (s.snapVol v).producers ++ [q] } = t
    have o : s.only t v := ht ▸ State.only_setSnapVol ..
    have here : t.snapVol v = { s.snapVol v with producers := (s.snapVol v).producers ++ [q] } := ht ▸ (State.snapVol_setSnapVol ..).trans (if_pos rfl)
    have waits : t.settled b := by
      refine p.volume o (fun e mem at_v => ?_) ?_ ?_ ?_ fun opened => ⟨ht ▸ opened, ht ▸ rfl⟩
      · obtain ⟨fits, spanned, passed, -⟩ := p.records e mem
        rw [at_v] at fits spanned passed
        rw [here]
        exact ⟨ht ▸ fits, spanned, passed⟩
      · rw [here]
        intro retiring n waiting
        obtain ⟨producer, record⟩ := p.waits v retiring n waiting
        exact ⟨List.mem_append_left _ producer, record⟩
      · rw [show (t.snapVol v).producers = (s.snapVol v).producers ++ [q] by rw [here]]
        refine ⟨List.nodup_append.2 ⟨(p.producers v).1, List.nodup_singleton _, fun r old k new same => ?_⟩, fun r mem active => ?_⟩
        · exact absent (List.mem_singleton.1 new ▸ same ▸ old)
        · refine o.producerOk (fun _ => by rw [here]) ?_
          obtain old | new := List.mem_append.1 mem
          · exact (p.producers v).2 r old active
          · exact List.mem_singleton.1 new ▸ ok
      · rw [here, show t.vol v = s.vol v from ht ▸ rfl]
        exact { p.volumes v with }
    split
    · exact (quiet_settled b).raise waits
    · exact waits

/-! ### The cursor -/

/-- No other producer of a context waits at another volume. -/
theorem State.settled.producer_volume (p : s.settled b) {w : Vol} (mem : q ∈ (s.snapVol w).producers) (active : b.retrying ≠ some (w, q))
    (of_c : q = .commit c ∨ q = .rollback c) : (s.inCtx c).volume = w := by
  have ok := (p.producers w).2 q mem active
  obtain rfl | rfl := of_c <;> exact ok.2.1

/-- The cursor of a context that does not wait moves on, of a rollback scan not past a marked record. -/
theorem State.settled.moveCursor (p : s.settled b) (taken : (s.inCtx c).state ≠ .free) (up : (s.inCtx c).cursor ≤ n)
    (walks : (s.inCtx c).state = .aborting → ∀ e ∈ s.extents, e.volume = (s.inCtx c).volume → e.mark ≠ none → n ≤ e.first)
    (free : ∀ q ∈ (s.snapVol (s.inCtx c).volume).producers, b.retrying ≠ some ((s.inCtx c).volume, q) → ¬(q = .commit c ∨ q = .rollback c)) :
    (moveCursor c n s).settled b := by
  refine p.setInCtx (fun _ => p.seats taken rfl rfl (p.births c taken)) (fun e mem m mark marks => ?_) fun w q mem active of_c => ?_
  · obtain ⟨-, volume, runId, held, walked⟩ := marks
    refine ⟨taken, volume, runId, fun dead => ?_, fun aborting => ⟨(walked aborting).1, ?_⟩⟩
    · obtain ⟨kind, state, before⟩ := held dead
      exact ⟨kind, state, before.imp_left fun lt => lt.trans_le up⟩
    · exact walks aborting e mem volume.symm (Option.ne_none_iff_exists'.2 ⟨m, mark⟩)
  · obtain rfl := p.producer_volume mem active of_c
    exact absurd of_c (free q mem active)

/-! ### What the charges leave alone -/

theorem sameTables_refundAccount (i k n : Nat) (s : State) : s.sameTables (refundAccount i k n s) := by
  unfold refundAccount
  dsimp only
  split
  · exact ⟨rfl, rfl⟩
  · exact State.sameTables.trans (t := s.setAccount i _) ⟨rfl, rfl⟩ (sameTables_rerate ..)

theorem sameTables_refundLive (e : Extent) (s : State) : s.sameTables (refundLive e s) :=
  onLiveAccounts_keeps (P := s.sameTables) (fun _ _ same => same.trans (sameTables_refundAccount ..)) ⟨rfl, rfl⟩

/-! ### The hold of a record -/

/-- A record that an inbound run has marked is at the run's context. -/
theorem State.settled.marks_at (p : s.settled b) (mem : e ∈ s.extents) {m : Mark} (mark : e.mark = some m) (taken : (s.inCtx c).state ≠ .free)
    (volume : (s.inCtx c).volume = e.volume) : (s.inCtx c).marks (b.holding c e) e m := by
  obtain ⟨d, marks⟩ := (p.records e mem).marks m mark
  by_cases same : c = d
  · exact same ▸ marks
  · exact absurd (volume.trans marks.2.1.symm) (p.alone c d same taken marks.1)

/-- A commit scan holds a marked record that an ACTIVE snapshot protects (R151). -/
theorem State.settled.hold (p : s.settled b) (spread : s.spread) (mem : e ∈ s.extents) (committing : (s.inCtx c).state = .committing)
    (volume : (s.inCtx c).volume = e.volume) (mark : e.mark = some ⟨(s.inCtx c).runId, .provDeath⟩) (holding : b.holding c e)
    (protects : s.dropHolds e (s.inCtx c).target = true) :
    (s.updateExtent e.volume e.first fun x => { x with death := some (s.inCtx c).target }).settled b := by
  have taken : (s.inCtx c).state ≠ .free := by simp [committing]
  obtain ⟨z, inList, active, born, before⟩ := protectedBy_iff.1 protects
  obtain ⟨opened, replica⟩ := p.inbound c taken
  rw [volume] at opened replica
  obtain ⟨⟨⟨defined, sourced, marked, -⟩, epochs, -⟩, -, -, -, within, -⟩ := p.records e mem
  have spans : Extent.spans { e with death := some (s.inCtx c).target } z.epoch := ⟨born, fun d died => Option.some.inj died ▸ before⟩
  have admitted : s.admits b { e with death := some (s.inCtx c).target } := by
    refine ⟨⟨⟨defined, sourced, marked, fun d died => Option.some.inj died ▸ born.trans_lt before⟩, fun n current => ⟨(epochs n current).1, fun unmarked => ?_⟩,
      fun defined => absurd defined opened.state.2⟩, fun _ => ⟨z, inList, spans⟩, fun _ r front k _ _ _ _ => ⟨z, inList, ?_, spans⟩, fun m same => ⟨c, ?_⟩,
      fun d also same => ?_, fun d => p.mayUndo_of_replica (e := { e with death := some (s.inCtx c).target }) replica d⟩
    · exact nomatch mark.symm.trans unmarked
    · exact ((p.volumes e.volume).retiring z inList active r (List.mem_of_mem_head? front)).symm
    · obtain rfl := Option.some.inj (mark.symm.trans same)
      exact ⟨taken, volume, rfl, fun _ => ⟨rfl, committing, .inr holding⟩, fun aborting => nomatch committing.symm.trans aborting⟩
    · by_cases here : c = d
      · subst here
        exact ⟨(within c taken volume).1, fun k died => Nat.le_of_eq (Option.some.inj died).symm⟩
      · exact absurd (volume.trans same.symm) (p.alone c d here taken also)
  have kept : ∀ d ∈ s.extents, ∃ f ∈ s.extents.map (fun x => if x.at e.volume e.first then { x with death := some (s.inCtx c).target } else x),
      f.volume = d.volume ∧ f.first = d.first ∧ f.mark = d.mark ∧ (d.death ≠ none → f.death ≠ none) := fun d inTable => by
    refine ⟨_, List.mem_map_of_mem inTable, ?_⟩
    split
    · exact ⟨rfl, rfl, rfl, fun _ => Option.some_ne_none _⟩
    · exact ⟨rfl, rfl, rfl, id⟩
  refine p.setExtents (fun d new => ?_) ⟨fun d inTable waits => ?_, fun d inTable c _ => ?_⟩
  · obtain ⟨d, inTable, rfl⟩ := List.mem_map.1 new
    split
    · next here =>
      simp only [Extent.at, Bool.and_eq_true, decide_eq_true_iff] at here
      obtain rfl := spread.unique inTable mem here.1 here.2
      exact .inr admitted
    · exact .inl ⟨d, inTable, .refl d⟩
  · obtain ⟨f, new, volume, first, -, dead⟩ := kept d inTable
    exact ⟨f, new, volume, first, dead waits.2.1⟩
  · obtain ⟨f, new, volume, first, mark, -⟩ := kept d inTable
    exact ⟨f, new, volume, first, mark⟩

/-! ### The removal of a record -/

/-- A LIVE record that only the scan that removes it waits at may leave the table. -/
theorem State.settled.removeMarked (p : s.settled b) (spread : s.spread) (mem : e ∈ s.extents) (live : e.death = none) (taken : (s.inCtx c).state ≠ .free)
    (volume : (s.inCtx c).volume = e.volume)
    (free : ∀ q ∈ (s.snapVol e.volume).producers, b.retrying ≠ some (e.volume, q) → ¬(q = .commit c ∨ q = .rollback c)) :
    (s.removeExtent e.volume e.first).settled b := by
  refine p.removeExtent fun d inTable sameVolume first => ?_
  obtain rfl := spread.unique inTable mem sameVolume first
  rintro (⟨-, dead, -⟩ | ⟨d, -, also, same, -, q, producer, of_d, active⟩)
  · exact dead live
  · by_cases here : c = d
    · subst here
      exact free q producer active of_d
    · exact p.alone c d here taken also (volume.trans same.symm)

/-- What a scan's operation on a record leaves: the context and the producers as they were, and no two records that share a block. -/
structure State.scanned (s t : State) (v : Vol) (c : Ctx) : Prop where
  ctx : t.inCtx c = s.inCtx c
  producers : (t.snapVol v).producers = (s.snapVol v).producers
  spread : t.spread

/-- A record's run joins the release list and the record goes (R151, R153). -/
theorem State.settled.removeReleased (p : s.settled b) (spread : s.spread) (removed : (releaseAppend e.volume e.run s).map (removeLive e) = some t) (mem : e ∈ s.extents)
    (live : e.death = none) (taken : (s.inCtx c).state ≠ .free) (volume : (s.inCtx c).volume = e.volume)
    (free : ∀ q ∈ (s.snapVol e.volume).producers, b.retrying ≠ some (e.volume, q) → ¬(q = .commit c ∨ q = .rollback c)) :
    t.settled b ∧ s.scanned t e.volume c ∧ t.extents = s.extents.filter fun d => !d.at e.volume e.first := by
  obtain ⟨w, appended, rfl⟩ := Option.map_eq_some_iff.1 removed
  obtain ⟨l, frame⟩ := releaseAppend_frame appended
  have extents : w.extents = s.extents := frame.extents
  have ctx : w.inCtx c = s.inCtx c := (noticesOnly_inCtx frame c).trans rfl
  have producers : (w.snapVol e.volume).producers = (s.snapVol e.volume).producers := quiet_producers.releaseAppend appended rfl
  have tables := sameTables_refundLive e (w.removeExtent e.volume e.first)
  have left : (removeLive e w).extents = s.extents.filter fun d => !d.at e.volume e.first := by
    rw [removeLive, tables.extents, State.removeExtent, extents_setExtents, extents]
  refine ⟨(quiet_settled b).removeLive ?_, ⟨(tables.inCtx c).trans ctx, ?_, spread.subset fun d mem => ?_⟩, left⟩
  · refine State.settled.removeMarked (c := c) ((quiet_settled b).releaseAppend appended p) (spread.subset fun d mem => extents ▸ mem) (extents ▸ mem) live ?_ ?_ ?_
    · rwa [ctx]
    · rwa [ctx]
    · rwa [producers]
  · exact quiet_producers.removeLive (s := w) producers
  · rw [left] at mem
    exact List.mem_of_mem_filter mem

/-- A commit scan holds or removes a marked record (R151). -/
theorem State.settled.commitRecord (p : s.settled b) (spread : s.spread) (decided : commitRecord c e s = some t) (mem : e ∈ s.extents) (live : e.death = none)
    (committing : (s.inCtx c).state = .committing) (volume : (s.inCtx c).volume = e.volume) (mark : e.mark = some ⟨(s.inCtx c).runId, .provDeath⟩)
    (holding : b.holding c e) : t.settled b ∧ s.scanned t e.volume c := by
  have taken : (s.inCtx c).state ≠ .free := by simp [committing]
  unfold Machine.commitRecord at decided
  split at decided
  · next protects =>
    obtain rfl := Option.some.inj decided
    have tables := (sameTables_refundLive e (s.updateExtent e.volume e.first fun x => { x with death := some (s.inCtx c).target })).trans
      (sameTables_chargeAccount (reserveIndex e.volume) (s.chargeOf e.volume e.len) 1 _)
    refine ⟨(quiet_settled b).holdRecord (p.hold spread mem committing volume mark holding protects), tables.inCtx c, quiet_producers.holdRecord rfl, ?_⟩
    refine spread.map (f := fun x => if x.at e.volume e.first then { x with death := some (s.inCtx c).target } else x) tables.extents fun d => ?_
    split <;> exact ⟨rfl, rfl⟩
  · obtain ⟨settled, scanned, -⟩ := p.removeReleased spread decided mem live taken volume fun q producer active of_c => by
      obtain rfl | rfl := of_c
      · exact active holding.1
      · exact nomatch committing.symm.trans ((p.producers e.volume).2 _ producer active).1
    exact ⟨settled, scanned⟩

end
end Sys2Proof.Machine
end

section
/-! The steps of a commit and of a rollback scan keep the invariant of the epochs and marks. -/
namespace Sys2Proof.Machine

section
variable {b : Bool} {s t : State} {v : Vol} {e : Extent} {c : Ctx} {n : Nat} {q : Producer}

/-! ### A record and the move past it -/

theorem inCtx_moveCursor (c : Ctx) (n : Nat) (s : State) : (moveCursor c n s).inCtx c = { s.inCtx c with cursor := n } := by
  rw [moveCursor, updateIn_eq, State.inCtx_setInCtx, if_pos rfl]

/-- A marked record at or above the cursor is LIVE. -/
theorem State.settled.live (p : s.settled ⟨b, none, 0⟩) (mem : e ∈ s.extents) {m : Mark} (mark : e.mark = some m) (taken : (s.inCtx c).state ≠ .free)
    (volume : (s.inCtx c).volume = e.volume) (above : (s.inCtx c).cursor ≤ e.first) : e.death = none := by
  obtain ⟨-, -, -, held, -⟩ := p.marks_at mem mark taken volume
  refine Decidable.not_not.1 fun dead => ?_
  obtain ⟨-, -, before | ⟨holding, -⟩⟩ := held dead
  · exact absurd above (Nat.not_le.2 before)
  · exact nomatch holding

/-- A scan has dealt with the record and stands behind it; what is said of its producer is still left out. -/
structure State.dealt (b : Bool) (s t : State) (v : Vol) (q : Producer) (n : Nat) (c : Ctx) : Prop where
  settled : t.settled ⟨b, some (v, q), n⟩
  beyond : n < (t.inCtx c).cursor
  producers : (t.snapVol v).producers = (s.snapVol v).producers
  spread : t.spread

theorem State.dealt.left (p : s.dealt b t v q n c) (of_c : q = .commit c ∨ q = .rollback c) : (producerLeave v q t).settled ⟨b, none, 0⟩ := by
  refine (p.settled.producerLeave fun trim => ?_).done (not_mem_producerLeave v q t) fun d commit => ?_
  · obtain rfl | rfl := of_c <;> exact nomatch trim
  · obtain rfl | rfl := of_c
    · exact Producer.commit.inj commit ▸ p.beyond
    · exact nomatch commit

theorem State.dealt.done (p : s.dealt b t v q n c) (of_c : q = .commit c ∨ q = .rollback c) (gone : q ∉ (s.snapVol v).producers) : t.settled ⟨b, none, 0⟩ := by
  refine p.settled.done (p.producers ▸ gone) fun d commit => ?_
  obtain rfl | rfl := of_c
  · exact Producer.commit.inj commit ▸ p.beyond
  · exact nomatch commit

theorem State.settled.commitDeals (p : s.settled ⟨b, none, 0⟩) (spread : s.spread) (mem : e ∈ s.extents) (committing : (s.inCtx c).state = .committing)
    (volume : (s.inCtx c).volume = e.volume) (mark : e.mark = some ⟨(s.inCtx c).runId, .provDeath⟩) (above : (s.inCtx c).cursor ≤ e.first)
    (decided : Machine.commitRecord c e s = some t) : s.dealt b (Machine.moveCursor c e.stop t) e.volume (.commit c) e.first c := by
  have taken : (s.inCtx c).state ≠ .free := by simp [committing]
  have live := p.live mem mark taken volume above
  obtain ⟨settled, ctx, producers, apart⟩ := (p.begin (some (e.volume, .commit c)) e.first).commitRecord spread decided mem live committing volume mark ⟨rfl, rfl⟩
  have len := spread.len e mem
  refine ⟨settled.moveCursor (ctx.symm ▸ taken) (ctx.symm ▸ above.trans (Nat.le_add_right ..)) (fun aborting => ?_) fun q mem active of_c => ?_, ?_, producers,
    ⟨apart.len, apart.apart⟩⟩
  · rw [ctx, committing] at aborting
    exact nomatch aborting
  · rw [ctx, volume] at mem active
    obtain rfl | rfl := of_c
    · exact active rfl
    · have ok := (p.producers e.volume).2 _ (producers ▸ mem) nofun
      exact nomatch committing.symm.trans ok.1
  · rw [inCtx_moveCursor]
    exact Nat.lt_add_of_pos_right len

theorem State.settled.rollbackDeals (p : s.settled ⟨b, none, 0⟩) (spread : s.spread) (mem : e ∈ s.extents) (aborting : (s.inCtx c).state = .aborting)
    (volume : (s.inCtx c).volume = e.volume) {k : MarkKind} (mark : e.mark = some ⟨(s.inCtx c).runId, k⟩) (above : (s.inCtx c).cursor ≤ e.first)
    (least : ∀ d ∈ s.extents, d.volume = e.volume → d.mark ≠ none → e.first ≤ d.first)
    (decided : rollbackRecord e s = some t) : s.dealt b (Machine.moveCursor c e.stop t) e.volume (.rollback c) e.first c := by
  have taken : (s.inCtx c).state ≠ .free := by simp [aborting]
  have live := p.live mem mark taken volume above
  have still : ∀ q ∈ (s.snapVol e.volume).producers, some (e.volume, Producer.rollback c) ≠ some (e.volume, q) → ¬(q = .commit c ∨ q = .rollback c) := by
    rintro q producer active (rfl | rfl)
    · exact nomatch aborting.symm.trans ((p.producers e.volume).2 _ producer nofun).1
    · exact active rfl
  obtain ⟨settled, ⟨ctx, producers, apart⟩, extents⟩ :=
    (p.begin (some (e.volume, .rollback c)) e.first).removeReleased spread decided mem live taken volume still
  have len := spread.len e mem
  refine ⟨settled.moveCursor (ctx.symm ▸ taken) (ctx.symm ▸ above.trans (Nat.le_add_right ..)) (fun _ d inTable at_v marked => ?_) ?_, ?_, producers,
    ⟨apart.len, apart.apart⟩⟩
  · rw [extents, List.mem_filter] at inTable
    rw [ctx, volume] at at_v
    obtain ⟨inTable, other⟩ := inTable
    refine spread.beyond inTable mem at_v (lt_of_le_of_ne (least d inTable at_v marked) fun same => ?_)
    simp [Extent.at, at_v, same] at other
  · rw [ctx, volume, producers]
    exact still
  · rw [inCtx_moveCursor]
    exact Nat.lt_add_of_pos_right len

/-! ### COMMIT_SCAN_STEP -/

theorem State.based.commitVisit (p : s.based ⟨b, none, 0⟩) (committing : (s.inCtx c).state = .committing) (still : .commit c ∉ (s.snapVol (s.inCtx c).volume).producers)
    (next : s.nextRecord (s.inCtx c).volume (s.inCtx c).cursor = some e) : (commitVisit c e s).settled ⟨b, none, 0⟩ := by
  obtain ⟨mem, volume, above⟩ := nextRecord_volume next
  have taken : (s.inCtx c).state ≠ .free := by simp [committing]
  have moves : ∀ n, (s.inCtx c).cursor ≤ n → (moveCursor c n s).settled ⟨b, none, 0⟩ := fun n up => by
    refine p.settled.moveCursor taken up (fun aborting => nomatch committing.symm.trans aborting) ?_
    rintro q producer active (rfl | rfl)
    · exact still producer
    · exact nomatch committing.symm.trans ((p.settled.producers _).2 _ producer active).1
  unfold Machine.commitVisit
  split
  · next marked =>
    rw [Extent.marked_iff] at marked
    split
    · next t decided =>
      exact (p.settled.commitDeals p.blocks.spread mem committing volume.symm marked above decided).done (.inl rfl) (volume ▸ still)
    · refine (moves _ above).producerWait ⟨?_, ?_, e, mem_records.2 ⟨mem, rfl⟩, ?_⟩ <;> rw [inCtx_moveCursor]
      · exact committing
      · exact volume.symm
      · exact ⟨rfl, marked⟩
  · exact moves _ (above.trans (Nat.le_add_right ..))

/-- A context whose run has marked no record leaves. -/
theorem State.settled.freeCtx (p : s.settled ⟨b, none, 0⟩) (unmarked : ∀ e ∈ s.extents, e.volume = (s.inCtx c).volume → e.mark = none)
    (free : ∀ q ∈ (s.snapVol (s.inCtx c).volume).producers, ¬(q = .commit c ∨ q = .rollback c)) : (s.setInCtx c .free).settled ⟨b, none, 0⟩ := by
  refine p.setInCtx (fun taken => absurd rfl taken) (fun e mem m mark marks => ?_) fun w q mem active of_c => ?_
  · exact nomatch mark.symm.trans (unmarked e mem marks.2.1.symm)
  · obtain rfl := p.producer_volume mem active of_c
    exact absurd of_c (free q mem)

/-! ### The end of a commit -/

/-- A volume's current epoch becomes `n`. -/
def State.advance (s : State) (v : Vol) (n : Nat) : State := s.setVol v { s.vol v with epoch := some n }

theorem advance_autoTrimStep (s : State) (v : Vol) (n : Nat) : (autoTrimStep v s).advance v n = autoTrimStep v (s.advance v n) := by
  have wanted : (s.advance v n).autoTrimWanted v = s.autoTrimWanted v := by
    unfold State.autoTrimWanted State.advance
    rw [State.vol_setVol, if_pos rfl]
    rfl
  have snaps : (s.advance v n).snapVol v = s.snapVol v := rfl
  unfold autoTrimStep
  rw [wanted, snaps]
  split
  · split <;> rfl
  · rfl

theorem advance_autoTrimAgain (s : State) (v : Vol) (n : Nat) : (autoTrimAgain v s).advance v n = autoTrimAgain v (s.advance v n) := by
  unfold autoTrimAgain
  change _ = if (s.snapVol v).auto = .stalled then _ else _
  split
  · exact advance_autoTrimStep s v n
  · rfl

theorem advance_leftUnheld (s : State) (v : Vol) (m n : Nat) : (leftUnheld v m s).advance v n = leftUnheld v m (s.advance v n) := by
  have same : (s.advance v n).snapAt v m = s.snapAt v m := rfl
  unfold leftUnheld
  rw [same]
  cases s.snapAt v m with
  | none => rfl
  | some x =>
    dsimp only
    split
    · exact advance_autoTrimAgain s v n
    · rfl

theorem advance_moveBase (s : State) (v : Vol) (m n : Nat) : (moveBase v m s).advance v n = moveBase v m (s.advance v n) := by
  have same : (s.advance v n).snapAt v m = s.snapAt v m := rfl
  have base : (s.advance v n).baseSnap v = s.baseSnap v := rfl
  have swap : ∀ (u : State) (l : Nat), (u.setVol v { u.vol v with baseLabel := some l }).advance v n =
      (u.advance v n).setVol v { (u.advance v n).vol v with baseLabel := some l } := fun u l => by
    simp only [State.advance, State.vol_setVol, if_pos, State.setVol_setVol]
  unfold moveBase
  rw [same, base]
  cases s.snapAt v m with
  | none => rfl
  | some x =>
    dsimp only
    split
    · rfl
    · split
      · rw [advance_leftUnheld, swap]
        rfl
      · exact swap _ _

end
end Sys2Proof.Machine
end

section
/-! The end of a commit scan and the steps of a rollback scan keep the invariant of the epochs and marks. -/
namespace Sys2Proof.Machine

section
variable {b : Bool} {s t : State} {v : Vol} {e : Extent} {c : Ctx} {n : Nat}

/-! ### What the end of a commit leaves alone -/

/-- The records and the inbound contexts are the same. -/
def State.sameRuns (s t : State) : Prop := t.extents = s.extents ∧ ∀ c, t.inCtx c = s.inCtx c

theorem State.sameRuns.trans {u : State} (st : s.sameRuns t) (tu : t.sameRuns u) : s.sameRuns u := ⟨tu.1.trans st.1, fun c => (tu.2 c).trans (st.2 c)⟩
theorem State.sameTables.runs (st : s.sameTables t) : s.sameRuns t := ⟨st.extents, st.inCtx⟩

theorem sameTables_autoTrimAgain (v : Vol) (s : State) : s.sameTables (autoTrimAgain v s) := by
  unfold autoTrimAgain
  split
  · exact sameTables_autoTrimStep v s
  · exact ⟨rfl, rfl⟩

theorem sameTables_leftUnheld (v : Vol) (m : Nat) (s : State) : s.sameTables (leftUnheld v m s) := by
  unfold leftUnheld
  split
  · split
    · exact sameTables_autoTrimAgain v s
    · exact ⟨rfl, rfl⟩
  · exact ⟨rfl, rfl⟩

theorem sameRuns_moveBase (v : Vol) (m : Nat) (s : State) : s.sameRuns (moveBase v m s) := by
  unfold moveBase
  split
  · exact ⟨rfl, fun _ => rfl⟩
  · dsimp only
    split
    · exact ⟨rfl, fun _ => rfl⟩
    · split
      · exact (sameTables_leftUnheld ..).runs
      · exact ⟨rfl, fun _ => rfl⟩

theorem sameTables_handControl (f : OutFrame) (s : State) : s.sameTables (handControl f s) := by
  unfold handControl
  split <;> exact ⟨rfl, rfl⟩

/-! ### The end of a commit -/

/-- A record as its inbound run commits (R151). -/
def Extent.unmarkedBy (e : Extent) (x : InCtx) : Extent :=
  if e.volume = x.volume ∧ (e.marked x.runId .provBirth || e.marked x.runId .provDeath) = true then { e with mark := none } else e

/-- A volume as the run `x` of it commits at the time `now`: the epoch, the target snapshot, and its records (R151). -/
def committedWith (x : InCtx) (now : Nat) (s : State) : State :=
  ((s.advance x.volume (x.target + 1)).setSnapVol x.volume { s.snapVol x.volume with
    commitPlace := none
    snaps := insertSnapshot ⟨x.target, x.target, now, true, false, false, 0⟩ (s.snapVol x.volume).snaps }).setExtents (s.extents.map (·.unmarkedBy x))

theorem Extent.unmarkedBy_same (e : Extent) (x : InCtx) : (e.unmarkedBy x).volume = e.volume ∧ (e.unmarkedBy x).first = e.first ∧ (e.unmarkedBy x).death = e.death := by
  unfold Extent.unmarkedBy
  split <;> exact ⟨rfl, rfl, rfl⟩

theorem Extent.unmarkedBy_other {x : InCtx} (other : e.volume ≠ x.volume) : e.unmarkedBy x = e := if_neg fun here => other here.1

/-- The records of the run's volume lose their marks. -/
theorem State.settled.unmarkedBy (p : s.settled ⟨b, none, 0⟩) (mem : e ∈ s.extents) (taken : (s.inCtx c).state ≠ .free) (volume : e.volume = (s.inCtx c).volume) :
    e.unmarkedBy (s.inCtx c) = { e with mark := none } := by
  unfold Extent.unmarkedBy
  split
  · rfl
  · next kept =>
    rw [not_and] at kept
    cases mark : e.mark with
    | none => rw [← mark]
    | some m =>
      obtain ⟨-, -, runId, -⟩ := p.marks_at mem mark taken volume.symm
      refine absurd ?_ (kept volume)
      rw [Bool.or_eq_true, Extent.marked_iff, Extent.marked_iff, mark, runId]
      obtain ⟨r, k⟩ := m
      cases k
      · exact .inl rfl
      · exact .inr rfl

theorem State.based.committedWith (p : s.based ⟨b, none, 0⟩) (committing : (s.inCtx c).state = .committing)
    (still : .commit c ∉ (s.snapVol (s.inCtx c).volume).producers) (now : Nat) : (committedWith (s.inCtx c) now s).settled ⟨b, none, 0⟩ := by
  have taken : (s.inCtx c).state ≠ .free := by simp [committing]
  obtain ⟨opened, replica, snapsBelow⟩ := p.snaps.inbound.2.1 c taken
  unfold Machine.committedWith
  generalize hv : (s.inCtx c).volume = v at *
  generalize ht : (s.advance v ((s.inCtx c).target + 1)).setSnapVol v _ = t
  have o : s.only t v := ht ▸ (s.only_setVol v _).trans (State.only_setSnapVol ..)
  have vol : t.vol v = { s.vol v with epoch := some ((s.inCtx c).target + 1) } := ht ▸ (State.vol_setVol ..).trans (if_pos rfl)
  have snap : t.snapVol v = { s.snapVol v with
      commitPlace := none
      snaps := insertSnapshot ⟨(s.inCtx c).target, (s.inCtx c).target, now, true, false, false, 0⟩ (s.snapVol v).snaps } := ht ▸ (State.snapVol_setSnapVol ..).trans (if_pos rfl)
  have entriesBelow : ∀ r ∈ (s.snapVol v).retire, r.epoch < (s.inCtx c).target := fun r entry => by
    obtain ⟨-, -, queued, -⟩ := p.snaps.retire v
    obtain ⟨z, mem, same⟩ := queued r entry
    exact same ▸ snapsBelow z mem
  have fits : ∀ e ∈ s.extents, e.volume = v → ∀ m, e.mark = m ∨ m = none → Extent.fits { e with mark := m } (t.vol v) := fun e mem at_v m change => by
    obtain ⟨⟨⟨defined, sourced, marked, lives⟩, -⟩, -, -, -, within, -⟩ := p.settled.records e mem
    obtain ⟨born, dies⟩ := within c taken (hv.trans at_v.symm)
    rw [at_v] at defined sourced
    rw [vol]
    refine ⟨⟨defined, sourced, fun _ => replica, lives⟩, fun n current => ?_, fun defined => absurd defined opened.state.2⟩
    obtain rfl : (s.inCtx c).target + 1 = n := Option.some.inj current
    exact ⟨fun _ => born.trans (Nat.le_succ _), fun _ d died => (dies d died).trans (Nat.le_succ _)⟩
  have more : ∀ z ∈ (s.snapVol v).snaps, ∃ w ∈ (t.snapVol v).snaps, w.epoch = z.epoch := fun z mem => ⟨z, by rw [snap]; exact mem_insertSnapshot.2 (.inr mem), rfl⟩
  have made : t.settled ⟨b, none, 0⟩ := by
    obtain ⟨idle, retiring, -, gate, -⟩ := p.settled.volumes v
    refine p.settled.volume o (fun e mem at_v => ?_) ?_ ?_ ?_ fun opened => ?_
    · obtain ⟨-, spanned, passed, -⟩ := p.settled.records e mem
      rw [at_v] at spanned passed
      exact ⟨fits e mem at_v e.mark (.inl rfl), spanned.mono more, fun also => (passed also).mono more (by rw [snap]) (by rw [snap])⟩
    · rw [snap]; exact p.settled.waits v
    · rw [show (t.snapVol v).producers = (s.snapVol v).producers by rw [snap]]
      exact ⟨(p.settled.producers v).1, fun q mem active => o.producerOk (fun _ => by rw [snap]) ((p.settled.producers v).2 q mem active)⟩
    · rw [vol, snap]
      refine ⟨idle, fun z mem active r entry same => ?_, fun n current => ?_, gate, fun _ => rfl⟩
      · obtain rfl | mem := mem_insertSnapshot.1 mem
        · exact absurd same (Nat.ne_of_lt (entriesBelow r entry))
        · exact retiring z mem active r entry same
      · obtain rfl : (s.inCtx c).target + 1 = n := Option.some.inj current
        refine ⟨fun z mem => ?_, fun r entry => (entriesBelow r entry).trans (Nat.lt_succ_self _)⟩
        obtain rfl | mem := mem_insertSnapshot.1 mem
        · exact Nat.lt_succ_self _
        · exact (snapsBelow z mem).trans (Nat.lt_succ_self _)
    · rw [vol]; exact ⟨opened, rfl⟩
  have role : (t.vol v).defn.role = .replica := by rw [vol]; exact replica
  refine made.setExtents (fun e new => ?_) ⟨fun d mem waits => ?_, fun d mem k scans => ?_⟩
  · obtain ⟨d, mem, rfl⟩ := List.mem_map.1 new
    by_cases at_v : d.volume = v
    · rw [p.settled.unmarkedBy mem taken (at_v.trans hv.symm)]
      obtain ⟨-, spanned, passed, -, within, -⟩ := made.records d (o.extents ▸ mem)
      refine .inr ⟨?_, spanned, passed, fun m mark => (nomatch mark), within, fun k => made.mayUndo_of_replica (e := { d with mark := none }) (at_v ▸ role) k⟩
      exact at_v ▸ fits d mem at_v none (.inr rfl)
    · rw [Extent.unmarkedBy_other (hv ▸ at_v)]
      exact .inl ⟨d, o.extents ▸ mem, .refl d⟩
  · obtain ⟨volume, first, death⟩ := d.unmarkedBy_same (s.inCtx c)
    exact ⟨_, List.mem_map_of_mem (o.extents ▸ mem), volume, first, death ▸ waits.2.1⟩
  · obtain ⟨-, also, volume, -, q, producer, of_k, -⟩ := scans
    rw [o.ctxs] at also volume
    refine ⟨d, List.mem_map.2 ⟨d, o.extents ▸ mem, Extent.unmarkedBy_other fun here => ?_⟩, rfl, rfl, rfl⟩
    by_cases same : c = k
    · subst same
      have producers : (t.snapVol v).producers = (s.snapVol v).producers := by rw [snap]
      rw [here, hv, producers] at producer
      obtain rfl | rfl := of_k
      · exact still producer
      · exact nomatch committing.symm.trans ((p.settled.producers v).2 _ producer nofun).1
    · exact p.settled.alone c k same taken also (here.symm.trans volume.symm)

theorem commitEnd_eq_committedWith (c : Ctx) (s : State) : commitEnd c s =
    let x := s.inCtx c
    let u := autoTrimAgain x.volume (moveBase x.volume x.target (committedWith x s.qu.clock s))
    (raise .inboundCommitted x.volume.val x.target (sendClosed c closedCommitted (u.setReplVol x.volume { u.replVol x.volume with
      last := some ⟨x.runId, x.peerId, x.peerAddr⟩ }))).setInCtx c .free := by
  unfold commitEnd
  dsimp only
  have advanced := advance_moveBase ((s.setExtents (s.extents.map (·.unmarkedBy (s.inCtx c)))).setSnapVol (s.inCtx c).volume { s.snapVol (s.inCtx c).volume with
    commitPlace := none
    snaps := insertSnapshot ⟨(s.inCtx c).target, (s.inCtx c).target, s.qu.clock, true, false, false, 0⟩ (s.snapVol (s.inCtx c).volume).snaps }) (s.inCtx c).volume
    (s.inCtx c).target ((s.inCtx c).target + 1)
  exact congrArg (fun u => (raise .inboundCommitted (s.inCtx c).volume.val (s.inCtx c).target (sendClosed c closedCommitted
    ((autoTrimAgain (s.inCtx c).volume u).setReplVol (s.inCtx c).volume { (autoTrimAgain (s.inCtx c).volume u).replVol (s.inCtx c).volume with
      last := some ⟨(s.inCtx c).runId, (s.inCtx c).peerId, (s.inCtx c).peerAddr⟩ }))).setInCtx c .free) advanced

theorem State.based.commitEnd (p : s.based ⟨b, none, 0⟩) (committing : (s.inCtx c).state = .committing)
    (still : .commit c ∉ (s.snapVol (s.inCtx c).volume).producers) : (commitEnd c s).settled ⟨b, none, 0⟩ := by
  have taken : (s.inCtx c).state ≠ .free := by simp [committing]
  have made := p.committedWith committing still s.qu.clock
  rw [commitEnd_eq_committedWith]
  dsimp only
  generalize hw : Machine.committedWith (s.inCtx c) s.qu.clock s = w at *
  generalize hu : autoTrimAgain (s.inCtx c).volume (moveBase (s.inCtx c).volume (s.inCtx c).target w) = u
  have runs : w.sameRuns u := hu ▸ (sameRuns_moveBase ..).trans (sameTables_autoTrimAgain ..).runs
  have settled : u.settled ⟨b, none, 0⟩ := hu ▸ (quiet_settled _).autoTrimAgain ((quiet_settled _).moveBase made)
  have producersW : (w.snapVol (s.inCtx c).volume).producers = (s.snapVol (s.inCtx c).volume).producers := by
    rw [← hw, Machine.committedWith, State.setExtents_snapVol, State.snapVol_setSnapVol, if_pos rfl]
  have producers : (u.snapVol (s.inCtx c).volume).producers = (s.snapVol (s.inCtx c).volume).producers :=
    hu ▸ quiet_producers.autoTrimAgain (quiet_producers.moveBase producersW)
  generalize hy : u.setReplVol (s.inCtx c).volume _ = y
  have logged : y.settled ⟨b, none, 0⟩ := hy ▸ (quiet_settled _).calmReplVol rfl id settled
  have producersY : (y.snapVol (s.inCtx c).volume).producers = (s.snapVol (s.inCtx c).volume).producers := hy ▸ producers
  have told := (sameTables_handControl ((y.inCtx c).frame .closed 0 closedCommitted) y).runs.trans
    (noticesOnly_raise .inboundCommitted (s.inCtx c).volume.val (s.inCtx c).target (sendClosed c closedCommitted y)).sameTables.runs
  have all : w.sameRuns (raise .inboundCommitted (s.inCtx c).volume.val (s.inCtx c).target (sendClosed c closedCommitted y)) :=
    runs.trans (State.sameRuns.trans ⟨hy ▸ rfl, fun _ => hy ▸ rfl⟩ told)
  have ctx := (all.2 c).trans (show w.inCtx c = s.inCtx c from hw ▸ rfl)
  refine ((quiet_settled _).raise ((quiet_settled _).sendClosed logged)).freeCtx (fun e mem at_v => ?_) fun q mem => ?_
  · rw [ctx] at at_v
    rw [all.1, ← hw] at mem
    obtain ⟨d, inTable, rfl⟩ := List.mem_map.1 mem
    rw [p.settled.unmarkedBy inTable taken ((d.unmarkedBy_same _).1.symm.trans at_v)]
  · rw [ctx, quiet_producers.raise (quiet_producers.sendClosed producersY)] at mem
    rintro (rfl | rfl)
    · exact still mem
    · exact nomatch committing.symm.trans ((p.settled.producers _).2 _ mem nofun).1

theorem State.producing_eq_false {q : Producer} (not : s.producing v q = false) : q ∉ (s.snapVol v).producers := by
  unfold State.producing at not
  intro mem
  rw [List.contains_iff_mem.2 mem] at not
  exact nomatch not

theorem State.based.commitScanStep (p : s.based ⟨b, none, 0⟩) : NextHas (State.settled ⟨b, none, 0⟩) (execCommitScanStep c s) := by
  unfold execCommitScanStep
  dsimp only
  split
  · next may =>
    obtain ⟨committing, still⟩ := may
    split
    · next next => exact .next (p.commitVisit committing (State.producing_eq_false still) next)
    · exact .next (p.commitEnd committing (State.producing_eq_false still))
  · exact .next p.settled

/-! ### ROLLBACK_SCAN_STEP -/

theorem State.based.rollbackVisit (p : s.based ⟨b, none, 0⟩) (aborting : (s.inCtx c).state = .aborting) (still : .rollback c ∉ (s.snapVol (s.inCtx c).volume).producers)
    (next : s.nextRecord (s.inCtx c).volume (s.inCtx c).cursor = some e) : (rollbackVisit c e s).settled ⟨b, none, 0⟩ := by
  obtain ⟨mem, volume, above⟩ := nextRecord_volume next
  have taken : (s.inCtx c).state ≠ .free := by simp [aborting]
  have spread := p.blocks.spread
  have free : ∀ q ∈ (s.snapVol (s.inCtx c).volume).producers, ¬(q = .commit c ∨ q = .rollback c) := by
    rintro q producer (rfl | rfl)
    · exact nomatch aborting.symm.trans ((p.settled.producers _).2 _ producer nofun).1
    · exact still producer
  have least : ∀ d ∈ s.extents, d.volume = e.volume → d.mark ≠ none → e.first ≤ d.first := fun d inTable at_v marked => by
    obtain ⟨m, mark⟩ := Option.ne_none_iff_exists'.1 marked
    have at_c := at_v.trans volume
    obtain ⟨-, -, -, -, walked⟩ := p.settled.marks_at inTable mark taken at_c.symm
    exact nextRecord_least p.blocks.order next inTable at_c (walked aborting).2
  have moves : ∀ n, (s.inCtx c).cursor ≤ n → (∀ d ∈ s.extents, d.volume = (s.inCtx c).volume → d.mark ≠ none → n ≤ d.first) →
      (moveCursor c n s).settled ⟨b, none, 0⟩ := fun n up walks => p.settled.moveCursor taken up (fun _ => walks) fun q producer _ => free q producer
  have behind : ∀ t : State, (∀ d ∈ t.extents, d.mark ≠ none → d ∈ s.extents ∧ d ≠ e) → ∀ d ∈ t.extents, d.volume = (s.inCtx c).volume → d.mark ≠ none →
      e.stop ≤ d.first := fun t others d new at_v marked => by
    obtain ⟨inTable, other⟩ := others d new marked
    have sameVolume := at_v.trans volume.symm
    exact spread.beyond inTable mem sameVolume (lt_of_le_of_ne (least d inTable sameVolume marked) fun same => other (spread.unique inTable mem sameVolume same.symm))
  unfold Machine.rollbackVisit
  dsimp only
  split
  · next marked =>
    rw [Extent.marked_iff] at marked
    split
    · next t decided =>
      exact (p.settled.rollbackDeals spread mem aborting volume.symm marked above least decided).done (.inr rfl) (volume ▸ still)
    · refine State.settled.producerWait (moves _ above fun d inTable at_v => least d inTable (at_v.trans volume.symm)) ⟨?_, ?_, e, mem_records.2 ⟨mem, rfl⟩, ?_⟩ <;>
        rw [inCtx_moveCursor]
      · exact aborting
      · exact volume.symm
      · exact ⟨rfl, marked⟩
  · next born =>
    split
    · next marked =>
      rw [Extent.marked_iff] at marked
      have live := p.settled.live mem marked taken volume.symm above
      obtain ⟨opened, replica⟩ := p.settled.inbound c taken
      have unmarked : (s.updateExtent e.volume e.first fun z => { z with mark := none }).settled ⟨b, none, 0⟩ := by
        refine p.settled.setExtents (fun d new => ?_) (State.keeps_of_like fun d inTable awaited => ⟨_, List.mem_map_of_mem inTable, ?_⟩)
        · obtain ⟨d, inTable, rfl⟩ := List.mem_map.1 new
          split
          · next here =>
            simp only [Extent.at, Bool.and_eq_true, decide_eq_true_iff] at here
            obtain rfl := spread.unique inTable mem here.1 here.2
            obtain ⟨⟨⟨defined, sourced, -, lives⟩, epochs, seen⟩, spanned, passed, -, within, -⟩ := p.settled.records d mem
            refine .inr ⟨⟨⟨defined, sourced, fun _ => volume ▸ replica, lives⟩, fun n current => ⟨fun _ => (epochs n current).1 (by simp [marked]), ?_⟩, seen⟩, spanned, passed,
              fun m mark => (nomatch mark), within, fun k => p.settled.mayUndo_of_replica (e := { d with mark := none }) (volume ▸ replica) k⟩
            exact fun _ k died => nomatch live.symm.trans died
          · exact .inl ⟨d, inTable, .refl d⟩
        · split
          · next here =>
            simp only [Extent.at, Bool.and_eq_true, decide_eq_true_iff] at here
            obtain rfl := spread.unique inTable mem here.1 here.2
            obtain ⟨-, dead, -⟩ | ⟨k, -, also, same, -, q, producer, of_k, -⟩ := awaited
            · exact absurd live dead
            · by_cases is : c = k
              · subst is
                exact absurd of_k (free q (volume ▸ producer))
              · exact absurd (volume.symm.trans same.symm) (p.settled.alone c k is taken also)
          · exact .refl d
      refine unmarked.moveCursor taken (above.trans (Nat.le_add_right ..)) (fun _ => behind _ fun d new mark => ?_) fun q producer _ => free q producer
      obtain ⟨d, inTable, rfl⟩ := List.mem_map.1 new
      split at mark
      · exact absurd rfl mark
      · next there =>
        rw [if_neg there]
        refine ⟨inTable, fun same => there ?_⟩
        subst same
        simp [Extent.at]
    · next died =>
      refine moves _ (above.trans (Nat.le_add_right ..)) (behind s fun d inTable marked => ⟨inTable, fun same => ?_⟩)
      subst same
      obtain ⟨⟨r, k⟩, mark⟩ := Option.ne_none_iff_exists'.1 marked
      obtain ⟨-, -, runId, -⟩ := p.settled.marks_at inTable mark taken volume.symm
      rw [Extent.marked_iff, mark, runId] at born died
      cases k
      · exact born rfl
      · exact died rfl

theorem State.based.rollbackWalked (p : s.based ⟨b, none, 0⟩) (aborting : (s.inCtx c).state = .aborting) (still : .rollback c ∉ (s.snapVol (s.inCtx c).volume).producers)
    (next : s.nextRecord (s.inCtx c).volume (s.inCtx c).cursor = none) : (rollbackWalked c s).settled ⟨b, none, 0⟩ := by
  have taken : (s.inCtx c).state ≠ .free := by simp [aborting]
  have free : ∀ q ∈ (s.snapVol (s.inCtx c).volume).producers, ¬(q = .commit c ∨ q = .rollback c) := by
    rintro q producer (rfl | rfl)
    · exact nomatch aborting.symm.trans ((p.settled.producers _).2 _ producer nofun).1
    · exact still producer
  have unmarked : ∀ e ∈ s.extents, e.volume = (s.inCtx c).volume → e.mark = none := fun e mem at_v => by
    refine Decidable.not_not.1 fun marked => ?_
    obtain ⟨m, mark⟩ := Option.ne_none_iff_exists'.1 marked
    obtain ⟨-, -, -, -, walked⟩ := p.settled.marks_at mem mark taken at_v.symm
    exact absurd (walked aborting).2 (Nat.not_le.2 (nextRecord_none next mem at_v))
  unfold Machine.rollbackWalked
  split
  · refine p.settled.setInCtx (fun _ => p.settled.seats taken rfl rfl (p.settled.births c taken)) (fun e mem m mark marks => ?_) fun w q mem active of_c => ?_
    · exact nomatch mark.symm.trans (unmarked e mem marks.2.1.symm)
    · obtain rfl := p.settled.producer_volume mem active of_c
      exact absurd of_c (free q mem)
  · have told := (noticesOnly_raise .inboundAborted (s.inCtx c).volume.val ((s.inCtx c).reason.getD 0) s).sameTables.runs
    refine ((quiet_settled _).raise p.settled).freeCtx (fun e mem at_v => ?_) fun q mem => ?_
    · rw [told.2] at at_v
      exact unmarked e (told.1 ▸ mem) at_v
    · rw [told.2, quiet_producers.raise rfl] at mem
      exact free q mem

theorem State.based.rollbackScanStep (p : s.based ⟨b, none, 0⟩) : NextHas (State.settled ⟨b, none, 0⟩) (execRollbackScanStep c s) := by
  unfold execRollbackScanStep
  dsimp only
  split
  · next may =>
    obtain ⟨aborting, -, still⟩ := may
    split
    · next next => exact .next (p.rollbackVisit aborting (State.producing_eq_false still) next)
    · next next => exact .next (p.rollbackWalked aborting (State.producing_eq_false still) next)
  · exact .next p.settled

end
end Sys2Proof.Machine
end

section
/-! The producers that retry when a release list has been taken, and REPLICA_RESET, keep the invariant of the epochs and marks. -/
namespace Sys2Proof.Machine

section
variable {b : Scope} {s t : State} {v : Vol} {e : Extent} {c : Ctx} {n : Nat} {q : Producer}

/-! ### The resets -/

/-- A REPLICA_RESET changes, with a run to append while it waits. -/
theorem State.settled.setReplVol (p : s.settled b) {x : ReplVol}
    (reset : .reset ∈ (s.snapVol v).producers → b.retrying ≠ some (v, .reset) → ∃ j ∈ x.reset, j.emptied = true ∧ j.outgoing ≠ []) : (s.setReplVol v x).settled b where
  records e mem := { p.records e mem with }
  waits := p.waits
  producers w := by
    refine ⟨(p.producers w).1, fun q mem active => ?_⟩
    have ok := (p.producers w).2 q mem active
    cases q with
    | trim => exact ok
    | commit c => exact ok
    | rollback c => exact ok
    | reset =>
      rw [State.producerOk, State.replVol_setReplVol]
      split
      · next here => subst here; exact reset mem active
      · exact ok
  births := p.births
  volumes := p.volumes
  inbound := p.inbound
  alone := p.alone
  flights := p.flights

theorem State.settled.resetEnd (p : s.settled b) (j : ResetJob) (free : .reset ∈ (s.snapVol v).producers → b.retrying = some (v, .reset)) : (resetEnd v j s).settled b :=
  (quiet_settled b).answerIf (p.setReplVol fun mem active => absurd (free mem) active)

theorem State.settled.resetAppend (p : s.settled b) {j : ResetJob} (appended : resetAppend v j s = some t)
    (free : .reset ∈ (s.snapVol v).producers → b.retrying = some (v, .reset)) : t.settled b := by
  unfold Machine.resetAppend at appended
  split at appended
  · exact Option.some.inj appended ▸ p.resetEnd j free
  · obtain ⟨u, joined, rfl⟩ := Option.map_eq_some_iff.1 appended
    have after := (quiet_settled b).releaseAppend joined p
    have still : .reset ∈ (u.snapVol v).producers → b.retrying = some (v, .reset) := by
      rw [quiet_producers.releaseAppend joined rfl]
      exact free
    dsimp only
    split
    · exact after.resetEnd _ still
    · exact after.setReplVol fun mem active => absurd (still mem) active

end

section
variable {b : Bool} {s t : State} {v : Vol} {e : Extent} {c : Ctx} {n : Nat} {q : Producer}

theorem State.based.not_resetting (p : s.based ⟨b, none, 0⟩) (unready : ∀ j ∈ (s.replVol v).reset, j.emptied = false) : .reset ∉ (s.snapVol v).producers := fun waits => by
  obtain ⟨j, job, emptied, -⟩ := (p.settled.producers v).2 .reset waits nofun
  exact Bool.noConfusion (emptied.symm.trans (unready j job))

theorem State.based.reqReplicaReset (p : s.based ⟨b, none, 0⟩) {r : RingNo} {tag n : Nat} : (reqReplicaReset r tag n s).settled ⟨b, none, 0⟩ := by
  refine (quiet_settled _).reqReplicaReset (fun passed => ?_) p.settled
  generalize toVol n = v at passed
  have none : (s.replVol v).reset = none := by
    unfold State.resetRefused at passed
    exact Option.isSome_eq_false_iff.1 (Bool.or_eq_false_iff.1 passed).2 |> Option.isNone_iff_eq_none.1
  have free : .reset ∉ (s.snapVol v).producers := p.not_resetting (by simp [none])
  have begun := p.settled.setReplVol (x := { s.replVol v with reset := some ⟨some (r, tag), false, [], 0, 0, 0⟩ }) fun mem => absurd mem free
  unfold Machine.resetAccept
  dsimp only
  split
  · exact (quiet_settled _).abortCtx begun
  · exact begun

/-- A volume without an inbound run loses its records, its snapshots and its retire queue (R154). -/
theorem State.based.emptied (p : s.based ⟨b, none, 0⟩) (alone : s.ctxOf v.val = none) : (emptied v s).settled ⟨b, none, 0⟩ := by
  generalize ha : s.setSnapVol v { s.snapVol v with
    trim := .idle, retire := [], auto := .off, producers := (s.snapVol v).producers.filter fun q => decide (q ≠ .trim) } = a
  have oa : s.only a v := ha ▸ State.only_setSnapVol ..
  have here : a.snapVol v = { s.snapVol v with
      trim := .idle, retire := [], auto := .off, producers := (s.snapVol v).producers.filter fun q => decide (q ≠ .trim) } :=
    ha ▸ (State.snapVol_setSnapVol ..).trans (if_pos rfl)
  have idle : a.settled ⟨b, none, 0⟩ := by
    obtain ⟨-, -, below, gate, dated⟩ := p.settled.volumes v
    refine p.settled.volume oa (fun e mem at_v => ?_) ?_ ?_ ?_ fun opened => ⟨ha ▸ opened, ha ▸ rfl⟩
    · obtain ⟨fits, spanned, -⟩ := p.settled.records e mem
      rw [at_v] at fits spanned
      rw [here]
      exact ⟨ha ▸ fits, spanned, fun _ _ _ _ place => nomatch place⟩
    · rw [here]; exact fun none => absurd rfl none
    · rw [show (a.snapVol v).producers = (s.snapVol v).producers.filter fun q => decide (q ≠ .trim) by rw [here]]
      refine ⟨(p.settled.producers v).1.filter _, fun q mem active => ?_⟩
      rw [List.mem_filter, decide_eq_true_iff] at mem
      exact oa.producerOk (fun trim => absurd trim mem.2) ((p.settled.producers v).2 q mem.1 active)
    · rw [here, show a.vol v = s.vol v from ha ▸ rfl]
      exact ⟨fun _ => rfl, fun _ _ _ _ entry => (nomatch entry), fun n current => ⟨(below n current).1, fun _ entry => nomatch entry⟩, gate, dated⟩
  have cleared : (a.setExtents (s.extents.filter fun e => decide (e.volume ≠ v))).settled ⟨b, none, 0⟩ := by
    rw [← oa.extents]
    refine idle.setExtents (fun e mem => .inl ⟨e, List.mem_of_mem_filter mem, .refl e⟩) (State.keeps_of_like fun d mem awaited => ⟨d, List.mem_filter.2 ⟨mem, ?_⟩, .refl d⟩)
    refine decide_eq_true fun at_v => ?_
    obtain ⟨-, -, waiting⟩ | ⟨k, -, taken, volume, -⟩ := awaited
    · rw [at_v, here] at waiting
      exact nomatch waiting
    · rw [oa.ctxs] at taken volume
      have some := State.ctxOf_isSome_iff.2 ⟨k, taken, volume.trans at_v⟩
      rw [alone] at some
      exact nomatch some
  have gone : ((withoutSnapshots v s).setExtents (s.extents.filter fun e => decide (e.volume ≠ v))).settled ⟨b, none, 0⟩ := by
    generalize ht : (withoutSnapshots v s).setExtents (s.extents.filter fun e => decide (e.volume ≠ v)) = t
    have snap : t.snapVol v = { s.snapVol v with
        trim := .idle, retire := [], snaps := [], auto := .off, producers := (s.snapVol v).producers.filter fun q => decide (q ≠ .trim) } :=
      ht ▸ (State.snapVol_setSnapVol ..).trans (if_pos rfl)
    have o : (a.setExtents (s.extents.filter fun e => decide (e.volume ≠ v))).only t v := by
      refine ⟨ht ▸ rfl, fun _ _ => ht ▸ ha ▸ rfl, fun w other => ?_, fun _ => ht ▸ ha ▸ rfl, fun _ => ht ▸ ha ▸ rfl, fun _ => ht ▸ ha ▸ rfl⟩
      rw [State.setExtents_snapVol, oa.snaps w other, ← ht, State.setExtents_snapVol, withoutSnapshots, State.snapVol_setSnapVol, if_neg other.symm]
    obtain ⟨-, -, -, gate, dated⟩ := p.settled.volumes v
    obtain ⟨-, -, below, -⟩ := p.settled.volumes v
    refine cleared.volume o (fun e mem at_v => ?_) ?_ ?_ ?_ fun opened => ?_
    · exact absurd at_v (of_decide_eq_true (List.mem_filter.1 mem).2)
    · rw [snap]; exact fun none => absurd rfl none
    · have producers : (t.snapVol v).producers = (a.snapVol v).producers := by rw [snap, here]
      rw [producers]
      refine ⟨(cleared.producers v).1, fun q mem active => o.producerOk (fun _ => ?_) ((cleared.producers v).2 q mem active)⟩
      rw [snap, State.setExtents_snapVol, here]
    · rw [snap, show t.vol v = s.vol v from ht ▸ rfl]
      exact ⟨fun _ => rfl, fun _ mem => (nomatch mem), fun _ _ => ⟨fun _ mem => (nomatch mem), fun _ entry => nomatch entry⟩, gate, dated⟩
    · subst ht ha
      exact ⟨opened, rfl⟩
  obtain ⟨m, u, frame⟩ := resetSnapshots_frame v s
  rw [Machine.emptied, frame]
  exact gone.calm_of_same (t := (((withoutSnapshots v s).setMem m).setRiu u |>.setVol v { s.vol v with baseLabel := none }).setExtents _)
    { State.calm_setVol (s := ((withoutSnapshots v s).setExtents (s.extents.filter fun e => decide (e.volume ≠ v)))) (v := v) (x := { s.vol v with baseLabel := none })
        ⟨rfl, rfl, rfl, .inl rfl⟩ with } rfl

/-! ### The later stages of a REPLICA_RESET -/

theorem producers_emptied (v : Vol) (s : State) : ((emptied v s).snapVol v).producers = (s.snapVol v).producers.filter fun q => decide (q ≠ .trim) := by
  obtain ⟨m, u, frame⟩ := resetSnapshots_frame v s
  rw [Machine.emptied, frame]
  exact congrArg SnapVol.producers ((State.snapVol_setSnapVol ..).trans (if_pos rfl))

theorem State.based.resetEmpty (p : s.based ⟨b, none, 0⟩) {j : ResetJob} (job : (s.replVol v).reset = some j) (waits : j.emptied = false) (alone : s.ctxOf v.val = none) :
    (resetEmpty v j s).settled ⟨b, none, 0⟩ := by
  obtain ⟨m, u, frame⟩ := resetSnapshots_frame v s
  have filtered : (resetSnapshots v s).setExtents ((resetSnapshots v s).extents.filter fun e => decide (e.volume ≠ v)) = Machine.emptied v s := by
    have same : (resetSnapshots v s).extents = s.extents := by rw [frame]; rfl
    rw [Machine.emptied, same]
  have free : .reset ∉ ((Machine.emptied v s).snapVol v).producers := fun mem => by
    rw [producers_emptied] at mem
    refine p.not_resetting (fun k is => ?_) (List.mem_of_mem_filter mem)
    exact Option.some.inj (job.symm.trans is) ▸ waits
  unfold Machine.resetEmpty
  dsimp only
  rw [filtered]
  generalize hk : refundAccount (reserveIndex v) _ _ (refundAccount (landingIndex v) _ _ (Machine.emptied v s)) = k
  have settled : k.settled ⟨b, none, 0⟩ := hk ▸ (quiet_settled _).refundAccount ((quiet_settled _).refundAccount (p.emptied alone))
  have still : .reset ∉ (k.snapVol v).producers := by
    rw [← hk, quiet_producers.refundAccount (quiet_producers.refundAccount rfl)]
    exact free
  have kept := fun x => settled.setReplVol (v := v) (x := x) fun mem => absurd mem still
  split
  · exact (kept _).resetEnd _ fun mem => absurd mem still
  · exact kept _

theorem State.based.replicaResetEmpty (p : s.based ⟨b, none, 0⟩) : NextHas (State.settled ⟨b, none, 0⟩) (execReplicaResetEmpty v s) := by
  unfold execReplicaResetEmpty
  split
  · next job =>
    split
    · next may => exact .next (p.resetEmpty job may.1 (Option.isNone_iff_eq_none.1 may.2))
    · exact .next p.settled
  · exact .next p.settled

theorem State.based.replicaResetAppend (p : s.based ⟨b, none, 0⟩) : NextHas (State.settled ⟨b, none, 0⟩) (execReplicaResetAppend v s) := by
  unfold execReplicaResetAppend
  split
  · next j job =>
    split
    · next may =>
      split
      · next appended => exact .next (p.settled.resetAppend appended fun mem => absurd mem (State.producing_eq_false may.2))
      · next full =>
        refine .next (p.settled.producerWait ⟨j, job, may.1, fun none => ?_⟩)
        unfold Machine.resetAppend at full
        rw [none] at full
        exact nomatch full
    · exact .next p.settled
  · exact .next p.settled

/-! ### TAKE_RELEASED -/

theorem recordAt_of_mem (spread : s.spread) (mem : e ∈ s.extents) : s.recordAt e.volume e.first = some e := by
  cases found : s.recordAt e.volume e.first with
  | none =>
    have := List.find?_eq_none.1 found e mem
    simp [Extent.at] at this
  | some d =>
    obtain ⟨inTable, volume, first⟩ := State.recordAt_eq_some found
    rw [spread.unique inTable mem volume first]

/-- The retry of a producer keeps the invariant, and leaves no two records that share a block. -/
structure State.ready (b : Bool) (s : State) : Prop where
  settled : s.settled ⟨b, none, 0⟩
  spread : s.spread

theorem State.ready.trimRetry (p : s.ready b) (waits : .trim ∈ (s.snapVol v).producers) (retried : trimRetry v s = some t) :
    (producerLeave v .trim t).ready b ∧ (t.snapVol v).producers = (s.snapVol v).producers := by
  obtain ⟨d, -, waiting⟩ := (p.settled.producers v).2 .trim waits nofun
  have retire : (s.snapVol v).retire ≠ [] := fun none => nomatch waiting.symm.trans ((p.settled.volumes v).idle none)
  obtain ⟨r, front⟩ := Option.ne_none_iff_exists'.1 (List.head?_eq_none_iff.not.2 retire)
  obtain ⟨-, record⟩ := p.settled.waits v retire _ waiting
  obtain ⟨e, inList, first, dead⟩ := record nofun
  obtain ⟨mem, rfl⟩ := mem_records.1 inList
  unfold Machine.trimRetry at retried
  rw [waiting] at retried
  dsimp only at retried
  rw [← first, recordAt_of_mem p.spread mem] at retried
  dsimp only at retried
  split at retried
  · next w removed =>
    obtain rfl := Option.some.inj retried
    have scans : (s.snapVol e.volume).scansAs (s.snapVol e.volume).producers (.waiting e.first) r.epoch := ⟨rfl, by rw [waiting, first], by rw [front]; rfl⟩
    obtain ⟨settled, ⟨producers, trim, entries⟩, extents⟩ := (p.settled.begin (some (e.volume, .trim)) 0).trimRemove removed mem p.spread dead scans (.inl rfl)
    have inTable : ∀ f ∈ w.extents, f ∈ s.extents ∧ ¬f.at e.volume e.first = true := fun f new => by
      rw [extents, List.mem_filter, Bool.not_eq_true'] at new
      exact ⟨new.1, by simp [new.2]⟩
    have scanned : (w.setTrim e.volume (.scanning e.stop)).settled ⟨b, some (e.volume, .trim), 0⟩ := by
      refine settled.scan (fun none => by simp [none] at entries) (fun _ => rfl) fun also f new at_v => ?_
      refine (at_v ▸ (settled.records f new).passed also).moved (n := e.first) (by rw [trim]; rfl) rfl fun below => ?_
      obtain ⟨old, other⟩ := inTable f new
      obtain before | rfl := p.spread.before old mem at_v below
      · exact .inl before
      · exact absurd (by simp [Extent.at]) other
    have here : (w.setTrim e.volume (.scanning e.stop)).snapVol e.volume = { w.snapVol e.volume with trim := .scanning e.stop } :=
      (State.snapVol_setSnapVol ..).trans (if_pos rfl)
    have left := scanned.producerLeave (v := e.volume) (q := .trim) fun _ m scan => by
      rw [here] at scan
      exact nomatch scan
    exact ⟨⟨left.done (not_mem_producerLeave _ _ _) nofun, p.spread.subset fun f new => (inTable f new).1⟩, by rw [here]; exact producers⟩
  · exact nomatch retried

theorem State.dealt.ready (p : s.dealt b t v q n c) (of_c : q = .commit c ∨ q = .rollback c) : (producerLeave v q t).ready b :=
  ⟨p.left of_c, ⟨p.spread.len, p.spread.apart⟩⟩

theorem State.ready.commitRetry (p : s.ready b) (waits : .commit c ∈ (s.snapVol v).producers) (retried : commitRetry v c s = some t) :
    (producerLeave v (.commit c) t).ready b ∧ (t.snapVol v).producers = (s.snapVol v).producers := by
  obtain ⟨committing, volume, e, inList, first, mark⟩ := (p.settled.producers v).2 _ waits nofun
  obtain ⟨mem, rfl⟩ := mem_records.1 inList
  unfold Machine.commitRetry at retried
  rw [← first, recordAt_of_mem p.spread mem] at retried
  obtain ⟨w, decided, rfl⟩ := Option.map_eq_some_iff.1 retried
  have deals := p.settled.commitDeals p.spread mem committing volume mark (Nat.le_of_eq first.symm) decided
  exact ⟨deals.ready (.inl rfl), deals.producers⟩

theorem State.ready.rollbackRetry (p : s.ready b) (waits : .rollback c ∈ (s.snapVol v).producers) (retried : rollbackRetry v c s = some t) :
    (producerLeave v (.rollback c) t).ready b ∧ (t.snapVol v).producers = (s.snapVol v).producers := by
  obtain ⟨aborting, volume, e, inList, first, mark⟩ := (p.settled.producers v).2 _ waits nofun
  obtain ⟨mem, rfl⟩ := mem_records.1 inList
  unfold Machine.rollbackRetry at retried
  rw [← first, recordAt_of_mem p.spread mem] at retried
  obtain ⟨w, decided, rfl⟩ := Option.map_eq_some_iff.1 retried
  have deals := p.settled.rollbackDeals p.spread mem aborting volume mark (Nat.le_of_eq first.symm) (fun d inTable at_v marked => by
    obtain ⟨m, mark⟩ := Option.ne_none_iff_exists'.1 marked
    obtain ⟨-, -, -, -, walked⟩ := p.settled.marks_at inTable mark (by simp [aborting]) (volume.trans at_v.symm)
    exact first.trans_le (walked aborting).2) decided
  exact ⟨deals.ready (.inr rfl), deals.producers⟩

theorem extents_answerIf (d : Option (RingNo × Nat)) (f : Nat → Answer) (s : State) : (answerIf d f s).extents = s.extents := by
  unfold answerIf
  split
  · exact answer_extents ..
  · rfl

theorem extents_resetAppend {j : ResetJob} (appended : resetAppend v j s = some t) : t.extents = s.extents := by
  unfold resetAppend at appended
  split at appended
  · exact Option.some.inj appended ▸ extents_answerIf ..
  · obtain ⟨u, joined, rfl⟩ := Option.map_eq_some_iff.1 appended
    obtain ⟨l, frame⟩ := releaseAppend_frame joined
    have extents : u.extents = s.extents := frame.extents
    dsimp only
    split
    · exact (extents_answerIf ..).trans extents
    · exact extents

theorem producers_resetAppend {j : ResetJob} (appended : resetAppend v j s = some t) : (t.snapVol v).producers = (s.snapVol v).producers := by
  unfold resetAppend at appended
  have ends : ∀ {u : State} {i : ResetJob}, (u.snapVol v).producers = (s.snapVol v).producers → ((resetEnd v i u).snapVol v).producers = (s.snapVol v).producers :=
    fun same => quiet_producers.answerIf same
  split at appended
  · exact Option.some.inj appended ▸ ends rfl
  · obtain ⟨u, joined, rfl⟩ := Option.map_eq_some_iff.1 appended
    have same := quiet_producers.releaseAppend joined (rfl : (s.snapVol v).producers = _)
    dsimp only
    split
    · exact ends same
    · exact same

theorem State.ready.resetRetry (p : s.ready b) (waits : .reset ∈ (s.snapVol v).producers) (retried : resetRetry v s = some t) :
    (producerLeave v .reset t).ready b ∧ (t.snapVol v).producers = (s.snapVol v).producers := by
  obtain ⟨j, job, -⟩ := (p.settled.producers v).2 .reset waits nofun
  unfold Machine.resetRetry at retried
  rw [Option.mem_def.1 job] at retried
  have appended := (p.settled.begin (some (v, .reset)) 0).resetAppend retried fun _ => rfl
  refine ⟨⟨(appended.producerLeave (v := v) (q := .reset) fun trim => nomatch trim).done (not_mem_producerLeave _ _ _) nofun, p.spread.subset fun e mem => ?_⟩, producers_resetAppend retried⟩
  exact extents_resetAppend retried ▸ mem

/-- A producer that retries keeps the others waiting (R66). -/
theorem State.ready.retryOne (p : s.ready b) (waits : q ∈ (s.snapVol v).producers) :
    (retryOne v s q).ready b ∧ ∀ r ∈ (s.snapVol v).producers, r ≠ q → r ∈ ((retryOne v s q).snapVol v).producers := by
  unfold Machine.retryOne
  split
  · next t retried =>
    have left : (Machine.producerLeave v q t).ready b ∧ (t.snapVol v).producers = (s.snapVol v).producers := by
      cases q with
      | trim => exact p.trimRetry waits retried
      | commit c => exact p.commitRetry waits retried
      | rollback c => exact p.rollbackRetry waits retried
      | reset => exact p.resetRetry waits retried
    obtain ⟨ready, producers⟩ := left
    refine ⟨ready, fun r mem other => ?_⟩
    rw [producers_producerLeave, producers]
    exact List.mem_filter.2 ⟨mem, decide_eq_true other⟩
  · exact ⟨p, fun _ mem _ => mem⟩

theorem State.ready.retryAll (l : List Producer) : ∀ {s : State}, s.ready b → l.Nodup → (∀ q ∈ l, q ∈ (s.snapVol v).producers) → (l.foldl (Machine.retryOne v) s).ready b := by
  induction l with
  | nil => exact fun p _ _ => p
  | cons q l ih =>
    intro s p distinct waits
    obtain ⟨ready, others⟩ := p.retryOne (waits q List.mem_cons_self)
    obtain ⟨absent, distinct⟩ := List.nodup_cons.1 distinct
    exact ih ready distinct fun r mem => others r (waits r (List.mem_cons_of_mem _ mem)) fun same => absent (same ▸ mem)

theorem State.based.takeComplete (p : s.based ⟨b, none, 0⟩) {x : Taking} : (takeComplete v x s).settled ⟨b, none, 0⟩ := by
  unfold Machine.takeComplete Machine.retryProducers
  dsimp only
  generalize hu : (s.writeBytes x.buffer _).setSnapVol v _ = u
  have settled : u.settled ⟨b, none, 0⟩ := hu ▸ ((quiet_settled _).writeBytes p.settled).calm_of_same (State.calm_setSnapVol (by
    rw [State.writeBytes, State.setMem_snapVol]
    exact ⟨rfl, rfl, rfl, rfl, id⟩)) rfl
  generalize hw : answer x.ring _ u = w
  have ready : w.ready b := ⟨hw ▸ (quiet_settled _).answer settled, p.blocks.spread.subset fun e mem => by
    rw [← hw, answer_extents, ← hu] at mem
    exact mem⟩
  exact (State.ready.retryAll _ ready (ready.settled.producers v).1 fun _ mem => mem).settled

end
end Sys2Proof.Machine
end

section
/-! Definitions, FORMAT and the resets keep the invariant of the epochs and marks; so each step keeps the laws of the epochs and marks. -/
namespace Sys2Proof.Machine

section
variable {b : Bool} {s t : State} {v : Vol}

/-! ### Definitions -/

theorem VolumeDef.record_closed (d : VolumeDef) : ¬d.record.isOpen := by
  unfold VolumeDef.record Volume.isOpen
  split
  · rintro (is | is) <;> exact nomatch is
  · rintro (is | is) <;> exact nomatch is

theorem VolumeDef.record_epoch (d : VolumeDef) : d.record.epoch = none := by
  unfold VolumeDef.record
  split <;> rfl

/-- Volumes have taken their definitions: the records are as before, and no volume is open that was not. -/
structure State.defines (b : Bool) (s t : State) : Prop where
  settled : t.settled ⟨b, none, 0⟩
  extents : t.extents = s.extents
  closed : ∀ v, (t.vol v).isOpen → (s.vol v).isOpen

/-- A volume that is not open and has no record takes any definition. -/
theorem State.defines.takeDefinition (p : s.defines b t) {d : VolumeDef} (closed : ¬(s.vol v).isOpen) (empty : ∀ e ∈ s.extents, e.volume ≠ v) :
    s.defines b (takeDefinition v d t) := by
  have closedT : ¬(t.vol v).isOpen := fun opened => closed (p.closed v opened)
  unfold Machine.takeDefinition
  dsimp only
  generalize hu : (if d.repools (t.vol v).defn = true then _ else t) = u
  have pooled : u.settled ⟨b, none, 0⟩ ∧ u.extents = t.extents ∧ (∀ w, u.vol w = t.vol w) ∧ ∀ w, u.snapVol w = t.snapVol w := by
    rw [← hu]
    split
    · exact ⟨(quiet_settled _).calmReplVol rfl (fun _ => Nat.zero_le _) p.settled, rfl, fun _ => rfl, fun _ => rfl⟩
    · exact ⟨p.settled, rfl, fun _ => rfl, fun _ => rfl⟩
  obtain ⟨settled, extents, vols, snaps⟩ := pooled
  have o : u.only (u.setVol v d.record) v := State.only_setVol ..
  have here : (u.setVol v d.record).vol v = d.record := (State.vol_setVol ..).trans (if_pos rfl)
  have none : ∀ e ∈ u.extents, e.volume ≠ v := fun e mem => empty e (p.extents ▸ extents ▸ mem)
  have defined : (u.setVol v d.record).settled ⟨b, .none, 0⟩ := by
    obtain ⟨idle, retiring, -, gate, -⟩ := settled.volumes v
    refine settled.volume o (fun e mem at_v => absurd at_v (none e mem)) (settled.waits v)
      ⟨(settled.producers v).1, fun q mem active => o.producerOk (fun _ => rfl) ((settled.producers v).2 q mem active)⟩ ?_
      fun opened => absurd (vols v ▸ opened) closedT
    rw [here]
    exact ⟨idle, retiring, fun n current => (nomatch d.record_epoch.symm.trans current), fun waits => absurd (vols v ▸ gate waits) closedT,
      fun opened => absurd opened d.record_closed⟩
  refine ⟨(quiet_settled _).setVolumeAccounts defined, ?_, fun w opened => ?_⟩
  · refine Eq.trans ?_ (extents.trans p.extents)
    unfold setVolumeAccounts
    split <;> rfl
  · have vol : (setVolumeAccounts v d (u.setVol v d.record)).vol w = (u.setVol v d.record).vol w := by
      unfold setVolumeAccounts
      split <;> rfl
    rw [vol, State.vol_setVol] at opened
    split at opened
    · exact absurd opened d.record_closed
    · exact p.closed w (vols w ▸ opened)

theorem State.based.applyAccept (p : s.based ⟨b, none, 0⟩) : (applyAccept s).settled ⟨b, none, 0⟩ := by
  have all : s.defines b (volList.foldl (fun t v => if s.takesDefinition v then Machine.takeDefinition v (s.ps.volumeDef 0 v) t else t) s) := by
    refine List.foldlRecOn (motive := s.defines b) _ _ ⟨p.settled, rfl, fun _ => id⟩ fun t defines v _ => ?_
    split
    · next takes =>
      simp only [State.takesDefinition, State.volumeEmpty, Bool.or_eq_true, Bool.and_eq_true, decide_eq_true_iff, List.isEmpty_iff] at takes
      obtain undefined | ⟨defined, records, -⟩ := takes
      · exact defines.takeDefinition (fun opened => opened.state.1 undefined) fun e mem at_v => (p.settled.records e mem).fits.1.1 (at_v ▸ undefined)
      · refine defines.takeDefinition (fun opened => opened.state.2 defined) fun e mem at_v => ?_
        have inList : e ∈ s.records v := mem_records.2 ⟨mem, at_v⟩
        rw [records] at inList
        exact nomatch inList
    · exact defines
  exact (quiet_settled _).takeSettings ((quiet_settled _).takeLink all.settled)

theorem State.settled.takeAllDefinitions (p : s.settled ⟨b, none, 0⟩) (undefined : ∀ v, (s.vol v).state = .undefined) (n : Nat) :
    (takeAllDefinitions n s).settled ⟨b, none, 0⟩ := by
  have all : s.defines b (volList.foldl (fun t v => Machine.takeDefinition v (s.ps.volumeDef n v) t) s) :=
    List.foldlRecOn (motive := s.defines b) _ _ ⟨p, rfl, fun _ => id⟩ fun t defines v _ =>
      defines.takeDefinition (fun opened => opened.state.1 (undefined v)) fun e mem at_v => (p.records e mem).fits.1.1 (at_v ▸ undefined v)
  exact (quiet_settled _).takeSettings ((quiet_settled _).takeLink all.settled)

/-! ### FORMAT -/

theorem formatBusy_eq_false (free : s.formatBusy = false) : (∀ c, (s.restoreCtx c).phase = .free) ∧ ∀ c, (s.inCtx c).state = .free := by
  simp only [State.formatBusy, Bool.or_eq_false_iff, List.any_eq_false, decide_eq_true_iff, not_not] at free
  obtain ⟨⟨⟨⟨⟨⟨-, restores⟩, -⟩, inbound⟩, -⟩, -⟩, -⟩ := free
  exact ⟨fun c => restores c (mem_ctxList c), fun c => inbound c (mem_ctxList c)⟩

/-- An estate without records, snapshots, runs or pieces. -/
theorem State.settled_of_empty (extents : s.extents = []) (snaps : ∀ v, s.snapVol v = .empty) (vols : ∀ v, ¬(s.vol v).isOpen ∧ (s.vol v).epoch = none)
    (inbound : ∀ c, (s.inCtx c).state = .free) (flights : ∀ c, (s.restoreCtx c).flight = none) : s.settled ⟨b, none, 0⟩ where
  records e mem := by rw [extents] at mem; exact nomatch mem
  waits v := by rw [snaps]; exact fun none => absurd rfl none
  producers v := by rw [snaps]; exact ⟨List.nodup_nil, fun _ mem => nomatch mem⟩
  births c taken := absurd (inbound c) taken
  volumes v := by
    rw [snaps]
    exact ⟨fun _ => rfl, fun _ mem => (nomatch mem), fun n current => (nomatch (vols v).2.symm.trans current), fun none => absurd rfl none,
      fun opened => absurd opened (vols v).1⟩
  inbound c taken := absurd (inbound c) taken
  alone c _ _ taken := absurd (inbound c) taken
  flights c f flying := by rw [flights] at flying; exact nomatch flying

theorem Volume.formatted_closed (x : Volume) : ¬x.formatted.isOpen ∧ x.formatted.epoch = none := by
  refine ⟨fun opened => ?_, rfl⟩
  unfold Volume.isOpen Volume.formatted at opened
  dsimp only at opened
  split at opened <;> exact opened.elim nofun nofun

theorem State.based.reqFormat (p : s.based ⟨b, none, 0⟩) {r : RingNo} {tag : Nat} : (reqFormat r tag s).settled ⟨b, none, 0⟩ := by
  refine (quiet_settled _).reqFormat (fun free => ?_) p.settled
  obtain ⟨restores, inbound⟩ := formatBusy_eq_false free
  obtain ⟨z, m, u, frame⟩ := cancelQueued_frame s
  have ctxs : ∀ c, (cancelQueued s).inCtx c = s.inCtx c := fun c => by rw [frame]; rfl
  have pieces : ∀ c, (cancelQueued s).restoreCtx c = s.restoreCtx c := fun c => by rw [frame]; rfl
  unfold Machine.formatAccept
  dsimp only
  generalize cancelQueued s = w at ctxs pieces
  have emptied : (((w.setEtu ⟨[], w.etu.vols.map Volume.formatted⟩).setSu ⟨Vector.replicate 16 .empty⟩).setDr
      { ((w.setEtu ⟨[], w.etu.vols.map Volume.formatted⟩).setSu ⟨Vector.replicate 16 .empty⟩).dr with vols := Vector.replicate 16 .empty }).settled ⟨b, none, 0⟩ := by
    refine State.settled_of_empty rfl (fun v => ?_) (fun v => ?_) (fun c => ?_) fun c => ?_
    · exact (Fin.getElem_fin ..).trans (Vector.getElem_replicate ..)
    · change ¬(w.etu.vols.map Volume.formatted)[v].isOpen ∧ (w.etu.vols.map Volume.formatted)[v].epoch = none
      rw [Fin.getElem_fin, Vector.getElem_map]
      exact Volume.formatted_closed _
    · change (w.inCtx c).state = .free
      rw [ctxs]
      exact inbound c
    · change (w.restoreCtx c).flight = none
      rw [pieces, show s.restoreCtx c = .free from p.flights.1 c (restores c)]
      rfl
  generalize State.setDr _ _ = y at emptied ⊢
  exact (quiet_settled _).setPs trivial ((quiet_settled _).formatAccounts emptied)

theorem State.based.formatEnd (p : s.based ⟨b, none, 0⟩) : NextHas (State.settled ⟨b, none, 0⟩) (execFormatEnd s) := by
  unfold execFormatEnd
  split
  · have ended : (s.setPs { s.ps with format := none }).settled ⟨b, none, 0⟩ := (quiet_settled _).setPs trivial p.settled
    refine .next ((quiet_settled _).answerIf ((quiet_settled _).leaveSafe trivial (fun safe n k => ?_) ended))
    have undefined : ∀ v, (s.vol v).state = .undefined := p.snaps.safe safe
    have free : ((s.setPs { s.ps with format := none }).setFree k).settled ⟨b, none, 0⟩ := (quiet_settled _).setFree ended
    exact free.takeAllDefinitions undefined n
  · exact .next p.settled

/-! ### The resets -/

theorem reset_settled : State.reset.settled ⟨b, none, 0⟩ := by
  obtain ⟨-, linked, snaps, blocks, epochs, trims, -⟩ := resetLeavesColdStartValues
  exact State.settled_of_laws linked snaps blocks epochs fun _ => trims

theorem State.settled.coldStart (strap : Bool) (n : Nat) (s : State) : NextHas (State.settled ⟨b, none, 0⟩) (execColdStart strap n s) := by
  have cold : (coldBase strap (cutUnit n s)).settled ⟨b, none, 0⟩ := reset_settled.calm_of_same (.of_same rfl rfl rfl rfl) rfl
  unfold execColdStart
  dsimp only
  split
  · refine .next (State.settled.takeAllDefinitions (b := b) ((quiet_settled _).setPs trivial cold) (fun v => ?_) 0)
    obtain ⟨-, -, snaps, -⟩ := resetLeavesColdStartValues
    exact snaps.safe rfl v
  · exact .next cold

theorem State.settled.functionReset (p : s.settled ⟨b, none, 0⟩) (n : Nat) : (functionResetState n s).settled ⟨b, none, 0⟩ := by
  refine (quiet_settled _).functionResetState trivial (fun {t} p => p.calm_of_same ?_ rfl) (fun {t} p => p.calm_of_same ?_ rfl) p
  · refine ⟨fun _ => .refl _, fun v => ?_, fun _ => .refl _, fun _ => .refl _, fun _ => rfl⟩
    change t.su.vols[v].calm (t.su.vols.map SnapVol.functionReset)[v]
    rw [Fin.getElem_fin, Fin.getElem_fin, Vector.getElem_map]
    exact ⟨rfl, by simp [SnapVol.functionReset, RetireEntry.silenced], rfl, rfl, fun _ => rfl⟩
  · refine ⟨fun _ => .refl _, fun _ => .refl _, fun _ => .refl _, fun _ => .refl _, fun v => ?_⟩
    change (t.dr.vols.map ReplVol.silenced)[v].reset.map ResetJob.left = t.dr.vols[v].reset.map ResetJob.left
    rw [Fin.getElem_fin, Fin.getElem_fin, Vector.getElem_map]
    unfold ReplVol.silenced
    rw [Option.map_map]
    rfl

/-! ### Every command -/

theorem State.based.requests (p : s.based ⟨b, none, 0⟩) : Requests (State.settled ⟨b, none, 0⟩) s where
  charge _ _ _ := p.settled.reqCharge
  split _ _ _ := p.settled.reqSplit
  drop _ _ _ := p.reqDrop
  loadSnapshot _ _ _ := p.reqLoadSnapshot
  loadExtent _ _ _ := p.reqLoadExtent
  openVolume _ _ _ := p.reqOpenVolume
  replicaReset _ _ _ := p.reqReplicaReset
  applyDefinitions _ _ := (quiet_settled _).reqApplyDefinitions p.applyAccept p.settled
  format _ _ := p.reqFormat

theorem State.based.exec (c : Instr) (p : s.based ⟨b, none, 0⟩) : NextHas (State.settled ⟨b, none, 0⟩) (exec c s) :=
  (steady_settled _).exec (c := c) (fun _ => trivial)
    { toRequests := p.requests
      intake := fun _ => (p.setRing _ _).requests
      trimScanStep := fun _ => p.trimScanStep rfl
      takeComplete := fun _ _ _ => p.takeComplete
      makePiece := fun _ _ flying waits _ => p.makePiece flying waits
      offer := p.settled.takeOffer
      commitScanStep := fun _ => p.commitScanStep
      rollbackScanStep := fun _ => p.rollbackScanStep
      replicaResetEmpty := fun _ => p.replicaResetEmpty
      replicaResetAppend := fun _ => p.replicaResetAppend
      formatEnd := fun _ => p.formatEnd
      coldStart := fun strap n _ => State.settled.coldStart strap n s
      functionReset := p.settled.functionReset } p.settled

theorem State.based_of_laws (linked : s.linked) (snaps : s.snapsLawful) (blocks : s.blocksLawful) (epochs : s.epochsLawful)
    (trims : b = true → (∀ v, (s.vol v).state = .defined → (s.snapVol v).retire = []) ∧ s.trimsLawful) : s.based ⟨b, none, 0⟩ where
  settled := State.settled_of_laws linked snaps blocks epochs fun also => (trims also).2
  snaps := snaps
  blocks := blocks
  flights := linked.flights
  unretired also := (trims also).1

theorem State.based.setPending {l : List Instr} (p : s.based ⟨b, none, 0⟩) : (s.setPending l).based ⟨b, none, 0⟩ where
  settled := p.settled.calm_of_same (.of_same rfl rfl rfl rfl) rfl
  snaps := { p.snaps with }
  blocks := { p.blocks with }
  flights := p.flights
  unretired := p.unretired

theorem State.based.step (p : s.based ⟨b, none, 0⟩) (next : step s = .next t) : t.settled ⟨b, none, 0⟩ := by
  unfold Machine.step at next
  split at next
  · exact Host.Outcome.next.inj next ▸ p.settled
  · next c rest _ => exact NextHas.next_iff.1 (next ▸ p.setPending.exec c)

/-- Settles O11: the invariant `State.settled` goes through the quiet updates that make up most commands (`quiet_settled`), and each other command keeps it from a state that has the laws. -/
theorem stepKeepsEpochLaws : Obligations.StepKeepsEpochLaws := by
  unfold Obligations.StepKeepsEpochLaws
  intro s t _ linked snaps blocks epochs next
  refine ⟨((State.based_of_laws (b := false) linked snaps blocks epochs nofun).step next).epochsLawful, fun unretired trims => ?_⟩
  exact ((State.based_of_laws (b := true) linked snaps blocks epochs fun _ => ⟨unretired, trims⟩).step next).trimsLawful

end
end Sys2Proof.Machine
end
